-- ==== Sys2Proof/Word.lean ====
section
/-! DEFINITION. The plainest number types of the part: bytes on the line and in the boot memory, chainages in mm. -/

namespace Sys2Proof

/-- A byte of a frame or of the boot memory. -/
abbrev Byte := BitVec 8

/-- A signed chainage in mm (00 section 4.2), or in µm where a name says so. -/
abbrev Chainage := Int

/-- The byte that holds `n` modulo 256. -/
abbrev byteOf (n : Nat) : Byte := BitVec.ofNat 8 n

end Sys2Proof
end

