-- ==== Sys2Proof/Config.lean ====
section
/-! DEFINITION. Constants of the spec that no boot record changes, and the free values: the codes to which the
spec gives no meaning. A free value is an opaque constant with no body, so no proof can rest on what it is. -/

namespace Sys2Proof.Config

/-- U_max, 2000 mm (R23). -/
abbrev uMax : Nat := 2000

/-- Least U, and U right after a marker (R18, R27). -/
abbrev uMin : Nat := 10

/-- The position range of the map in µm (R18, R22). -/
abbrev accMin : Int := -100000000
abbrev accMax : Int := 4100000000

/-- Where the travel accumulator stops, in µm (R21). -/
abbrev travelMax : Nat := 2000000000

/-- Places in the own claim list, the transmit queue, the trail stack, the request queue, a held list, a set of
pending notes (R51, R181, R125, R155, R37). -/
abbrev places : Nat := 8

/-- Largest overlap of two segments of one line, mm (R7). -/
abbrev overlapMax : Int := 2000

/-- FREE VALUE (log 7): whether a boot record's valid mark byte other than 0 and 1 counts as valid. -/
opaque validMarkOf : Nat → Bool

/-- FREE VALUE (log 7): whether a line end's kind byte other than 0 and 1, the model's codes, counts as JOINED. -/
opaque endJoinedOf : Nat → Bool

/-- FREE VALUE (log 7): the kind (0 PLAIN, 1 GUARD, 2 DECK) of a segment kind byte other than 0, 1 and 2. -/
opaque segmentKindOf : Nat → Fin 3

/-- FREE VALUE (log 8): the frame (0 UNKNOWN, 1 LINE, 2 DECK) of a beacon line byte in 8–253. -/
opaque beaconFrameOf : Nat → Fin 3

end Sys2Proof.Config
end

