-- ==== Sys2Proof/Syntax.lean ====
section
/-! DEFINITION. The commands of the part: one constructor of `Instr` per row of spec/opcode_table.json, and the
types of their operands. Every command begins with `dt`, the microseconds since the command before it (log 1). -/

namespace Sys2Proof

/-- The role a station is strapped into (00 section 1.1). -/
inductive Role where
  | carriage | turntable
  deriving DecidableEq, Repr, Inhabited

/-- Direction of travel along a line's axis (00 section 4.2). -/
inductive Dir where
  | up | down
  deriving DecidableEq, Repr, Inhabited

/-- The direction opposite to `d`. -/
def Dir.opposite : Dir → Dir
  | .up => .down
  | .down => .up

/-- A rank as it travels in a frame: wait count and courtesy mark (R54). The station number that breaks ties is
the station whose rank it is. -/
structure Rank where
  wait : Nat := 0
  courtesy : Bool := false
  deriving DecidableEq, Repr, Inhabited

/-- The kinds of objection (layout table of R175). -/
inductive Objection where
  | holds | outranks | occupied
  deriving DecidableEq, Repr, Inhabited

/-- The answers of a TURN-ANSWER frame (layout table of R175). -/
inductive TurnAnswer where
  | grant | exit | refusedFull | revoked | notCentred | fault
  deriving DecidableEq, Repr, Inhabited

/-- The kinds of frame (R174). -/
inductive FrameKind where
  | beacon | claim | object | release | yieldAsk | order | turnAsk | turnAnswer | turnAboard | turnClear
  deriving DecidableEq, Repr, Inhabited

/-- One slot of a held list: a segment and its yielding mark (R37). -/
structure HeldItem where
  seg : Nat := 0
  yielding : Bool := false
  deriving DecidableEq, Repr, Inhabited

/-- The body of a carriage BEACON, field for field (R175). Codes are kept as sent. -/
structure CarriageBeacon where
  period : Nat := 0
  line : Nat := 0
  deckTurntable : Nat := 0
  centre : Chainage := 0
  u : Nat := 0
  halfLength : Nat := 0
  commanded : Nat := 0
  effective : Nat := 0
  dir : Dir := .up
  loaded : Bool := false
  doubt : Bool := false
  clamped : Bool := false
  recovered : Bool := false
  fault : Bool := false
  wait : Nat := 0
  orderCode : Nat := 0
  reason : Nat := 0
  orderNumber : Nat := 0
  cursor : Nat := 0
  held : List HeldItem := []
  home : Nat := 255
  badCount : Nat := 0
  resendCount : Nat := 0
  deriving DecidableEq, Repr, Inhabited

/-- The body of a turntable BEACON, field for field (R175). It carries no wait count. -/
structure TurntableBeacon where
  period : Nat := 0
  turntable : Nat := 0
  aligned : Nat := 0
  deck : Nat := 0
  holder : Nat := 0
  clamped : Bool := false
  fault : Bool := false
  faultExit : Bool := false
  reason : Nat := 0
  queue : List Nat := []
  held : List HeldItem := []
  badCount : Nat := 0
  resendCount : Nat := 0
  deriving DecidableEq, Repr, Inhabited

/-- How a leg ends: at the target, or over a turntable to an exit arm (R100). -/
inductive LegEnd where
  | target
  | turntable (number exitArm : Nat)
  deriving DecidableEq, Repr, Inhabited

/-- One leg of a route (R100). -/
structure Leg where
  line : Nat := 0
  dir : Dir := .up
  stop : LegEnd := .target
  deriving DecidableEq, Repr, Inhabited

/-- The target of a MOVE, FETCH or PLACE as given: a pad, or a point of a line (R100). -/
inductive Target where
  | pad (number : Nat)
  | point (line : Nat) (chainage : Chainage)
  deriving DecidableEq, Repr, Inhabited

/-- What a MOVE, FETCH or PLACE carries beyond the common part of an ORDER. -/
structure RouteOrder where
  target : Target := .pad 0
  legs : List Leg := []
  deriving DecidableEq, Repr, Inhabited

/-- The common part of an ORDER frame: sender, target station, order number (R175). -/
structure OrderHead where
  src : Nat := 30
  target : Nat := 0
  number : Nat := 0
  deriving DecidableEq, Repr, Inhabited

/-- The header of a frame from a track station: sender and role (R174). -/
structure FrameHead where
  src : Nat := 1
  role : Role := .carriage
  deriving DecidableEq, Repr, Inhabited

/-- The four configuration blocks of the boot memory and whether the park record was delivered, as the memory
delivers them in BOOT-READ (R189). A list shorter or longer than its block is a block not delivered in full. -/
structure BootImage where
  parameters : List Byte := []
  mapBlock : List Byte := []
  pads : List Byte := []
  markers : List Byte := []
  parkDelivered : Bool := true
  deriving DecidableEq, Repr, Inhabited

/-- The commands, one constructor per row of the opcode table. -/
inductive Instr where
  | resetAsserted (dt : Nat)
  | resetReleased (dt : Nat)
  | bootReadComplete (dt : Nat) (image : BootImage) (loadSensed : Bool)
  | listenInEnd (dt : Nat)
  | bodyClaimRetry (dt : Nat)
  | badFrameReceived (dt : Nat) (bytes : List Byte)
  | duplicateStationFrame (dt : Nat) (kind : FrameKind)
  | carriageBeaconReceived (dt src : Nat) (b : CarriageBeacon)
  | turntableBeaconReceived (dt src : Nat) (b : TurntableBeacon)
  | claimReceived (dt : Nat) (h : FrameHead) (seg tag : Nat) (rank : Rank)
  | objectReceived (dt : Nat) (h : FrameHead) (seg : Nat) (kind : Objection) (rank : Rank) (claimant : Nat)
  | releaseReceived (dt : Nat) (h : FrameHead) (segs : List Nat)
  | yieldAskReceived (dt : Nat) (h : FrameHead) (seg holder wait : Nat)
  | orderMove (dt : Nat) (o : OrderHead) (r : RouteOrder)
  | orderFetch (dt : Nat) (o : OrderHead) (r : RouteOrder)
  | orderPlace (dt : Nat) (o : OrderHead) (r : RouteOrder)
  | orderBadKind (dt : Nat) (o : OrderHead) (kind : Nat)
  | orderHalt (dt : Nat) (o : OrderHead)
  | orderResume (dt : Nat) (o : OrderHead)
  | orderCancel (dt : Nat) (o : OrderHead)
  | orderSetPosition (dt : Nat) (o : OrderHead) (line : Nat) (chainage : Chainage) (uncertainty : Nat)
  | orderClearPeer (dt : Nat) (o : OrderHead) (peer : Nat)
  | turnAskReceived (dt : Nat) (h : FrameHead) (turntable entryArm exitArm : Nat)
  | turnAboardReceived (dt : Nat) (h : FrameHead) (turntable : Nat)
  | turnClearReceived (dt : Nat) (h : FrameHead) (turntable : Nat)
  | turnAnswerGrant (dt : Nat) (h : FrameHead) (addressed arm : Nat)
  | turnAnswerExit (dt : Nat) (h : FrameHead) (addressed arm : Nat)
  | turnAnswerRefusedFull (dt : Nat) (h : FrameHead) (addressed arm : Nat)
  | turnAnswerFault (dt : Nat) (h : FrameHead) (addressed arm : Nat)
  | turnAnswerRevoked (dt : Nat) (h : FrameHead) (addressed arm : Nat)
  | turnAnswerNotCentred (dt : Nat) (h : FrameHead) (addressed arm : Nat)
  | sendPointReached (dt : Nat)
  | echoGood (dt : Nat)
  | echoFailed (dt : Nat)
  | beaconTimerExpiry (dt : Nat)
  | silenceTimerExpiry (dt : Nat)
  | recoveryTimerExpiry (dt : Nat)
  | listenWindowEnd (dt seg : Nat)
  | holdLimitReached (dt seg : Nat)
  | pendingNoteExpiry (dt station seg : Nat)
  | peerStale (dt station : Nat)
  | peerLost (dt station : Nat)
  | orderEvaluationTimer (dt : Nat)
  | blockTimeExpiry (dt : Nat)
  | passageRetryDue (dt : Nat)
  | turntableEvaluationTimer (dt : Nat)
  | guardRetryTime (dt : Nat)
  | entryTimerExpiry (dt : Nat)
  | exitTimerExpiry (dt : Nat)
  | rotationTimerExpiry (dt : Nat)
  | armAlignedChange (dt : Nat) (arm : Option Nat)
  | rotationFaultChange (dt : Nat) (active : Bool)
  | deckSensorChange (dt : Nat) (occupied centred clear : Bool)
  | countReport (dt : Nat) (counts : Int)
  | confirmedStepChange (dt step : Nat)
  | stepDwellEnd (dt : Nat)
  | driveFaultChange (dt : Nat) (active : Bool)
  | inPositionActive (dt : Nat)
  | dockingIndexChange (dt : Nat) (active : Bool)
  | dockingDebounceExpiry (dt : Nat)
  | markerPresentChange (dt : Nat) (present : Bool) (number : Nat)
  | markerDebounceExpiry (dt : Nat)
  | atTopChange (dt : Nat) (active loadSensed : Bool)
  | atBottomChange (dt : Nat) (active loadSensed : Bool)
  | liftFaultChange (dt : Nat) (active : Bool)
  | liftTimeout (dt : Nat)
  | parkWriteComplete (dt : Nat)
  | carrierHeard (dt : Nat)
  deriving DecidableEq, Repr

end Sys2Proof
end

