-- ==== Sys2Proof/Machine/State.lean ====
section
/-! DEFINITION. The state of the part, block by block as 00 section 2.1 names them, its value after reset, and the
reasons a command could stop. Every default below is the Default of the spec's field tables, or a value named in
notes/assumptions. Times are in ms unless a name says µs. -/

namespace Sys2Proof.Machine

/-! ## Map store (R1) -/

/-- One end of a line: what it meets (R2). -/
structure EndRec where
  joined : Bool := false
  turntable : Nat := 0
  arm : Nat := 0
  deriving DecidableEq, Repr, Inhabited

/-- A line slot (section 1.2). -/
structure LineSlot where
  valid : Bool := false
  low : Chainage := 0
  high : Chainage := 0
  lowEnd : EndRec := {}
  highEnd : EndRec := {}
  deriving DecidableEq, Repr, Inhabited

/-- One arm of a turntable: present, the line it meets, and whether it meets the high end (section 1.3). -/
structure ArmRec where
  present : Bool := false
  line : Nat := 0
  atHigh : Bool := false
  deriving DecidableEq, Repr, Inhabited

/-- A turntable slot (section 1.3). -/
structure TurntableSlot where
  valid : Bool := false
  ld : Nat := 0
  arms : Vector ArmRec 4 := Vector.replicate 4 {}
  deriving DecidableEq, Repr, Inhabited

/-- The kinds of segment (R5). -/
inductive SegKind where
  | plain | guard | deck
  deriving DecidableEq, Repr, Inhabited

/-- A segment slot (section 1.4). -/
structure SegmentSlot where
  valid : Bool := false
  kind : SegKind := .plain
  line : Nat := 0
  base : Chainage := 0
  length : Chainage := 0
  turntable : Nat := 0
  deriving DecidableEq, Repr, Inhabited

/-- A pad slot (R8). -/
structure PadSlot where
  valid : Bool := false
  line : Nat := 0
  chainage : Chainage := 0
  tolerance : Nat := 5
  deriving DecidableEq, Repr, Inhabited

/-- A marker slot (R10). -/
structure MarkerSlot where
  valid : Bool := false
  line : Nat := 0
  chainage : Chainage := 0
  deriving DecidableEq, Repr, Inhabited

/-- The five tables of the map store (R1). -/
structure TrackMap where
  lines : Vector LineSlot 8 := Vector.replicate 8 {}
  turntables : Vector TurntableSlot 4 := Vector.replicate 4 {}
  segments : Vector SegmentSlot 128 := Vector.replicate 128 {}
  pads : Vector PadSlot 64 := Vector.replicate 64 {}
  markers : Vector MarkerSlot 256 := Vector.replicate 256 {}
  deriving DecidableEq, Repr, Inhabited

/-! ## Inputs, boot memory, start-up, parameters -/

/-- The levels the outside presents. A reset of the part does not change them (log 5). -/
structure Inputs where
  confirmed : Nat := 0
  driveFault : Bool := false
  dockRaw : Bool := false
  markerPresent : Bool := false
  markerNumber : Nat := 0
  atTop : Bool := false
  atBottom : Bool := false
  liftFault : Bool := false
  loadSensed : Bool := false
  armAligned : Option Nat := none
  rotationFault : Bool := false
  deckOccupied : Bool := false
  deckCentred : Bool := false
  deckClear : Bool := false
  /-- Since when the line has been quiet, in µs; `none` while there is carrier (R179, log 9). -/
  quietSince : Option Nat := some 0
  deriving DecidableEq, Repr, Inhabited

/-- Bytes of the boot memory, in rising address order (log 6). -/
abbrev Memory := List Host.Cell

/-- The start phases (R188–R193). -/
inductive Phase where
  | reset | bootRead | listenIn | bodyClaim | ready | startFault
  deriving DecidableEq, Repr, Inhabited

/-- What start-up control holds (R188, R192, R193). -/
structure Startup where
  phase : Phase := .reset
  clamped : Bool := false
  retryMark : Bool := false
  listenEnd : Option Nat := none
  retryAt : Option Nat := none
  asking : Bool := false
  deriving DecidableEq, Repr, Inhabited

/-- The boot parameters (R190 and the rules it names). Units are those of the boot record. -/
structure Params where
  station : Nat := 1
  role : Role := .carriage
  len : Nat := 2000
  ladder : Vector Nat 8 := #v[0, 10, 10, 10, 10, 10, 10, 10]
  aEmpty : Nat := 20
  aLoaded : Nat := 20
  tr : Nat := 2000
  margin : Nat := 10000
  dwell : Nat := 800
  drift : Nat := 1
  debounce : Nat := 0
  scale : Nat := 50
  hold : Nat := 2
  window : Nat := 100
  beacon : Nat := 250
  blockTime : Nat := 120
  turntable : Nat := 0
  entryTimeout : Nat := 90
  exitTimeout : Nat := 90
  rotationTimeout : Nat := 60
  liftTimeout : Nat := 180
  centring : Nat := 10
  deriving DecidableEq, Repr, Inhabited

/-! ## Position unit (R18) -/

/-- The frame a position is kept in (R19). -/
inductive Frame where
  | unknown | line | deck
  deriving DecidableEq, Repr, Inhabited

/-- The marker latch (R25); a timer is the ms at which it runs out. -/
inductive MarkerLatch where
  | idle
  | settling (number due : Nat)
  | taken (due : Option Nat)
  deriving DecidableEq, Repr, Inhabited

structure Position where
  frame : Frame := .unknown
  line : Nat := 0
  deckTurntable : Nat := 0
  entryArm : Nat := 0
  acc : Int := 0
  centre : Chainage := 0
  dir : Dir := .up
  travelAcc : Nat := 0
  travel : Nat := 0
  uRef : Nat := 2000
  u : Nat := 2000
  doubt : Bool := false
  latch : MarkerLatch := .idle
  deriving DecidableEq, Repr, Inhabited

/-! ## Peer table (R37, R38) -/

/-- Freshness of a peer entry (R45). -/
inductive Freshness where
  | absent | fresh | stale | lost
  deriving DecidableEq, Repr, Inhabited

/-- A pending note: a claim heard whose window may still be open (R42). -/
structure Note where
  seg : Nat := 0
  rank : Rank := {}
  expiry : Nat := 0
  deriving DecidableEq, Repr, Inhabited

/-- One entry of the peer table. Order states, reasons, deck states and fault reasons are kept as the codes the
peer sent (R37 "as reported"). -/
structure PeerEntry where
  state : Freshness := .absent
  role : Role := .carriage
  lastHeard : Nat := 0
  beaconed : Bool := false
  period : Nat := 8000
  frame : Frame := .unknown
  line : Nat := 0
  deckTurntable : Nat := 0
  centre : Chainage := 0
  u : Nat := 2000
  halfLength : Nat := 0
  effective : Nat := 0
  orderCode : Nat := 0
  reason : Nat := 0
  held : List HeldItem := []
  rank : Rank := {}
  notes : List Note := []
  turntableId : Nat := 0
  deckState : Nat := 6
  alignedArm : Nat := 0
  holder : Nat := 0
  queue : List Nat := []
  faultReason : Nat := 0
  deriving DecidableEq, Repr, Inhabited

/-! ## Claim block (R51, R53) -/

inductive ClaimState where
  | listening | held | yielding
  deriving DecidableEq, Repr, Inhabited

/-- Why a segment is wanted (R52). -/
inductive Purpose where
  | body | ahead | guard | deck | back
  deriving DecidableEq, Repr, Inhabited

/-- The block a claim's answers go to (R52, R57). -/
inductive Asker where
  | startup | setPosition | order | backing | turntable
  deriving DecidableEq, Repr, Inhabited

/-- One entry of the own claim list (R51). -/
structure ClaimEntry where
  seg : Nat
  state : ClaimState := .listening
  purpose : Purpose := .ahead
  asker : Asker := .order
  tag : Nat := 0
  courtesy : Bool := false
  windowEnd : Option Nat := none
  wonTime : Option Nat := none
  pendingYield : Option Nat := none
  drop : Bool := false
  deriving DecidableEq, Repr, Inhabited

structure ClaimBlock where
  entries : List ClaimEntry := []
  waitCount : Nat := 0
  stamps : Vector (Option Nat) 128 := Vector.replicate 128 none
  owed : Vector Bool 128 := Vector.replicate 128 false
  deckReserve : Bool := false
  nextTag : Nat := 1
  deriving DecidableEq, Repr, Inhabited

/-! ## Motion envelope (R79) -/

structure Envelope where
  commanded : Nat := 0
  lastRaise : Option Nat := none
  latch : Bool := true
  pendingDir : Option Dir := none
  emptyTable : Vector Nat 8 := Vector.replicate 8 0
  loadedTable : Vector Nat 8 := Vector.replicate 8 0
  /-- The final approach for the present stop point has been handed on (R85). -/
  handedOn : Bool := false
  /-- The stop point of the final-position demand, while the demand is given (R99, R142). -/
  finalStop : Option Chainage := none
  deriving DecidableEq, Repr, Inhabited

/-! ## Order unit (R100) -/

inductive OrderKind where
  | move | fetch | place
  deriving DecidableEq, Repr, Inhabited

inductive OrderState where
  | idle | running | waiting | halted | loading | backing | done | stopped | failed
  deriving DecidableEq, Repr, Inhabited

inductive Reason where
  | none | busy | route | pad | unknownPosition | position | conflict | drive | lift | noLoad | dock | turntable
  | line | emergency | cancelled | duplicate
  deriving DecidableEq, Repr, Inhabited

/-- A report due in the next beacon (R102). -/
structure Answer where
  number : Nat
  state : OrderState
  reason : Reason
  leg : Nat := 0
  deriving DecidableEq, Repr, Inhabited

structure OrderUnit where
  number : Nat := 0
  kind : OrderKind := .move
  target : Target := .point 0 0
  line : Nat := 0
  chainage : Chainage := 0
  route : List Leg := []
  cursor : Nat := 0
  origin : Nat := 30
  state : OrderState := .idle
  reason : Reason := .none
  resume : Option OrderState := none
  haltOperator : Bool := false
  haltLine : Bool := false
  blocked : Bool := false
  waitStart : Option Nat := none
  /-- The present leg's stop point, given to the envelope while the order is RUNNING (R109). -/
  legStop : Option Chainage := none
  /-- Leg 1 was begun in frame DECK and waits for the EXIT transfer (R109). -/
  aboardStart : Bool := false
  askTimes : Vector (Option Nat) 128 := Vector.replicate 128 none
  answer : Option Answer := none
  /-- The segments that SET-POSITION asks for under the body and has not yet won (R121, log 18). -/
  bodyOwed : List Nat := []
  evalTimer : Option Nat := none
  deriving DecidableEq, Repr, Inhabited

/-! ## Backing (R129) -/

structure Popped where
  seg : Nat
  claimed : Bool := false
  listedBefore : Bool := false
  entered : Bool := false
  /-- Its claim was answered LOST, which fails the backing at its next evaluation (R130). -/
  lost : Bool := false
  deriving DecidableEq, Repr, Inhabited

structure Backing where
  asker : Nat
  seg : Nat
  origin : OrderState
  forward : Dir
  stop : Chainage
  horizon : Chainage
  popped : List Popped := []
  released : Bool := false
  deriving DecidableEq, Repr, Inhabited

/-! ## Approach, lift and park record (R137, R139, R143, R150–R152) -/

inductive ApproachState where
  | none | attempt | checking | reached | aboardAsked
  deriving DecidableEq, Repr, Inhabited

inductive StopKind where
  | pad | point | deck | back
  deriving DecidableEq, Repr, Inhabited

/-- The debounced docking index (R139). -/
inductive IndexReading where
  | inactive | settling | active
  deriving DecidableEq, Repr, Inhabited

structure Approach where
  state : ApproachState := .none
  kind : StopKind := .pad
  stop : Chainage := 0
  tolerance : Nat := 10
  attempts : Nat := 0
  docked : Bool := false
  dockedPad : Option Nat := none
  deriving DecidableEq, Repr, Inhabited

structure DockIndex where
  reading : IndexReading := .inactive
  timer : Option Nat := none
  deriving DecidableEq, Repr, Inhabited

inductive LiftState where
  | lowered | raising | raised | lowering | stoppedMid | fault
  deriving DecidableEq, Repr, Inhabited

inductive LoadState where
  | empty | loaded
  deriving DecidableEq, Repr, Inhabited

inductive LiftOperation where
  | fetch | place | none
  deriving DecidableEq, Repr, Inhabited

structure Lift where
  state : LiftState := .fault
  operation : LiftOperation := .none
  /-- The rest at which the present operation began: `true` is RAISED. -/
  startRaised : Bool := false
  travelDir : Dir := .up
  returning : Bool := false
  timer : Option Nat := none
  load : LoadState := .empty
  deriving DecidableEq, Repr, Inhabited

/-- The content of a park record (R151, R191). -/
structure ParkRecord where
  valid : Bool
  line : Nat
  centre : Chainage
  pad : Option Nat
  load : LoadState
  deriving DecidableEq, Repr, Inhabited

structure Park where
  inFlight : Option ParkRecord := none
  waiting : Option ParkRecord := none
  /-- A valid record stands requested, or accepted at start, with no raise from 0 since (R152). -/
  validOut : Bool := false
  /-- No raise from 0 since the order, or the backing, ended (R151). -/
  restOpen : Bool := false
  /-- A valid record is to be requested at the next moment the conditions of R151 hold. -/
  due : Bool := false
  deriving DecidableEq, Repr, Inhabited

/-! ## Turntable unit (R153, R155) -/

inductive DeckState where
  | idle | claiming | rotating | awaitEntry | aboard | awaitExit | fault
  deriving DecidableEq, Repr, Inhabited

inductive DeckReason where
  | none | noArm | timeout | drive | conflict
  deriving DecidableEq, Repr, Inhabited

inductive RotationPurpose where
  | entry | exit | none
  deriving DecidableEq, Repr, Inhabited

structure Holder where
  station : Nat
  entryArm : Nat
  exitArm : Nat
  deriving DecidableEq, Repr, Inhabited

structure Request where
  station : Nat
  entryArm : Nat
  exitArm : Nat
  arrival : Nat
  deriving DecidableEq, Repr, Inhabited

/-- Whether an EXIT answer is still to be made, or to be offered again (R163). -/
inductive ExitOwed where
  | none | toMake | toOffer
  deriving DecidableEq, Repr, Inhabited

structure Turntable where
  deck : DeckState := .fault
  aligned : Nat := 0
  target : Option Nat := none
  purpose : RotationPurpose := .none
  holder : Option Holder := none
  aboard : Bool := false
  clearHeard : Bool := false
  releasePending : Bool := false
  retryTime : Option Nat := none
  grantHold : Bool := false
  reason : DeckReason := .noArm
  faultExit : Bool := false
  entryTimer : Option Nat := none
  exitTimer : Option Nat := none
  rotationTimer : Option Nat := none
  queue : List Request := []
  grantOwed : Bool := false
  exitOwed : ExitOwed := .none
  evalTimer : Option Nat := none
  deriving DecidableEq, Repr, Inhabited

/-! ## Passage record (R168) -/

inductive PassageState where
  | none | asked | granted | aboardSent | accepted | leaving
  deriving DecidableEq, Repr, Inhabited

structure Passage where
  state : PassageState := .none
  turntable : Nat := 0
  entryArm : Nat := 0
  exitArm : Nat := 0
  askTime : Option Nat := none
  aboardTime : Option Nat := none
  retryDue : Option Nat := none
  /-- A TURN-ASK that the queue refused or displaced is to be offered again (R168, log 15). -/
  askOwed : Bool := false
  /-- The turntables to which a TURN-CLEAR that the queue refused, displaced or dropped is to be sent again (R182, log 17). -/
  clearsOwed : List Nat := []
  deriving DecidableEq, Repr, Inhabited

/-! ## Line interface (R173) -/

/-- A frame the part makes. A beacon has no content while it waits (R183). -/
inductive OutFrame where
  | beacon
  | claim (seg tag : Nat) (rank : Rank)
  | object (seg : Nat) (kind : Objection) (rank : Rank) (claimant : Nat)
  | release (segs : List Nat)
  | yieldAsk (seg holder wait : Nat)
  | turnAsk (turntable entryArm exitArm : Nat)
  | turnAnswer (addressed : Nat) (answer : TurnAnswer) (arm : Nat)
  | turnAboard (turntable : Nat)
  | turnClear (turntable : Nat)
  deriving DecidableEq, Repr, Inhabited

/-- A place of the transmit queue: the frame, how often it has been sent, whether it is in flight, and whether its
maker gave it up while it was in flight (R58, R181, R185). -/
structure QueueItem where
  frame : OutFrame
  sends : Nat := 0
  inFlight : Bool := false
  orphan : Bool := false
  deriving DecidableEq, Repr, Inhabited

inductive LineState where
  | heard | silent | recovering
  deriving DecidableEq, Repr, Inhabited

structure LineIf where
  queue : List QueueItem := []
  beaconTimer : Option Nat := none
  beaconDue : Bool := false
  period : Nat := 250
  courtesy : Bool := false
  badCount : Nat := 0
  resendCount : Nat := 0
  state : LineState := .heard
  silenceTimer : Option Nat := none
  recoveryTimer : Option Nat := none
  recovered : Bool := false
  fault : Bool := false
  /-- The bytes being sent, while a frame is in flight (R174, R183). -/
  sending : Option (List Byte) := none
  /-- The beacon in flight carries LINE-RECOVERED (R187). -/
  sentRecovered : Bool := false
  deriving DecidableEq, Repr, Inhabited

/-! ## The part and its queue of commands -/

/-- Everything the spec gives the part, block by block (00 section 2.1), with the clock in µs. -/
structure Station where
  now : Nat := 0
  inputs : Inputs := {}
  bootMem : Memory := []
  start : Startup := {}
  par : Params := {}
  map : TrackMap := {}
  pos : Position := {}
  peers : Vector PeerEntry 29 := Vector.replicate 29 {}
  claims : ClaimBlock := {}
  env : Envelope := {}
  order : OrderUnit := {}
  trail : List Nat := []
  backing : Option Backing := none
  appr : Approach := {}
  index : DockIndex := {}
  lift : Lift := {}
  park : Park := {}
  tt : Turntable := {}
  passage : Passage := {}
  line : LineIf := {}
  deriving DecidableEq, Repr, Inhabited

/-! Named updates, one per block; Laws/State.lean says what each leaves alone. -/

def Station.withNow (s : Station) (x : Nat) : Station := { s with now := x }
def Station.withInputs (s : Station) (x : Inputs) : Station := { s with inputs := x }
def Station.withBootMem (s : Station) (x : Memory) : Station := { s with bootMem := x }
def Station.withStart (s : Station) (x : Startup) : Station := { s with start := x }
def Station.withPar (s : Station) (x : Params) : Station := { s with par := x }
def Station.withMap (s : Station) (x : TrackMap) : Station := { s with map := x }
def Station.withPos (s : Station) (x : Position) : Station := { s with pos := x }
def Station.withPeers (s : Station) (x : Vector PeerEntry 29) : Station := { s with peers := x }
def Station.withClaims (s : Station) (x : ClaimBlock) : Station := { s with claims := x }
def Station.withEnv (s : Station) (x : Envelope) : Station := { s with env := x }
def Station.withOrder (s : Station) (x : OrderUnit) : Station := { s with order := x }
def Station.withTrail (s : Station) (x : List Nat) : Station := { s with trail := x }
def Station.withBacking (s : Station) (x : Option Backing) : Station := { s with backing := x }
def Station.withAppr (s : Station) (x : Approach) : Station := { s with appr := x }
def Station.withIndex (s : Station) (x : DockIndex) : Station := { s with index := x }
def Station.withLift (s : Station) (x : Lift) : Station := { s with lift := x }
def Station.withPark (s : Station) (x : Park) : Station := { s with park := x }
def Station.withTt (s : Station) (x : Turntable) : Station := { s with tt := x }
def Station.withPassage (s : Station) (x : Passage) : Station := { s with passage := x }
def Station.withLine (s : Station) (x : LineIf) : Station := { s with line := x }

/-- The machine: the part, and the commands that wait, first in, first out. -/
structure State where
  station : Station := {}
  pending : List Instr := []
  deriving DecidableEq, Repr

/-- The machine right after reset: the reset input active, every block at its Defaults (R188), no command waiting. -/
def State.reset : State := {}

/-- Reasons the machine could stop. The spec gives every command an effect in every state, so NO meaning raises
one; the constructor stands because a machine must have a fault type. Raising it would be safe. -/
inductive Fault where
  /-- Raised by no meaning: the part has no exception, trap or machine check (INVENTORY, Faults). Safe. -/
  | unreachable
  deriving DecidableEq, Repr

/-- Reasons a command could be refused by the model. -/
inductive Refusal where
  /-- Raised by `exec` alone, for a command whose meaning has not been written yet: no arm does. Safe. -/
  | notModelled (mnemonic : String)
  deriving DecidableEq, Repr

/-- What a step answers. -/
abbrev Outcome := Host.Outcome State Fault Refusal

end Sys2Proof.Machine
end

