-- ==== Sys2Proof/Machine/Ops.lean ====
section
/-! DEFINITION. Shared operations that belong to no block: the clock, due times, bounded counts, sorted lists, and
reading and writing the boot memory. -/

namespace Sys2Proof.Machine

/-! ## Clock and due times (log 1, log 2) -/

/-- The present time in ms: the clock, in µs, divided by 1000 and rounded down. -/
def Station.ms (s : Station) : Nat := s.now / 1000

/-- `dt` µs pass. -/
def Station.advance (s : Station) (dt : Nat) : Station := s.withNow (s.now + dt)

/-- A timer with end time `t` has run out at time `now`. A stopped timer never has. -/
def dueAt (t : Option Nat) (now : Nat) : Bool :=
  match t with
  | some e => e ≤ now
  | none => false

/-! ## Numbers -/

/-- Quotient rounded up (00 section 4.1). -/
def ceilDiv (a b : Nat) : Nat := (a + b - 1) / b

/-- `v` brought to the nearer limit of `lo`–`hi`. -/
def clampTo (lo hi v : Nat) : Nat := if v < lo then lo else if hi < v then hi else v

/-- A count that rises by 1 and stays at `top` (R55, R173). -/
def bump (top n : Nat) : Nat := if n < top then n + 1 else top

/-- Distance without sign. -/
def distance (a b : Int) : Nat := (a - b).natAbs

/-! ## Lists -/

/-- Insert by increasing `key`, before the first strictly greater one. -/
def insertBy {α : Type} (le : α → α → Bool) (x : α) : List α → List α
  | [] => [x]
  | y :: ys => if le x y then x :: y :: ys else y :: insertBy le x ys

/-- Insertion sort; equal elements keep their order. -/
def sortBy {α : Type} (le : α → α → Bool) (l : List α) : List α := l.foldr (insertBy le) []

/-- The list with every later repeat dropped. -/
def dropRepeats {α : Type} [DecidableEq α] : List α → List α → List α
  | _, [] => []
  | seen, x :: xs => if x ∈ seen then dropRepeats seen xs else x :: dropRepeats (x :: seen) xs

/-- The greatest of `k`, below `n`, that passes, and 0 when none does. -/
def highestBelow (n : Nat) (p : Nat → Bool) : Nat :=
  (List.range n).foldl (fun acc k => if p k then k else acc) 0

/-! ## Boot memory (R191): cells in strictly rising address order; an address not listed is not delivered -/

/-- The byte at `a`, or none where the memory delivers nothing. -/
def Memory.read (m : Memory) (a : Nat) : Option Byte :=
  match m with
  | [] => none
  | (b, v) :: rest => if a = b then some v else Memory.read rest a

/-- Store `v` at `a`, keeping addresses rising. -/
def Memory.write (m : Memory) (a : Nat) (v : Byte) : Memory :=
  match m with
  | [] => [(a, v)]
  | (b, w) :: rest =>
    if a < b then (a, v) :: (b, w) :: rest
    else if a = b then (a, v) :: rest
    else (b, w) :: Memory.write rest a v

/-- Every listed address lies above `lo`, and they rise strictly. -/
def Memory.risesAbove : Option Nat → Memory → Bool
  | _, [] => true
  | none, (b, _) :: rest => Memory.risesAbove (some b) rest
  | some lo, (b, _) :: rest => lo < b && Memory.risesAbove (some b) rest

/-- The canonical form: strictly rising addresses. -/
def Memory.wf (m : Memory) : Bool := Memory.risesAbove none m

/-- Write `bytes` from address `a` on. -/
def Memory.writeAll (m : Memory) (a : Nat) : List Byte → Memory
  | [] => m
  | v :: vs => Memory.writeAll (m.write a v) (a + 1) vs

/-- Read `n` bytes from `a` on, or none when one of them is not delivered. -/
def Memory.readAll (m : Memory) (a : Nat) : Nat → Option (List Byte)
  | 0 => some []
  | n + 1 => do
    let v ← m.read a
    let vs ← Memory.readAll m (a + 1) n
    pure (v :: vs)

end Sys2Proof.Machine
end

