-- ==== Sys2Proof/Machine/Operands.lean ====
section
/-! DEFINITION. How fields of frames and of the boot memory are read and written: numbers of several bytes, signed
numbers, and the codes of states, reasons and kinds (the layout tables of R175, R189, R191). -/

namespace Sys2Proof

/-! ## Codes of the operand types -/

def Dir.code : Dir → Nat
  | .up => 0
  | .down => 1

def Dir.ofBit (b : Bool) : Dir := if b then .down else .up

/-- Travel UP meets the high end of a line, travel DOWN the low end (R16). -/
def Dir.atHigh : Dir → Bool
  | .up => true
  | .down => false

def Objection.code : Objection → Nat
  | .holds => 1 | .outranks => 2 | .occupied => 3

def Objection.ofCode : Nat → Option Objection
  | 1 => some .holds | 2 => some .outranks | 3 => some .occupied | _ => none

def TurnAnswer.code : TurnAnswer → Nat
  | .grant => 1 | .exit => 2 | .refusedFull => 3 | .revoked => 4 | .notCentred => 5 | .fault => 6

def TurnAnswer.ofCode : Nat → Option TurnAnswer
  | 1 => some .grant | 2 => some .exit | 3 => some .refusedFull | 4 => some .revoked | 5 => some .notCentred
  | 6 => some .fault | _ => none

/-- Frame kind codes (R174). -/
def FrameKind.code : FrameKind → Nat
  | .beacon => 1 | .claim => 2 | .object => 3 | .release => 4 | .yieldAsk => 5 | .order => 6 | .turnAsk => 7
  | .turnAnswer => 8 | .turnAboard => 9 | .turnClear => 10

/-- BEACON, OBJECT and TURN-ANSWER are PROMPT, the other kinds ROUTINE (R179). -/
def FrameKind.prompt : FrameKind → Bool
  | .beacon | .object | .turnAnswer => true
  | _ => false

end Sys2Proof

namespace Sys2Proof.Machine

/-! ## Bytes: most significant first, signed fields in two's complement (R175) -/

def be16 (n : Nat) : List Byte := [byteOf (n / 256), byteOf n]

def be24 (n : Nat) : List Byte := [byteOf (n / 65536), byteOf (n / 256), byteOf n]

/-- The 24-bit two's complement of a chainage. -/
def be24Signed (z : Int) : List Byte := be24 (z % 16777216).toNat

/-- The number a list of bytes spells, most significant first. -/
def number (l : List Byte) : Nat := l.foldl (fun acc b => acc * 256 + b.toNat) 0

/-- A 24-bit number read as two's complement. -/
def signed24 (n : Nat) : Int := if n < 8388608 then (n : Int) else (n : Int) - 16777216

/-- `len` bytes of `l` from `start` on, as a number, most significant byte first. DESIGN CHOICE (log 61) for the fields of
a boot record; R189 says so for its sum alone. -/
def field (l : List Byte) (start len : Nat) : Nat := number ((l.drop start).take len)

/-- The byte at `i`, as a number; 0 past the end. -/
def byteAt (l : List Byte) (i : Nat) : Nat := field l i 1

def bitAt (n i : Nat) : Bool := n / 2 ^ i % 2 = 1

def boolBit (b : Bool) (i : Nat) : Nat := if b then 2 ^ i else 0

/-! ## Codes -/

/-- Order state codes (note under the carriage BEACON layout). -/
def OrderState.code : OrderState → Nat
  | .idle => 0 | .running => 1 | .waiting => 2 | .halted => 3 | .loading => 4 | .backing => 5
  | .done => 6 | .stopped => 7 | .failed => 8

/-- The code BLOCKED, shown in place of WAITING (R102). -/
def blockedCode : Nat := 9

/-- Reason codes, in the order of section 6.4. -/
def Reason.code : Reason → Nat
  | .none => 0 | .busy => 1 | .route => 2 | .pad => 3 | .unknownPosition => 4 | .position => 5 | .conflict => 6
  | .drive => 7 | .lift => 8 | .noLoad => 9 | .dock => 10 | .turntable => 11 | .line => 12 | .emergency => 13
  | .cancelled => 14 | .duplicate => 15

/-- Deck state codes, in the order of R153. -/
def DeckState.code : DeckState → Nat
  | .idle => 0 | .claiming => 1 | .rotating => 2 | .awaitEntry => 3 | .aboard => 4 | .awaitExit => 5 | .fault => 6

def DeckReason.code : DeckReason → Nat
  | .none => 0 | .noArm => 1 | .timeout => 2 | .drive => 3 | .conflict => 4

def OutFrame.kind : OutFrame → FrameKind
  | .beacon => .beacon
  | .claim .. => .claim
  | .object .. => .object
  | .release .. => .release
  | .yieldAsk .. => .yieldAsk
  | .turnAsk .. => .turnAsk
  | .turnAnswer .. => .turnAnswer
  | .turnAboard .. => .turnAboard
  | .turnClear .. => .turnClear

def OutFrame.prompt (f : OutFrame) : Bool := f.kind.prompt

/-- The frame a beacon's line byte names: 0–7 LINE, 255 DECK, 254 UNKNOWN (R37); another byte is a free value (log 8). -/
def frameOfLineByte (n : Nat) : Frame :=
  if n ≤ 7 then .line
  else if n = 255 then .deck
  else if n = 254 then .unknown
  else match Config.beaconFrameOf n with
    | 0 => .unknown
    | 1 => .line
    | 2 => .deck

/-! ## Rank (R54) -/

/-- Rank `a` of station `na` outranks rank `b` of station `nb`. -/
def outranks (a : Rank) (na : Nat) (b : Rank) (nb : Nat) : Bool :=
  if a.courtesy != b.courtesy then !a.courtesy
  else if a.wait ≠ b.wait then b.wait < a.wait
  else na < nb

end Sys2Proof.Machine
end

