-- ==== Sys2Proof/Machine/Flags.lean ====
section
/-! DEFINITION. The flags and counts of the part that several blocks read: which phases a block acts in, the
bad-frame count, the line-silence report, the effective step and the brake demand, whether the station is parked. -/

namespace Sys2Proof.Machine

/-- The line interface is in use, and the blocks act (R173, R192). -/
def Station.onLine (s : Station) : Bool :=
  s.start.phase = .listenIn || s.start.phase = .bodyClaim || s.start.phase = .ready

def Station.isCarriage (s : Station) : Bool := s.par.role = .carriage

/-- The motion envelope evaluates: carriage role, after the end of LISTEN-IN (R79, R81 note). -/
def Station.driving (s : Station) : Bool :=
  s.isCarriage && (s.start.phase = .bodyClaim || s.start.phase = .ready)

/-- The turntable unit evaluates: turntable role, from READY on (R153, log 24). -/
def Station.turning (s : Station) : Bool := !s.isCarriage && s.start.phase = .ready

/-- An input ignored as bad: the bad-frame count rises by 1 and holds at 255 (R26, R173). -/
def Station.countBad (s : Station) : Station :=
  s.withLine { s.line with badCount := bump 255 s.line.badCount }

/-- The line-silence report: SILENT or RECOVERING (R187). -/
def Station.silent (s : Station) : Bool := s.line.state = .silent || s.line.state = .recovering

/-- The effective step: the higher of commanded and confirmed (R92). -/
def Station.effective (s : Station) : Nat := max s.env.commanded s.inputs.confirmed

/-- The brake demand follows the effective step (R92). -/
def Station.brake (s : Station) : Bool := s.effective = 0

/-- The order states in which an order is active (R103). -/
def OrderState.active : OrderState → Bool
  | .running | .waiting | .halted | .loading | .backing | .stopped => true
  | _ => false

/-- IDLE, DONE or FAILED. -/
def OrderState.resting : OrderState → Bool
  | .idle | .done | .failed => true
  | _ => false

/-- The lift is at a rest. -/
def LiftState.atRest : LiftState → Bool
  | .lowered | .raised => true
  | _ => false

/-- The lift is in travel. -/
def LiftState.travelling : LiftState → Bool
  | .raising | .lowering => true
  | _ => false

/-- The station is parked (R186). -/
def Station.parked (s : Station) : Bool :=
  s.start.phase = .ready &&
  (if s.isCarriage then s.order.state.resting && s.inputs.confirmed = 0
   else s.tt.deck = .idle && s.tt.holder.isNone && s.tt.queue.isEmpty)

/-- A parameter brought into its range, and whether that changed it (R190, the CLAMPED flag). -/
def clampFlag (lo hi v : Nat) : Nat × Bool := (clampTo lo hi v, clampTo lo hi v ≠ v)

end Sys2Proof.Machine
end

