-- ==== Sys2Proof/Machine/Frames.lean ====
section
/-! DEFINITION. Frames on the line (R174–R177): the layout of every kind, the check, the tests a received frame
must pass, and which command a received frame is. -/

namespace Sys2Proof.Machine

/-! ## The check (R174) -/

/-- One bit of the cyclic check with generator x¹⁶ + x¹⁵ + x² + 1. -/
def crcBit (c : BitVec 16) : BitVec 16 := if c.msb then (c <<< 1) ^^^ 0x8005#16 else c <<< 1

/-- One byte, most significant bit first. -/
def crcByte (c : BitVec 16) (b : Byte) : BitVec 16 :=
  crcBit (crcBit (crcBit (crcBit (crcBit (crcBit (crcBit (crcBit (c ^^^ (b.zeroExtend 16 <<< 8)))))))))

/-- The check over header and body; the register starts from all ones. -/
def crc (l : List Byte) : Nat := (l.foldl crcByte 0xFFFF#16).toNat

/-! ## What a frame carries -/

/-- What an ORDER carries after its common part; `unknown` is a kind code that is none of the eight. -/
inductive OrderBody where
  | route (kind : OrderKind) (r : RouteOrder)
  | halt
  | resume
  | cancel
  | setPosition (line : Nat) (chainage : Chainage) (uncertainty : Nat)
  | clearPeer (peer : Nat)
  | unknown (kind : Nat)
  deriving DecidableEq, Repr

/-- The content of a frame, by kind (layout tables of R175). -/
inductive Content where
  | carriageBeacon (b : CarriageBeacon)
  | turntableBeacon (b : TurntableBeacon)
  | claim (seg tag : Nat) (rank : Rank)
  | object (seg : Nat) (kind : Objection) (rank : Rank) (claimant : Nat)
  | release (segs : List Nat)
  | yieldAsk (seg holder wait : Nat)
  | order (target number : Nat) (body : OrderBody)
  | turnAsk (turntable entryArm exitArm : Nat)
  | turnAnswer (addressed : Nat) (answer : TurnAnswer) (arm : Nat)
  | turnAboard (turntable : Nat)
  | turnClear (turntable : Nat)
  deriving DecidableEq, Repr

/-- A frame: sender, role code (0 CARRIAGE, 1 TURNTABLE, 2 OPERATIONS) and content (R174). -/
structure WireFrame where
  src : Nat
  role : Nat
  content : Content
  deriving DecidableEq, Repr

def Role.code : Role → Nat
  | .carriage => 0
  | .turntable => 1

def Role.ofCode (n : Nat) : Role := if n = 0 then .carriage else .turntable

def Content.kind : Content → FrameKind
  | .carriageBeacon _ | .turntableBeacon _ => .beacon
  | .claim .. => .claim
  | .object .. => .object
  | .release .. => .release
  | .yieldAsk .. => .yieldAsk
  | .order .. => .order
  | .turnAsk .. => .turnAsk
  | .turnAnswer .. => .turnAnswer
  | .turnAboard .. => .turnAboard
  | .turnClear .. => .turnClear

/-! ## Layouts (R175) -/

def HeldItem.byte (h : HeldItem) : Byte := byteOf (h.seg * 2 + boolBit h.yielding 0)

def heldOfByte (n : Nat) : HeldItem := ⟨n / 2, bitAt n 0⟩

/-- Eight slots, the ones past the list 0. -/
def slots (l : List Byte) : List Byte := (l ++ List.replicate 8 0).take 8

def rankByte (r : Rank) : Byte := byteOf (r.wait * 16 + boolBit r.courtesy 3)

def rankOfByte (n : Nat) : Rank := ⟨n / 16, bitAt n 3⟩

def CarriageBeacon.encode (b : CarriageBeacon) : List Byte :=
  be16 b.period ++ [byteOf b.line, byteOf b.deckTurntable] ++ be24Signed b.centre ++ be16 b.u ++ be16 b.halfLength ++
  [byteOf (b.commanded * 32 + b.effective * 4 + b.dir.code * 2 + boolBit b.loaded 0),
   byteOf (boolBit b.doubt 7 + boolBit b.clamped 6 + boolBit b.recovered 5 + boolBit b.fault 4 + b.wait),
   byteOf (b.orderCode * 16 + b.reason)] ++
  be16 b.orderNumber ++ [byteOf (b.cursor * 16 + b.held.length)] ++ slots (b.held.map HeldItem.byte) ++
  [byteOf b.home, byteOf b.badCount, byteOf b.resendCount]

def CarriageBeacon.decode (l : List Byte) : CarriageBeacon :=
  let steps := byteAt l 11
  let flags := byteAt l 12
  let codes := byteAt l 13
  let counts := byteAt l 16
  { period := field l 0 2, line := byteAt l 2, deckTurntable := byteAt l 3, centre := signed24 (field l 4 3)
    u := field l 7 2, halfLength := field l 9 2
    commanded := steps / 32, effective := steps / 4 % 8, dir := .ofBit (bitAt steps 1), loaded := bitAt steps 0
    doubt := bitAt flags 7, clamped := bitAt flags 6, recovered := bitAt flags 5, fault := bitAt flags 4
    wait := flags % 16, orderCode := codes / 16, reason := codes % 16, orderNumber := field l 14 2
    cursor := counts / 16
    held := ((l.drop 17).take (min (counts % 16) 8)).map fun b => heldOfByte b.toNat
    home := byteAt l 25, badCount := byteAt l 26, resendCount := byteAt l 27 }

def TurntableBeacon.encode (b : TurntableBeacon) : List Byte :=
  be16 b.period ++
  [byteOf (b.turntable * 64 + b.aligned * 16 + b.deck), byteOf (b.holder * 8),
   byteOf (boolBit b.clamped 7 + boolBit b.fault 6 + boolBit b.faultExit 5 + b.reason),
   byteOf (b.queue.length * 16 + b.held.length)] ++
  slots (b.queue.map byteOf) ++ slots (b.held.map HeldItem.byte) ++ [byteOf b.badCount, byteOf b.resendCount]

def TurntableBeacon.decode (l : List Byte) : TurntableBeacon :=
  let place := byteAt l 2
  let flags := byteAt l 4
  let counts := byteAt l 5
  { period := field l 0 2, turntable := place / 64, aligned := place / 16 % 4, deck := place % 16
    holder := byteAt l 3 / 8, clamped := bitAt flags 7, fault := bitAt flags 6, faultExit := bitAt flags 5
    reason := flags % 16
    queue := ((l.drop 6).take (min (counts / 16) 8)).map fun b => b.toNat
    held := ((l.drop 14).take (min (counts % 16) 8)).map fun b => heldOfByte b.toNat
    badCount := byteAt l 22, resendCount := byteAt l 23 }

def Leg.encode (g : Leg) : List Byte :=
  match g.stop with
  | .target => [byteOf (g.line * 32 + g.dir.code * 16), 0]
  | .turntable t e => [byteOf (g.line * 32 + g.dir.code * 16 + 8 + t), byteOf e]

def Leg.decode (a b : Nat) : Leg :=
  { line := a / 32, dir := .ofBit (bitAt a 4), stop := if bitAt a 3 then .turntable (a % 4) (b % 4) else .target }

/-- The legs of a route, two bytes each. -/
def decodeLegs : List Byte → List Leg
  | a :: b :: rest => Leg.decode a.toNat b.toNat :: decodeLegs rest
  | _ => []

def OrderKind.code : OrderKind → Nat
  | .move => 1
  | .fetch => 2
  | .place => 3

def Target.encode : Target → List Byte
  | .pad n => byteOf n :: be24 0
  | .point l c => byteOf (128 + l) :: be24Signed c

def Target.decode (form chainage : Nat) : Target :=
  if bitAt form 7 then .point (form % 8) (signed24 chainage) else .pad (form % 64)

def RouteOrder.encode (r : RouteOrder) : List Byte :=
  Target.encode r.target ++ [byteOf r.legs.length] ++ (r.legs.map Leg.encode).flatten

def OrderBody.kindCode : OrderBody → Nat
  | .route k _ => k.code
  | .halt => 4
  | .resume => 5
  | .cancel => 6
  | .setPosition .. => 7
  | .clearPeer _ => 8
  | .unknown k => k

def OrderBody.encode : OrderBody → List Byte
  | .route _ r => RouteOrder.encode r
  | .setPosition l c u => [byteOf l] ++ be24Signed c ++ be16 u
  | .clearPeer p => [byteOf p]
  | _ => []

/-- What follows the common part of an ORDER whose kind code is `k`; none when its length does not fit (R175). -/
def OrderBody.decode (k : Nat) (l : List Byte) : Option OrderBody :=
  let route (kind : OrderKind) : Option OrderBody :=
    if 5 ≤ l.length && l.length = 5 + 2 * byteAt l 4 then
      some (.route kind ⟨Target.decode (byteAt l 0) (field l 1 3), decodeLegs (l.drop 5)⟩)
    else none
  let fixed (n : Nat) (b : OrderBody) : Option OrderBody := if l.length = n then some b else none
  match k with
  | 1 => route .move
  | 2 => route .fetch
  | 3 => route .place
  | 4 => fixed 0 .halt
  | 5 => fixed 0 .resume
  | 6 => fixed 0 .cancel
  | 7 => fixed 6 (.setPosition (byteAt l 0) (signed24 (field l 1 3)) (field l 4 2))
  | 8 => fixed 1 (.clearPeer (byteAt l 0 % 32))
  | _ => some (.unknown k)

def Content.encode : Content → List Byte
  | .carriageBeacon b => CarriageBeacon.encode b
  | .turntableBeacon b => TurntableBeacon.encode b
  | .claim s t r => [byteOf s, byteOf t, rankByte r]
  | .object s k r c => [byteOf s, byteOf k.code, rankByte r, byteOf c]
  | .release segs => byteOf segs.length :: segs.map byteOf
  | .yieldAsk s h w => [byteOf s, byteOf h, byteOf (w * 16)]
  | .order t n b => [byteOf t] ++ be16 n ++ [byteOf b.kindCode] ++ OrderBody.encode b
  | .turnAsk t e x => [byteOf t, byteOf e, byteOf x]
  | .turnAnswer a k m => [byteOf a, byteOf k.code, byteOf m]
  | .turnAboard t => [byteOf t]
  | .turnClear t => [byteOf t]

/-- The body of a frame of kind code `k` from a sender of role code `role`; none when its length or one of its
codes fails R176. -/
def Content.decode (k role : Nat) (l : List Byte) : Option Content :=
  let fixed (n : Nat) (c : Content) : Option Content := if l.length = n then some c else none
  match k with
  | 1 => if role = 0 then fixed 28 (.carriageBeacon (CarriageBeacon.decode l)) else fixed 24 (.turntableBeacon (TurntableBeacon.decode l))
  | 2 => fixed 3 (.claim (byteAt l 0) (byteAt l 1) (rankOfByte (byteAt l 2)))
  | 3 => (Objection.ofCode (byteAt l 1)).bind fun o =>
      fixed 4 (.object (byteAt l 0) o (rankOfByte (byteAt l 2)) (byteAt l 3 % 32))
  | 4 => if 1 ≤ byteAt l 0 && byteAt l 0 ≤ 8 then fixed (1 + byteAt l 0) (.release ((l.drop 1).map fun b => b.toNat)) else none
  | 5 => fixed 3 (.yieldAsk (byteAt l 0) (byteAt l 1 % 32) (byteAt l 2 / 16))
  | 6 => if 4 ≤ l.length then
        (OrderBody.decode (byteAt l 3) (l.drop 4)).map fun b => .order (byteAt l 0 % 32) (field l 1 2) b
      else none
  | 7 => fixed 3 (.turnAsk (byteAt l 0) (byteAt l 1) (byteAt l 2))
  | 8 => (TurnAnswer.ofCode (byteAt l 1)).bind fun a => fixed 3 (.turnAnswer (byteAt l 0 % 32) a (byteAt l 2))
  | 9 => fixed 1 (.turnAboard (byteAt l 0))
  | 10 => fixed 1 (.turnClear (byteAt l 0))
  | _ => none

/-- Header and body, in the order sent (R174). -/
def WireFrame.encodeBody (f : WireFrame) : List Byte :=
  [byteOf (f.src * 8 + f.role * 2), byteOf (f.content.kind.code * 16), byteOf f.content.encode.length] ++ f.content.encode

/-- The whole frame: header, body, check (R174). -/
def WireFrame.encode (f : WireFrame) : List Byte := f.encodeBody ++ be16 (crc f.encodeBody)

/-- The role code agrees with the sender (R176). -/
def roleFits (src role : Nat) : Bool :=
  if src ≤ 29 then role ≤ 1 else role = 2

/-- The judgement of R176 on a received frame: its content when it is valid, none when it fails a test. -/
def WireFrame.decode (l : List Byte) : Option WireFrame :=
  let body := l.take (l.length - 2)
  let src := byteAt l 0 / 8
  let role := byteAt l 0 / 2 % 4
  let kind := byteAt l 1 / 16
  if 5 ≤ l.length && crc body = field l (l.length - 2) 2 && byteAt l 2 = l.length - 5 && byteAt l 2 ≤ 64 &&
     1 ≤ src && roleFits src role && ((kind = 6) == (30 ≤ src)) then
    (Content.decode kind role (body.drop 3)).map fun c => ⟨src, role, c⟩
  else none

/-! ## What must hold of a frame for its layout to hold it -/

def CarriageBeacon.fits (b : CarriageBeacon) : Bool :=
  b.period < 65536 && b.line < 256 && b.deckTurntable < 256 && -8388608 ≤ b.centre && b.centre < 8388608 &&
  b.u < 65536 && b.halfLength < 65536 && b.commanded < 8 && b.effective < 8 && b.wait < 16 && b.orderCode < 16 &&
  b.reason < 16 && b.orderNumber < 65536 && b.cursor < 16 && b.held.length ≤ 8 && b.held.all (·.seg < 128) &&
  b.home < 256 && b.badCount < 256 && b.resendCount < 256

def TurntableBeacon.fits (b : TurntableBeacon) : Bool :=
  b.period < 65536 && b.turntable < 4 && b.aligned < 4 && b.deck < 16 && b.holder < 32 && b.reason < 16 &&
  b.queue.length ≤ 8 && b.queue.all (· < 256) && b.held.length ≤ 8 && b.held.all (·.seg < 128) &&
  b.badCount < 256 && b.resendCount < 256

def Leg.fits (g : Leg) : Bool :=
  g.line < 8 && match g.stop with
    | .target => true
    | .turntable t e => t < 4 && e < 4

def Target.fits : Target → Bool
  | .pad n => n < 64
  | .point l c => l < 8 && -8388608 ≤ c && c < 8388608

/-- A route order fits a frame: at most 27 legs stay within the 64 bytes of a body (R175). -/
def RouteOrder.fits (r : RouteOrder) : Bool := Target.fits r.target && r.legs.length ≤ 27 && r.legs.all Leg.fits

def OrderBody.fits : OrderBody → Bool
  | .route _ r => RouteOrder.fits r
  | .setPosition l c u => l < 256 && -8388608 ≤ c && c < 8388608 && u < 65536
  | .clearPeer p => p < 32
  | .unknown k => k < 256 && (k = 0 || 8 < k)
  | _ => true

def Rank.fits (r : Rank) : Bool := r.wait < 16

def Content.fits : Content → Bool
  | .carriageBeacon b => CarriageBeacon.fits b
  | .turntableBeacon b => TurntableBeacon.fits b
  | .claim s t r => s < 256 && t < 256 && Rank.fits r
  | .object s _ r c => s < 256 && Rank.fits r && c < 32
  | .release segs => 1 ≤ segs.length && segs.length ≤ 8 && segs.all (· < 256)
  | .yieldAsk s h w => s < 256 && h < 32 && w < 16
  | .order t n b => t < 32 && n < 65536 && OrderBody.fits b
  | .turnAsk t e x => t < 256 && e < 256 && x < 256
  | .turnAnswer a _ m => a < 32 && m < 256
  | .turnAboard t => t < 256
  | .turnClear t => t < 256

/-- The kind fits the role: a carriage sends carriage beacons, a turntable turntable beacons, operations orders. -/
def WireFrame.fits (f : WireFrame) : Bool :=
  1 ≤ f.src && f.src ≤ 31 && roleFits f.src f.role && f.content.fits &&
  match f.content with
  | .carriageBeacon _ => f.role = 0
  | .turntableBeacon _ => f.role = 1
  | .order .. => f.role = 2
  | _ => f.role ≤ 1

/-! ## Which command a received frame is (R176–R178) -/

/-- The command of an ORDER frame (R101, section 6.2): number 0, an unknown kind, or a kind that may not be
addressed to 0 is ORDER_BAD_KIND. -/
def orderCommand (dt : Nat) (o : OrderHead) (b : OrderBody) : Instr :=
  if o.number = 0 then .orderBadKind dt o b.kindCode
  else match b with
    | .unknown k => .orderBadKind dt o k
    | .route k r =>
      if o.target = 0 then .orderBadKind dt o k.code
      else match k with
        | .move => .orderMove dt o r
        | .fetch => .orderFetch dt o r
        | .place => .orderPlace dt o r
    | .setPosition l c u => if o.target = 0 then .orderBadKind dt o 7 else .orderSetPosition dt o l c u
    | .halt => .orderHalt dt o
    | .resume => .orderResume dt o
    | .cancel => .orderCancel dt o
    | .clearPeer p => .orderClearPeer dt o p

/-- The command of a TURN-ANSWER frame, by its answer. -/
def answerCommand (dt : Nat) (h : FrameHead) (a : TurnAnswer) (addressed arm : Nat) : Instr :=
  match a with
  | .grant => .turnAnswerGrant dt h addressed arm
  | .exit => .turnAnswerExit dt h addressed arm
  | .refusedFull => .turnAnswerRefusedFull dt h addressed arm
  | .revoked => .turnAnswerRevoked dt h addressed arm
  | .notCentred => .turnAnswerNotCentred dt h addressed arm
  | .fault => .turnAnswerFault dt h addressed arm

/-- The command of a valid frame at the station with number `own` (R177, R178). -/
def WireFrame.command (own dt : Nat) (f : WireFrame) : Instr :=
  let h : FrameHead := ⟨f.src, Role.ofCode f.role⟩
  if f.src = own then .duplicateStationFrame dt f.content.kind
  else match f.content with
    | .carriageBeacon b => .carriageBeaconReceived dt f.src b
    | .turntableBeacon b => .turntableBeaconReceived dt f.src b
    | .claim s t r => .claimReceived dt h s t r
    | .object s k r c => .objectReceived dt h s k r c
    | .release segs => .releaseReceived dt h segs
    | .yieldAsk s hd w => .yieldAskReceived dt h s hd w
    | .order t n b => orderCommand dt ⟨f.src, t, n⟩ b
    | .turnAsk t e x => .turnAskReceived dt h t e x
    | .turnAnswer a k m => answerCommand dt h k a m
    | .turnAboard t => .turnAboardReceived dt h t
    | .turnClear t => .turnClearReceived dt h t

/-- The command that the reception of `bytes` is, at the station with number `own` (R176). -/
def receiveCommand (own dt : Nat) (bytes : List Byte) : Instr :=
  match WireFrame.decode bytes with
  | some f => f.command own dt
  | none => .badFrameReceived dt bytes

end Sys2Proof.Machine
end

