-- ==== Sys2Proof/Machine/Map.lean ====
section
/-! DEFINITION. The track map (chapter 1): geometry, lookups R13–R17, and the checks at start R2, R3, R6–R11. -/

namespace Sys2Proof.Machine

/-! ## Slots -/

/-- The valid slot of `v` at `i`, by the valid mark `ok`. -/
def slot? {α : Type} {n : Nat} (ok : α → Bool) (v : Vector α n) (i : Nat) : Option α :=
  v[i]?.filter ok

def TrackMap.line? (m : TrackMap) (l : Nat) : Option LineSlot := slot? (·.valid) m.lines l
def TrackMap.turntable? (m : TrackMap) (t : Nat) : Option TurntableSlot := slot? (·.valid) m.turntables t
def TrackMap.segment? (m : TrackMap) (n : Nat) : Option SegmentSlot := slot? (·.valid) m.segments n

/-- The valid segments with their numbers, by increasing number. -/
def TrackMap.allSegments (m : TrackMap) : List (SegmentSlot × Nat) :=
  m.segments.toList.zipIdx.filter (·.1.valid)

/-- Base plus length (R5). -/
def SegmentSlot.stop (g : SegmentSlot) : Chainage := g.base + g.length

/-- The segment lies on line `l` as PLAIN or GUARD. -/
def SegmentSlot.onLine (g : SegmentSlot) (l : Nat) : Bool := g.kind != .deck && g.line = l

/-- The DECK segment of turntable `t`. -/
def TrackMap.deckSegment (m : TrackMap) (t : Nat) : Option Nat :=
  (m.allSegments.find? fun (g, _) => g.kind = .deck && g.turntable = t).map (·.2)

/-- The chainage of one end of a line. -/
def LineSlot.endAt (x : LineSlot) (atHigh : Bool) : Chainage := if atHigh then x.high else x.low

/-- What one end of a line meets. -/
def LineSlot.endRec (x : LineSlot) (atHigh : Bool) : EndRec := if atHigh then x.highEnd else x.lowEnd

/-- The segment begins at that end of the line: base at the low end, end at the high end (R6). -/
def SegmentSlot.beginsAt (g : SegmentSlot) (x : LineSlot) (atHigh : Bool) : Bool :=
  if atHigh then g.stop = x.high else g.base = x.low

/-- The GUARD segment at one end of line `l` (R6). -/
def TrackMap.guardAt (m : TrackMap) (l : Nat) (atHigh : Bool) : Option Nat :=
  (m.line? l).bind fun x =>
    (m.allSegments.find? fun (g, _) => g.kind = .guard && g.line = l && g.beginsAt x atHigh).map (·.2)

/-! ## The deck on the axis of an arm (R4) -/

/-- What the deck lookup of R16 returns, and the deck extent of R4. -/
structure DeckOnLine where
  line : Nat
  atHigh : Bool
  lo : Chainage
  hi : Chainage
  centre : Chainage
  /-- The direction leading off the deck onto the line. -/
  off : Dir
  /-- The GUARD segment at that end of the line. -/
  guardSegment : Option Nat
  deriving DecidableEq, Repr

/-- The deck extent, centre and off direction on one end of line `l` for a deck of length `ld` (R4); `g` is the GUARD
segment of that end. -/
def deckOnEnd (l : Nat) (x : LineSlot) (atHigh : Bool) (ld : Nat) (g : Option Nat) : DeckOnLine :=
  if atHigh then ⟨l, true, x.high, x.high + ld, x.high + (ld / 2 : Nat), .down, g⟩
  else ⟨l, false, x.low - ld, x.low, x.low - (ld / 2 : Nat), .up, g⟩

/-- The deck lookup for turntable `t` and arm `a` (R16); none for an arm that is not present. -/
def TrackMap.deck? (m : TrackMap) (t a : Nat) : Option DeckOnLine := do
  let k ← m.turntable? t
  let arm ← slot? (·.present) k.arms a
  let x ← m.line? arm.line
  pure (deckOnEnd arm.line x arm.atHigh k.ld (m.guardAt arm.line arm.atHigh))

/-- The arm lookup: the turntable and arm that one end of a line meets (R16). -/
def TrackMap.arm? (m : TrackMap) (l : Nat) (atHigh : Bool) : Option (Nat × Nat) :=
  (m.line? l).bind fun x =>
    if (x.endRec atHigh).joined then some ((x.endRec atHigh).turntable, (x.endRec atHigh).arm) else none

/-- What the line end lookup of R16 returns. -/
structure LineEndInfo where
  chainage : Chainage
  joined : Option (Nat × Nat)
  deck : Option DeckOnLine
  deckSegment : Option Nat
  guardSegment : Option Nat
  deriving DecidableEq, Repr

/-- The line end lookup: the end met by travel in direction `d` (R16). -/
def TrackMap.lineEnd? (m : TrackMap) (l : Nat) (d : Dir) : Option LineEndInfo :=
  (m.line? l).map fun x =>
    let j := m.arm? l d.atHigh
    { chainage := x.endAt d.atHigh
      joined := j
      deck := j.bind fun (t, a) => m.deck? t a
      deckSegment := j.bind fun (t, _) => m.deckSegment t
      guardSegment := j.bind fun _ => m.guardAt l d.atHigh }

/-- The guard set of turntable `t`, by increasing arm (R16). -/
def TrackMap.guardSet (m : TrackMap) (t : Nat) : List Nat :=
  match m.turntable? t with
  | none => []
  | some k => (k.arms.toList.filter (·.present)).filterMap fun a => m.guardAt a.line a.atHigh

/-! ## Stretches and the covering lookup (R5, R13) -/

/-- The half-open stretch of a segment on one axis. -/
structure Stretch where
  seg : Nat
  kind : SegKind
  base : Chainage
  stop : Chainage
  deriving DecidableEq, Repr

/-- The closed stretch from `x` to `y` overlaps this one (R5). -/
def Stretch.meets (b : Stretch) (x y : Chainage) : Bool := x < b.stop && b.base ≤ y

/-- A point lies in the stretch (R5). -/
def Stretch.contains (b : Stretch) (x : Chainage) : Bool := b.base ≤ x && x < b.stop

/-- By increasing base, then by number (R13). -/
def Stretch.le (a b : Stretch) : Bool := a.base < b.base || (a.base = b.base && a.seg ≤ b.seg)

/-- The PLAIN and GUARD segments of line `l` on its axis. -/
def TrackMap.railStretches (m : TrackMap) (l : Nat) : List Stretch :=
  (m.allSegments.filter fun (g, _) => g.onLine l).map fun (g, n) => ⟨n, g.kind, g.base, g.stop⟩

/-- The deck stretch beyond one end of line `l`, where that end is JOINED. -/
def TrackMap.deckStretch (m : TrackMap) (l : Nat) (atHigh : Bool) : List Stretch :=
  match m.line? l, m.arm? l atHigh with
  | some x, some (t, _) =>
    match m.turntable? t, m.deckSegment t with
    | some k, some n =>
      let d := deckOnEnd l x atHigh k.ld none
      [⟨n, .deck, d.lo, d.hi⟩]
    | _, _ => []
  | _, _ => []

/-- Every stretch on the axis of valid line `l`: its rail, and the decks at its JOINED ends (R13). -/
def TrackMap.axis (m : TrackMap) (l : Nat) : List Stretch :=
  if (m.line? l).isSome then m.railStretches l ++ m.deckStretch l false ++ m.deckStretch l true else []

/-- The frame a lookup is asked in: a line, or a deck (R13). -/
inductive Axis where
  | line (l : Nat)
  | deck (t : Nat)
  deriving DecidableEq, Repr

/-- The covering lookup for the closed stretch from `x` to `y` (R13). -/
def TrackMap.covering (m : TrackMap) (a : Axis) (x y : Chainage) : List Stretch :=
  match a with
  | .line l => sortBy Stretch.le ((m.axis l).filter (·.meets x y))
  | .deck t => (m.deckSegment t).toList.map fun n => ⟨n, .deck, 0, 0⟩

/-- The home segment lookup: of the segments that contain the point, the one with the highest base, the lower
number where bases are equal (R14). -/
def TrackMap.home? (m : TrackMap) (a : Axis) (x : Chainage) : Option Nat :=
  ((m.covering a x x).foldl (fun (acc : Option Stretch) b =>
    match acc with
    | none => some b
    | some c => if c.base < b.base then some b else some c) none).map (·.seg)

/-- The next segment lookup (R15). For a DECK segment `arm` is the arm, and `d` is not read. -/
def TrackMap.next? (m : TrackMap) (n : Nat) (d : Dir) (arm : Nat) : Option Nat :=
  (m.segment? n).bind fun g =>
    if g.kind = .deck then (m.deck? g.turntable arm).bind (·.guardSegment)
    else
      let others := (m.railStretches g.line).filter fun b => b.seg != n
      let pick (better : Stretch → Stretch → Bool) (l : List Stretch) : Option Nat :=
        (l.foldl (fun (acc : Option Stretch) b =>
          match acc with
          | none => some b
          | some c => if better b c then some b else some c) none).map (·.seg)
      let deckBeyond (atHigh : Bool) : Option Nat := (m.arm? g.line atHigh).bind fun (t, _) => m.deckSegment t
      match d, m.line? g.line with
      | _, none => none
      | .up, some x =>
        match pick (fun b c => b.base < c.base) (others.filter (·.contains g.stop)) with
        | some k => some k
        | none => if g.stop = x.high then deckBeyond true else none
      | .down, some x =>
        match pick (fun b c => c.stop < b.stop) (others.filter (·.contains (g.base - 1))) with
        | some k => some k
        | none => if g.base = x.low then deckBeyond false else none

/-- What the pad lookup returns for a valid pad (R17). -/
structure PadInfo where
  line : Nat
  chainage : Chainage
  tolerance : Nat
  home : Option Nat
  deriving DecidableEq, Repr

/-- The pad lookup; none is INVALID (R17). -/
def TrackMap.pad? (m : TrackMap) (n : Nat) : Option PadInfo :=
  (slot? (·.valid) m.pads n).map fun p => ⟨p.line, p.chainage, p.tolerance, m.home? (.line p.line) p.chainage⟩

/-- The marker lookup; none is INVALID (R17). -/
def TrackMap.marker? (m : TrackMap) (n : Nat) : Option MarkerSlot := slot? (·.valid) m.markers n

/-! ## The checks at start (R12) -/

/-- The arm that a JOINED end names is present and names that line and end in return (R2). -/
def TrackMap.endAnswered (m : TrackMap) (l : Nat) (x : LineSlot) (atHigh : Bool) : Bool :=
  !(x.endRec atHigh).joined ||
  match m.turntable? (x.endRec atHigh).turntable with
  | none => false
  | some k =>
    match slot? (·.present) k.arms (x.endRec atHigh).arm with
    | none => false
    | some a => a.line = l && a.atHigh == atHigh

/-- Line chainages in range and ordered, and JOINED ends answered (R2). -/
def TrackMap.lineOk (m : TrackMap) (l : Nat) (x : LineSlot) : Bool :=
  0 ≤ x.low && x.low < x.high && x.high ≤ 4000000 && m.endAnswered l x false && m.endAnswered l x true

/-- Every valid line passes R2, and there is at least one. -/
def TrackMap.linesOk (m : TrackMap) : Bool :=
  m.lines.toList.any (·.valid) &&
  m.lines.toList.zipIdx.all fun (x, l) => !x.valid || m.lineOk l x

/-- Every valid turntable has 2–4 present arms, Ld in range, and line ends that answer its arms (R3). -/
def TrackMap.turntablesOk (m : TrackMap) : Bool :=
  m.turntables.toList.zipIdx.all fun (k, t) => !k.valid ||
    (8000 ≤ k.ld && k.ld ≤ 40000 && 2 ≤ (k.arms.toList.filter (·.present)).length &&
     k.arms.toList.zipIdx.all fun (a, i) => !a.present ||
       match m.line? a.line with
       | none => false
       | some x => (x.endRec a.atHigh).joined && (x.endRec a.atHigh).turntable = t && (x.endRec a.atHigh).arm = i)

/-- A GUARD begins at an end of its line, and each end it begins at is JOINED and names the GUARD's turntable (R6). -/
def SegmentSlot.guardPlaced (g : SegmentSlot) (x : LineSlot) : Bool :=
  [false, true].any (g.beginsAt x) &&
  [false, true].all fun e => !g.beginsAt x e || ((x.endRec e).joined && (x.endRec e).turntable = g.turntable)

/-- One segment's own checks (R6). -/
def TrackMap.segmentOk (m : TrackMap) (g : SegmentSlot) : Bool :=
  match g.kind with
  | .deck => (m.turntable? g.turntable).isSome
  | k =>
    match m.line? g.line with
    | none => false
    | some x =>
      100 ≤ g.length && g.length ≤ 400000 && x.low ≤ g.base && g.stop ≤ x.high &&
      (k = .plain || ((m.turntable? g.turntable).isSome && g.guardPlaced x))

/-- Every JOINED end of every valid line has exactly one GUARD beginning at it (R6). -/
def TrackMap.guardsOk (m : TrackMap) : Bool :=
  m.lines.toList.zipIdx.all fun (x, l) => !x.valid ||
    [false, true].all fun e => !(x.endRec e).joined ||
      (m.allSegments.filter fun (g, _) => g.kind = .guard && g.line = l && g.beginsAt x e).length = 1

/-- Every valid turntable has exactly one DECK segment (R6). -/
def TrackMap.decksOk (m : TrackMap) : Bool :=
  m.turntables.toList.zipIdx.all fun (k, t) => !k.valid ||
    (m.allSegments.filter fun (g, _) => g.kind = .deck && g.turntable = t).length = 1

def TrackMap.segmentsOk (m : TrackMap) : Bool :=
  (m.allSegments.all fun (g, _) => m.segmentOk g) && m.guardsOk && m.decksOk

/-- Every point of the half-open stretch from `low` to `high` lies in some stretch of `l`: `low` does, and so does
every end of a stretch that lies within it (R7). -/
def covers (l : List Stretch) (low high : Chainage) : Bool :=
  l.any (·.contains low) &&
  l.all fun b => !(low < b.stop && b.stop < high) || l.any (·.contains b.stop)

/-- No point lies in three stretches of `l`: no base of a stretch does (R7). -/
def atMostTwo (l : List Stretch) : Bool :=
  l.all fun b => (l.filter (·.contains b.base)).length ≤ 2

/-- Two stretches overlap by at most 2 000 mm (R5, R7). -/
def overlapOk (a b : Stretch) : Bool := min a.stop b.stop - max a.base b.base ≤ Config.overlapMax

/-- The coverage and overlap tests of R7 for one line. -/
def TrackMap.railOk (m : TrackMap) (l : Nat) (x : LineSlot) : Bool :=
  let r := m.railStretches l
  covers r x.low x.high && atMostTwo r && r.all fun a => r.all fun b => a.seg = b.seg || overlapOk a b

def TrackMap.railsOk (m : TrackMap) : Bool :=
  m.lines.toList.zipIdx.all fun (x, l) => !x.valid || m.railOk l x

/-- A pad stands on its line's rail and in no GUARD segment (R8). -/
def TrackMap.padOk (m : TrackMap) (p : PadSlot) : Bool :=
  match m.line? p.line with
  | none => false
  | some x =>
    x.low ≤ p.chainage && p.chainage < x.high &&
    (m.railStretches p.line).all fun b => !(b.kind = .guard && b.contains p.chainage)

def TrackMap.padsOk (m : TrackMap) : Bool := m.pads.toList.all fun p => !p.valid || m.padOk p

/-- A marker lies within its line (R10). -/
def TrackMap.markerOk (m : TrackMap) (k : MarkerSlot) : Bool :=
  match m.line? k.line with
  | none => false
  | some x => x.low ≤ k.chainage && k.chainage ≤ x.high

def TrackMap.markersOk (m : TrackMap) : Bool := m.markers.toList.all fun k => !k.valid || m.markerOk k

/-- Every valid turntable's deck holds the carriage centred with room for its centring error (R11). -/
def TrackMap.decksLongEnough (m : TrackMap) (p : Params) : Bool :=
  m.turntables.toList.all fun k => !k.valid || p.len + 2 * p.centring ≤ k.ld

/-- No closed stretch of length `len` on the axis of a valid line meets more than 6 segments. The most are met when
the upper end of the stretch has just reached the base of one (R11). DESIGN CHOICE (log 51): the DECK segment of a
turntable that both ends of the line meet is counted once for each end. -/
def atMostSix (l : List Stretch) (len : Chainage) : Bool :=
  l.all fun b => (l.filter (·.meets (b.base - len) b.base)).length ≤ 6

/-- The segment-count test of R11 at U_max. -/
def TrackMap.axesOk (m : TrackMap) (p : Params) : Bool :=
  (List.range 8).all fun l => atMostSix (m.axis l) ((p.len : Int) + 4000)

/-- The checks that depend on the role (R11). -/
def TrackMap.roleOk (m : TrackMap) (p : Params) : Bool :=
  match p.role with
  | .carriage => m.decksLongEnough p && m.axesOk p
  | .turntable => (m.turntable? p.turntable).isSome

/-- All the checks of R12. -/
def TrackMap.checks (m : TrackMap) (p : Params) : Bool :=
  m.linesOk && m.turntablesOk && m.segmentsOk && m.railsOk && m.padsOk && m.markersOk && m.roleOk p

/-! ## Pads taken into the store (R8, R9) -/

/-- A pad far enough from both ends of its line for a carriage of length `len` (R9). -/
def clearOfEnds (x : LineSlot) (c : Chainage) (len : Nat) : Bool :=
  (len / 2 : Nat) + 2000 ≤ c - x.low && (len / 2 : Nat) + 2000 ≤ x.high - c

/-- Pad tolerances brought into 5–100 mm (R8). -/
def TrackMap.clampPads (m : TrackMap) : TrackMap :=
  { m with pads := m.pads.map fun p => if p.valid then { p with tolerance := clampTo 5 100 p.tolerance } else p }

/-- Some valid pad's tolerance lies outside its range (R8). -/
def TrackMap.padsClamped (m : TrackMap) : Bool :=
  m.pads.toList.any fun p => p.valid && clampTo 5 100 p.tolerance ≠ p.tolerance

/-- The carriage clears the valid mark of each pad too close to a line end for its length (R9). -/
def TrackMap.judgePads (m : TrackMap) (len : Nat) : TrackMap :=
  { m with pads := m.pads.map fun p =>
      match m.line? p.line with
      | some x => if p.valid && !clearOfEnds x p.chainage len then { p with valid := false } else p
      | none => p }

end Sys2Proof.Machine
end

