-- ==== Sys2Proof/Machine/Queue.lean ====
section
/-! DEFINITION. The transmit queue (R181–R184), and what the makers of frames do with a frame that is refused or
displaced (the table of R182). -/

namespace Sys2Proof.Machine

/-! ## The queue itself -/

def QueueItem.prompt (x : QueueItem) : Bool := x.frame.prompt

/-- The frame in flight. -/
def inFlight? (q : List QueueItem) : Option QueueItem := q.find? (·.inFlight)

/-- A new frame goes behind the frames of its class, PROMPT before ROUTINE (R181). DEDUCED (log 110): before a ROUTINE frame
in flight, or one that awaits a resend, too. -/
def enqueue (q : List QueueItem) (f : OutFrame) : List QueueItem :=
  if f.prompt then q.filter (·.prompt) ++ [{ frame := f }] ++ q.filter (fun x => !x.prompt)
  else q ++ [{ frame := f }]

/-- Take out the ROUTINE frame most recently queued that is not in flight (R182). -/
def dropLastRoutine : List QueueItem → Option (QueueItem × List QueueItem)
  | [] => none
  | x :: xs =>
    match dropLastRoutine xs with
    | some (y, ys) => some (y, x :: ys)
    | none => if !x.prompt && !x.inFlight then some (x, xs) else none

/-- Take back every frame that `p` picks; one in flight goes on and is only marked (R58, R181). DESIGN CHOICE (log 72): an
orphan CLAIM that waits for a resend goes with a later claim for its segment. -/
def takeBack (p : OutFrame → Bool) (q : List QueueItem) : List QueueItem :=
  q.filterMap fun x => if p x.frame then (if x.inFlight then some { x with orphan := true } else none) else some x

/-- The frame claims one of `segs`. -/
def OutFrame.claims (segs : List Nat) : OutFrame → Bool
  | .claim s _ _ => s ∈ segs
  | _ => false

def Station.setQueue (s : Station) (q : List QueueItem) : Station := s.withLine { s.line with queue := q }

/-! ## Claim list lookups (R51) -/

def ClaimBlock.entry? (c : ClaimBlock) (seg : Nat) : Option ClaimEntry := c.entries.find? (·.seg = seg)

def ClaimEntry.holding (e : ClaimEntry) : Bool := e.state = .held || e.state = .yielding

/-- The segment is in the list as HELD or YIELDING. -/
def ClaimBlock.holds (c : ClaimBlock) (seg : Nat) : Bool := c.entries.any fun e => e.seg = seg && e.holding

/-- The segment is in the list as LISTENING. -/
def ClaimBlock.listens (c : ClaimBlock) (seg : Nat) : Bool :=
  c.entries.any fun e => e.seg = seg && e.state = .listening

def ClaimBlock.lists (c : ClaimBlock) (seg : Nat) : Bool := c.entries.any (·.seg = seg)

/-- `x` is `e`, or a LISTENING member of the same group (R51, R65). -/
def ClaimEntry.groupedWith (e x : ClaimEntry) : Bool :=
  x.seg = e.seg || (e.tag ≠ 0 && x.tag = e.tag && x.state = .listening)

def Station.setEntries (s : Station) (l : List ClaimEntry) : Station := s.withClaims { s.claims with entries := l }

/-- Change the entry for `seg`. -/
def Station.mapEntry (s : Station) (seg : Nat) (f : ClaimEntry → ClaimEntry) : Station :=
  s.setEntries (s.claims.entries.map fun e => if e.seg = seg then f e else e)

/-- The wait count rises by 1 and stays at 15 (R55). -/
def Station.loseClaim (s : Station) : Station :=
  s.withClaims { s.claims with waitCount := bump 15 s.claims.waitCount }

def Station.clearWait (s : Station) : Station := s.withClaims { s.claims with waitCount := 0 }

/-! ## Answers to the block that asked (R58, R59, R62, R64, R193) -/

inductive Told where
  | won | lost | notNow | released
  deriving DecidableEq, Repr

/-- The start phase becomes READY (R193). -/
def Station.enterReady (s : Station) : Station :=
  s.withStart { s.start with phase := .ready, retryMark := false, retryAt := none, asking := false }

/-- A body claim was not won: the retry mark is set, and the claim is asked again B later; with FAULT set the phase
becomes READY instead (R193). -/
def Station.retryBodyClaim (s : Station) : Station :=
  if s.line.fault then s.enterReady
  else s.withStart { s.start with retryMark := true, retryAt := some (s.ms + s.par.beacon), asking := false }

/-- The popped segment `seg` of the backing record changes its marks by `f`, but not in STOPPED, where the record stays as
it is (R130, R135). -/
def Station.markPopped (s : Station) (seg : Nat) (f : Popped → Popped) : Station :=
  if s.order.state = .stopped then s
  else s.withBacking (s.backing.map fun b =>
    { b with popped := b.popped.map fun p => if p.seg = seg then f p else p })

/-- The block that asked for `seg` is told what became of the claim. -/
def Station.tell (s : Station) (a : Asker) (seg : Nat) (t : Told) : Station :=
  match a, t with
  | .startup, .won => if s.start.phase = .bodyClaim then s.enterReady else s
  | .startup, .lost | .startup, .notNow => if s.start.phase = .bodyClaim then s.retryBodyClaim else s
  | .setPosition, .won =>
    s.withOrder { s.order with bodyOwed := s.order.bodyOwed.filter fun n => !s.claims.holds n }
  | .backing, .notNow => s.markPopped seg fun p => { p with claimed := false }
  | .backing, .lost => s.markPopped seg fun p => { p with lost := true }
  | .turntable, .lost => s.withTt { s.tt with retryTime := some (s.ms + s.par.window) }
  | _, _ => s

/-- Remove the LISTENING entry `e` with its group, taking their waiting CLAIMs back (R58, R63, R65). -/
def Station.removeGroup (s : Station) (e : ClaimEntry) : Station :=
  let segs := (s.claims.entries.filter e.groupedWith).map (·.seg)
  (s.setEntries (s.claims.entries.filter fun x => !e.groupedWith x)).setQueue
    (takeBack (OutFrame.claims segs) s.line.queue)

/-- Remove the unsent entry for `seg` alone, taking its waiting CLAIM back (R68). DESIGN CHOICE (log 73): members whose
windows have all ended by then resolve at the next LISTEN_WINDOW_END for one of them. -/
def Station.withdrawUnsent (s : Station) (seg : Nat) : Station :=
  (s.setEntries (s.claims.entries.filter fun x => x.seg ≠ seg)).setQueue (takeBack (OutFrame.claims [seg]) s.line.queue)

/-- A LISTENING entry is abandoned to an outranking CLAIM or to an objection: a loss, except under the drop mark
(R62, R65, R68). -/
def Station.abandon (s : Station) (e : ClaimEntry) : Station :=
  if e.drop then (s.removeGroup e).tell e.asker e.seg .released
  else ((s.removeGroup e).loseClaim).tell e.asker e.seg .lost

/-- The CLAIM of the unsent entry for `seg` was refused, displaced or dropped: no loss, NOT-NOW (R58, R63). -/
def Station.claimNotSent (s : Station) (seg : Nat) : Station :=
  match s.claims.entry? seg with
  | some e =>
    if e.state = .listening && e.windowEnd.isNone then (s.removeGroup e).tell e.asker e.seg .notNow else s
  | none => s

/-! ## Offering a frame (R181, R182) -/

def Station.setOwed (s : Station) (segs : List Nat) (b : Bool) : Station :=
  s.withClaims { s.claims with owed := segs.foldl (fun v n => v.setIfInBounds n b) s.claims.owed }

/-- A TURN-CLEAR to turntable `t` is to be sent again (R182, log 17). -/
def Station.oweClear (s : Station) (t : Nat) : Station :=
  if s.passage.clearsOwed.contains t then s
  else s.withPassage { s.passage with clearsOwed := s.passage.clearsOwed ++ [t] }

/-- What the maker of a frame does when it is displaced (table of R182, logs 15 and 17). -/
def Station.displaced (s : Station) (x : QueueItem) : Station :=
  match x.frame with
  | .claim seg _ _ => if x.orphan then s else s.claimNotSent seg
  | .release segs => s.setOwed segs true
  | .yieldAsk seg _ _ => s.withOrder { s.order with askTimes := s.order.askTimes.setIfInBounds seg none }
  | .turnAsk .. => s.withPassage { s.passage with askOwed := true }
  | .turnClear t => s.oweClear t
  | _ => s

/-- Offer a frame to the transmit queue; `true` is TAKEN, `false` REFUSED. A PROMPT frame displaces the latest
ROUTINE frame of a full queue (R181, R182). -/
def Station.offer (s : Station) (f : OutFrame) : Station × Bool :=
  if s.line.queue.length < Config.places then (s.setQueue (enqueue s.line.queue f), true)
  else if f.prompt then
    match dropLastRoutine s.line.queue with
    | some (x, rest) => ((s.setQueue (enqueue rest f)).displaced x, true)
    | none => (s, false)
  else (s, false)

/-- Offer a frame that its maker does not offer again. -/
def Station.send (s : Station) (f : OutFrame) : Station := (s.offer f).1

/-- An OBJECT, PROMPT and not offered again (R60, R182). -/
def Station.object (s : Station) (seg : Nat) (k : Objection) (r : Rank) (claimant : Nat) : Station :=
  s.send (.object seg k r claimant)

/-! ## RELEASE frames (R67, R184) -/

/-- The segments whose release is owed, in increasing number. -/
def ClaimBlock.owedSegs (c : ClaimBlock) : List Nat :=
  (c.owed.toList.zipIdx.filter (·.1)).map (·.2)

/-- Merge segments into the first RELEASE that is queued, not yet sent and has room; the segments left over (R184). -/
def mergeRelease (new : List Nat) : List QueueItem → List QueueItem × List Nat
  | [] => ([], new)
  | x :: xs =>
    match x.frame with
    | .release segs =>
      if x.sends = 0 && !x.inFlight && segs.length < Config.places then
        let fresh := new.filter fun n => !segs.contains n
        let room := Config.places - segs.length
        ({ x with frame := .release (sortBy (fun a b => decide (a ≤ b)) (segs ++ fresh.take room)) } :: xs, fresh.drop room)
      else
        let (q, rest) := mergeRelease new xs
        (x :: q, rest)
    | _ =>
      let (q, rest) := mergeRelease new xs
      (x :: q, rest)

/-- Offer one RELEASE of up to 8 owed segments: merged where a RELEASE waits unsent, a new frame for the rest; what
the queue takes is no longer owed (R67, R184). -/
def Station.offerReleases (s : Station) : Station :=
  let new := s.claims.owedSegs.take Config.places
  if new.isEmpty then s
  else
    let (q, rest) := mergeRelease new s.line.queue
    let s1 := s.setQueue q
    if rest.isEmpty then s1.setOwed new false
    else
      match s1.offer (.release rest) with
      | (s2, true) => s2.setOwed new false
      | (s2, false) => s2.setOwed (new.filter fun n => !rest.contains n) false

/-! ## Releasing (R66, R68) -/

/-- A HELD or YIELDING entry is removed, its stamp set, its RELEASE owed and offered at once (R66, R67). -/
def Station.releaseEntry (s : Station) (seg : Nat) : Station :=
  (s.withClaims { s.claims with
    entries := s.claims.entries.filter fun e => e.seg ≠ seg
    stamps := s.claims.stamps.setIfInBounds seg (some s.ms)
    owed := s.claims.owed.setIfInBounds seg true }).offerReleases

/-- A release request for `seg` (R66, R68). A YIELDING or DECK entry, or none, is answered NOT-HELD. A LISTENING one
marks its group; it keeps its window, or goes at once when its CLAIM is not yet sent (log 33). -/
def Station.releaseRequest (s : Station) (seg : Nat) : Station :=
  match s.claims.entry? seg with
  | none => s
  | some e =>
    if e.purpose = .deck then s
    else match e.state with
      | .held => (s.releaseEntry seg).tell e.asker seg .released
      | .yielding => s
      | .listening =>
        let s1 := s.setEntries (s.claims.entries.map fun x => if e.groupedWith x then { x with drop := true } else x)
        if e.windowEnd.isNone then (s1.withdrawUnsent seg).tell e.asker seg .released else s1

/-- Release every segment of a list, in order. -/
def Station.releaseAll (s : Station) (segs : List Nat) : Station := segs.foldl Station.releaseRequest s

/-! ## Beacons falling due (R183) -/

def QueueItem.isBeacon (x : QueueItem) : Bool := x.frame = .beacon

/-- A due beacon is queued, or takes the place of one that is queued and not in flight, or waits (R183). DESIGN CHOICE
(log 85): the beacon that takes a place is the one that was due, so nothing is due after it. -/
def Station.beaconFallsDue (s : Station) : Station :=
  match s.line.queue.find? (·.isBeacon) with
  | some x =>
    if x.inFlight then s.withLine { s.line with beaconDue := true }
    else s.withLine { s.line with
      beaconDue := false
      queue := s.line.queue.map fun y => if y.isBeacon then { y with sends := 0 } else y }
  | none =>
    match s.offer .beacon with
    | (s1, true) => s1.withLine { s1.line with beaconDue := false }
    | (s1, false) => s1.withLine { s1.line with beaconDue := true }

/-- A beacon that waits is queued as soon as it can be (R183). -/
def Station.queueDueBeacon (s : Station) : Station :=
  if s.line.beaconDue && !s.line.queue.any (·.isBeacon) then s.beaconFallsDue else s

end Sys2Proof.Machine
end

