-- ==== Sys2Proof/Machine/Peers.lean ====
section
/-! DEFINITION. The peer table (chapter 3): learning from frames, ageing, occupancy, and the seen-held map. -/

namespace Sys2Proof.Machine

/-- The entry for station `n`; the default entry for a number outside 1–29 (R37). -/
def Station.peer (s : Station) (n : Nat) : PeerEntry :=
  if n = 0 then {} else (s.peers[n - 1]?).getD {}

def Station.setPeer (s : Station) (n : Nat) (p : PeerEntry) : Station :=
  if n = 0 then s else s.withPeers (s.peers.setIfInBounds (n - 1) p)

def Station.mapPeer (s : Station) (n : Nat) (f : PeerEntry → PeerEntry) : Station := s.setPeer n (f (s.peer n))

/-- The numbers of the track stations (R37). -/
def trackStations : List Nat := (List.range 29).map (· + 1)

/-! ## Learning (R38–R44) -/

/-- What every frame does to its sender's entry: FRESH, last heard, role; another role empties it first (R38, R39). -/
def PeerEntry.refresh (p : PeerEntry) (role : Role) (now : Nat) : PeerEntry :=
  let q : PeerEntry := if p.role = role then p else {}
  { q with state := .fresh, lastHeard := now, role := role }

/-- The segments of a reported list that are valid here, up to the eighth place, repeats dropped (R39, R40). -/
def knownHeld (m : TrackMap) (l : List HeldItem) : List HeldItem :=
  let once := (dropRepeats [] ((l.take Config.places).map (·.seg)))
  (once.filterMap fun n => (l.take Config.places).find? (·.seg = n)).filter fun h => (m.segment? h.seg).isSome

/-- A beacon's held list replaces the one held; notes for the segments it lists go (R40, R41). -/
def PeerEntry.takeHeld (p : PeerEntry) (m : TrackMap) (l : List HeldItem) : PeerEntry :=
  let held := knownHeld m l
  { p with held := held, notes := p.notes.filter fun n => !held.any (·.seg = n.seg) }

/-- A carriage BEACON replaces every reported field (R40). DESIGN CHOICE (log 55): the fields are kept as they came, the
line byte 254 or 255 and a deck turntable, centre, U or half-length outside R37's Range too; only the period is clamped. -/
def PeerEntry.takeCarriage (p : PeerEntry) (m : TrackMap) (b : CarriageBeacon) : PeerEntry :=
  { p.takeHeld m b.held with
    beaconed := true, period := clampTo 250 8000 b.period, frame := frameOfLineByte b.line, line := b.line
    deckTurntable := b.deckTurntable, centre := b.centre, u := b.u, halfLength := b.halfLength
    effective := b.effective, orderCode := b.orderCode, reason := b.reason, rank := ⟨b.wait, false⟩ }

/-- A turntable BEACON replaces every turntable field; a number outside 1–29 is not kept (R41). -/
def PeerEntry.takeTurntable (p : PeerEntry) (m : TrackMap) (b : TurntableBeacon) : PeerEntry :=
  { p.takeHeld m b.held with
    beaconed := true, period := clampTo 250 8000 b.period, turntableId := b.turntable, deckState := b.deck
    alignedArm := b.aligned, holder := if 1 ≤ b.holder && b.holder ≤ 29 then b.holder else 0
    queue := dropRepeats [] ((b.queue.take Config.places).filter fun n => 1 ≤ n && n ≤ 29), faultReason := b.reason }

/-- Remove the notes for the segments `p` picks. -/
def PeerEntry.dropNotes (e : PeerEntry) (p : Nat → Bool) : PeerEntry :=
  { e with notes := e.notes.filter fun n => !p n.seg }

/-- The notes without the one that expires first (R42). DESIGN CHOICE (log 62): of several that expire together the one
made first goes. -/
def dropEarliest (l : List Note) : List Note :=
  match sortBy (fun a b => decide (a.expiry ≤ b.expiry)) l with
  | [] => []
  | x :: _ => l.erase x

/-- A CLAIM sets the last rank and makes a pending note; none for a segment that is not valid or is a DECK (R39, R42). -/
def PeerEntry.takeClaim (e : PeerEntry) (m : TrackMap) (seg : Nat) (rank : Rank) (expiry : Nat) : PeerEntry :=
  let e1 := { e with rank := rank }
  match m.segment? seg with
  | none => e1
  | some g =>
    if g.kind = .deck then e1
    else
      let rest := e1.notes.filter fun n => n.seg ≠ seg
      { e1 with notes := (if rest.length < Config.places then rest else dropEarliest rest) ++ [⟨seg, rank, expiry⟩] }

/-- An OBJECT(HOLDS) adds its segment to the objector's held list, the earliest making room (R43). DESIGN CHOICE
(log 54): of segments that came together in one beacon the first listed counts as the earliest. -/
def PeerEntry.takeHolds (e : PeerEntry) (m : TrackMap) (seg : Nat) : PeerEntry :=
  let e1 := e.dropNotes (· = seg)
  if (m.segment? seg).isNone || e1.held.any (·.seg = seg) then e1
  else { e1 with held := (if e1.held.length < Config.places then e1.held else e1.held.tail) ++ [⟨seg, false⟩] }

/-- An OBJECT from `p` naming claimant `c` (R43). -/
def Station.peerObject (s : Station) (p seg : Nat) (k : Objection) (rank : Rank) (c : Nat) : Station :=
  let s1 := s.mapPeer p fun e =>
    let e1 := { e with rank := rank }
    if k = .holds then e1.takeHolds s.map seg else e1
  if c ≠ s.par.station && 1 ≤ c && c ≤ 29 then s1.mapPeer c (·.dropNotes (· = seg)) else s1

/-- A RELEASE removes the listed segments and their notes (R44). -/
def PeerEntry.takeRelease (e : PeerEntry) (segs : List Nat) : PeerEntry :=
  { (e.dropNotes fun n => segs.contains n) with held := e.held.filter fun h => !segs.contains h.seg }

/-! ## Freshness (R45) -/

/-- The period an entry is aged against: 8000 ms until its first beacon (R45). -/
def PeerEntry.agePeriod (e : PeerEntry) : Nat := if e.beaconed then e.period else 8000

/-! ## Occupancy (R48) -/

/-- A carriage entry counts as moving: effective step above 0, RUNNING or BACKING (R48). -/
def PeerEntry.moving (e : PeerEntry) : Bool :=
  0 < e.effective || e.orderCode = OrderState.running.code || e.orderCode = OrderState.backing.code

/-- The segments a carriage entry's extent touches (R48). -/
def PeerEntry.extentSegs (e : PeerEntry) (m : TrackMap) : List Nat :=
  match e.frame with
  | .unknown => []
  | .line =>
    let w : Int := (e.halfLength + e.u : Nat)
    (m.covering (.line e.line) (e.centre - w) (e.centre + w)).map (·.seg)
  | .deck => (m.deckSegment e.deckTurntable).toList

/-- The entry occupies segment `seg` (R48). DESIGN CHOICE (log 99): a STALE or LOST entry that counts as moving occupies its
held list in frame UNKNOWN too, where it has no extent. -/
def PeerEntry.occupies (e : PeerEntry) (m : TrackMap) (seg : Nat) : Bool :=
  e.state ≠ .absent &&
  match e.role with
  | .carriage =>
    seg ∈ e.extentSegs m ||
    ((e.state = .stale || e.state = .lost) && e.moving && e.held.any (·.seg = seg))
  | .turntable =>
    (e.deckState = DeckState.rotating.code || e.deckState = DeckState.fault.code) &&
    e.held.any (·.seg = seg) && ((m.segment? seg).any (·.kind = .guard))

/-- The occupancy lookup: every entry that occupies `seg`, by increasing number (R48). -/
def Station.occupants (s : Station) (seg : Nat) : List Nat :=
  trackStations.filter fun n => (s.peer n).occupies s.map seg

/-! ## The seen-held map (R49) -/

/-- Every entry whose held list names `seg`, by increasing number. -/
def Station.holders (s : Station) (seg : Nat) : List Nat :=
  trackStations.filter fun n => (s.peer n).state ≠ .absent && (s.peer n).held.any (·.seg = seg)

/-- Every entry with an unexpired note for `seg` that outranks `own`, by increasing number. -/
def Station.outrankingClaimants (s : Station) (seg : Nat) (own : Rank) : List Nat :=
  trackStations.filter fun n =>
    (s.peer n).notes.any fun t => t.seg = seg && s.ms < t.expiry && outranks t.rank n own s.par.station

inductive SeenHeld where
  | heldBy (p : Nat)
  | claimedBy (p : Nat)
  | free
  deriving DecidableEq, Repr

/-- The segment answer (R49). -/
def Station.seenHeld (s : Station) (seg : Nat) (own : Rank) : SeenHeld :=
  match s.holders seg with
  | p :: _ => .heldBy p
  | [] =>
    match s.outrankingClaimants seg own with
    | p :: _ => .claimedBy p
    | [] => .free

/-- The station that serves turntable `t`: the lowest entry of role TURNTABLE with that id, not ABSENT (R41). -/
def Station.servingStation (s : Station) (t : Nat) : Option Nat :=
  trackStations.find? fun n =>
    (s.peer n).role = .turntable && (s.peer n).turntableId = t && (s.peer n).state ≠ .absent

end Sys2Proof.Machine
end

