-- ==== Sys2Proof/Machine/Extent.lean ====
section
/-! DEFINITION. The position unit's figures: U, the body and guarded extent, and the segments they touch (R19, R23, R24). -/

namespace Sys2Proof.Machine

/-- U for a frame, U_ref and travel: ⌈travel × G / 1000⌉ above U_ref, held at 2000; 2000 in frame UNKNOWN (R23). -/
def computeU (frame : Frame) (uRef travel drift : Nat) : Nat :=
  match frame with
  | .unknown => Config.uMax
  | _ => min Config.uMax (uRef + ceilDiv (travel * drift) 1000)

/-- U recomputed after a change of travel, U_ref or frame (R23). -/
def Position.recompute (p : Position) (drift : Nat) : Position :=
  { p with u := computeU p.frame p.uRef p.travel drift }

/-- The centre set anew on a line, with a new U_ref and no travel since (R27, R28, R33–R35). -/
def Position.reference (p : Position) (line : Nat) (centre : Chainage) (uRef drift : Nat) : Position :=
  { p with frame := .line, line := line, acc := centre * 1000, centre := centre, travelAcc := 0, travel := 0
           uRef := uRef }.recompute drift

/-- Half the carriage length. -/
def Station.half (s : Station) : Int := (s.par.len / 2 : Nat)

/-- Half-length and U: how far the guarded extent reaches from the centre (R24). -/
def Station.reach (s : Station) : Int := s.half + s.pos.u

/-- The body: centre ± L/2 (R24). -/
def Station.body (s : Station) : Chainage × Chainage := (s.pos.centre - s.half, s.pos.centre + s.half)

/-- The ends of the guarded extent, the lower first (R24). -/
def Station.guardedLo (s : Station) : Chainage := s.pos.centre - s.reach
def Station.guardedHi (s : Station) : Chainage := s.pos.centre + s.reach

/-- The guarded front and rear, by the direction of travel (R24). -/
def Station.guardedFront (s : Station) : Chainage :=
  match s.pos.dir with
  | .up => s.guardedHi
  | .down => s.guardedLo

def Station.guardedRear (s : Station) : Chainage :=
  match s.pos.dir with
  | .up => s.guardedLo
  | .down => s.guardedHi

/-- The frame the covering lookup is asked in; none while the position is UNKNOWN (R19). -/
def Station.axisFrame (s : Station) : Option Axis :=
  match s.pos.frame with
  | .unknown => none
  | .line => some (.line s.pos.line)
  | .deck => some (.deck s.pos.deckTurntable)

/-- What the guarded extent touches, under the covering lookup in the present frame (R24). -/
def Station.touched (s : Station) : List Stretch :=
  match s.axisFrame with
  | none => []
  | some a => s.map.covering a s.guardedLo s.guardedHi

/-- The guarded extent overlaps segment `seg`. -/
def Station.overlaps (s : Station) (seg : Nat) : Bool := s.touched.any (·.seg = seg)

/-- What decides the extents handed on: frame, axis, centre, U, direction (R24). -/
def Station.extentKey (s : Station) : Frame × Nat × Nat × Chainage × Nat × Dir :=
  (s.pos.frame, s.pos.line, s.pos.deckTurntable, s.pos.centre, s.pos.u, s.pos.dir)

/-- The home segment of the centre; none is reported as 255 (R14). -/
def Station.home (s : Station) : Option Nat := s.axisFrame.bind fun a => s.map.home? a s.pos.centre

/-- This station occupies `seg`: its guarded extent, or a turntable's GUARD entry in ROTATING or FAULT (R74). -/
def Station.ownOccupies (s : Station) (seg : Nat) : Bool :=
  match s.par.role with
  | .carriage => s.overlaps seg
  | .turntable =>
    (s.tt.deck = .rotating || s.tt.deck = .fault) &&
    s.claims.entries.any fun e => e.seg = seg && e.purpose = .guard && e.holding

end Sys2Proof.Machine
end

