-- ==== Sys2Proof/Machine/Claims.lean ====
section
/-! DEFINITION. The claim block (chapter 4): claim and group requests, the end of a window, yields, the DECK entry. -/

namespace Sys2Proof.Machine

/-! ## Rank and courtesy (R54, R56) -/

/-- The present wait count, courtesy clear: the rank for everything but a claim (R54). -/
def Station.plainRank (s : Station) : Rank := ⟨s.claims.waitCount, false⟩

/-- A claim on `seg` made now would carry the courtesy mark: within 2W of its release stamp (R56, log 10). -/
def Station.wouldBeCourteous (s : Station) (seg : Nat) : Bool :=
  match (s.claims.stamps[seg]?).getD none with
  | some t => s.ms ≤ t + 2 * s.par.window
  | none => false

/-- The rank of an own entry: the present wait count with the entry's mark (R54). -/
def Station.entryRank (s : Station) (e : ClaimEntry) : Rank := ⟨s.claims.waitCount, e.courtesy⟩

/-! ## Claim requests (R57, R63) -/

inductive ClaimAnswer where
  | sent | notNow | refused | listed | noRoom
  | heldBy (p : Nat)
  | claimedBy (p : Nat)
  deriving DecidableEq, Repr

/-- The list has room for `n` more (R57, R77). -/
def ClaimBlock.room (c : ClaimBlock) (n : Nat) : Bool :=
  c.entries.length + n ≤ (if c.deckReserve then Config.places - 1 else Config.places)

/-- The first test of R57 that fails for `seg`, asked together with `n - 1` others; none when every test passes. -/
def Station.claimTest (s : Station) (seg n : Nat) : Option ClaimAnswer :=
  if !(s.start.phase = .bodyClaim || s.start.phase = .ready) || s.line.fault then some .notNow
  else if !((s.map.segment? seg).any fun g => g.kind != .deck) then some .refused
  else if s.claims.lists seg then some .listed
  else if !s.claims.room n then some .noRoom
  else if (s.claims.owed[seg]?).getD false then some .notNow
  else match s.seenHeld seg ⟨s.claims.waitCount, s.wouldBeCourteous seg⟩ with
    | .heldBy p => some (.heldBy p)
    | .claimedBy p => some (.claimedBy p)
    | .free => none

/-- Make the LISTENING unsent entry for `seg` and offer its CLAIM; a CLAIM the queue refuses takes the entry, with
its group, out again (R57, R58, R63). `true` when the CLAIM was taken. -/
def Station.makeClaim (s : Station) (seg : Nat) (purpose : Purpose) (asker : Asker) (tag : Nat) : Station × Bool :=
  let e : ClaimEntry := { seg := seg, purpose := purpose, asker := asker, tag := tag, courtesy := s.wouldBeCourteous seg }
  let s1 := s.setEntries (s.claims.entries ++ [e])
  match s1.offer (.claim seg tag (s1.entryRank e)) with
  | (s2, true) => (s2, true)
  | (s2, false) => (s2.removeGroup e, false)

/-- A single claim request (R57). -/
def Station.claim (s : Station) (seg : Nat) (purpose : Purpose) (asker : Asker) : Station × ClaimAnswer :=
  match s.claimTest seg 1 with
  | some a => (s, a)
  | none =>
    match s.makeClaim seg purpose asker 0 with
    | (s1, true) => (s1, .sent)
    | (s1, false) => (s1, .notNow)

/-- The tag after `t`, from 255 back to 1 (R63). -/
def stepTag (t : Nat) : Nat := if t < 255 then t + 1 else 1

/-- The first tag from `t` on that no entry still carries (R63). The list holds at most 8, so 9 tries are enough. -/
def freshTag (l : List ClaimEntry) : Nat → Nat → Nat
  | 0, t => t
  | n + 1, t => if l.any (·.tag = t) then freshTag l n (stepTag t) else t

/-- Make the members of a group one by one; none of it stands once a CLAIM is refused (R63). -/
def Station.makeGroup (s : Station) (purpose : Purpose) (asker : Asker) (tag : Nat) : List Nat → Station × Bool
  | [] => (s, true)
  | seg :: rest =>
    match s.makeClaim seg purpose asker tag with
    | (s1, true) => Station.makeGroup s1 purpose asker tag rest
    | (s1, false) => (s1, false)

/-- A group request, or a single one where only one segment is named (R63). -/
def Station.claimGroup (s : Station) (segs : List Nat) (purpose : Purpose) (asker : Asker) : Station × ClaimAnswer :=
  match sortBy (fun a b => decide (a ≤ b)) segs with
  | [] => (s, .sent)
  | [seg] => s.claim seg purpose asker
  | members =>
    match members.findSome? fun seg => s.claimTest seg members.length with
    | some a => (s, a)
    | none =>
      let tag := freshTag s.claims.entries (Config.places + 1) s.claims.nextTag
      let s1 := s.withClaims { s.claims with nextTag := stepTag tag }
      match s1.makeGroup purpose asker tag members with
      | (s2, true) => (s2, .sent)
      | (s2, false) => (s2, .notNow)

/-! ## The end of a window (R59, R64, R68) -/

/-- The entry, or every member of its group, has a window that has ended. -/
def Station.windowOver (s : Station) (e : ClaimEntry) : Bool :=
  (s.claims.entries.filter e.groupedWith).all fun x => dueAt x.windowEnd s.ms

/-- The last window end of the entry's group. -/
def Station.lastWindowEnd (s : Station) (e : ClaimEntry) : Nat :=
  (s.claims.entries.filter e.groupedWith).foldl (fun acc x => max acc (x.windowEnd.getD 0)) 0

/-- An ended window turns the entry, or its whole group, HELD; a guard group so held sets the wait count to 0, and an
entry with the drop mark is released at once (R55, R59, R64, R68). -/
def Station.endWindow (s : Station) (seg : Nat) : Station :=
  match s.claims.entry? seg with
  | none => s
  | some e =>
    if e.state = .listening && s.windowOver e then
      let won := some (s.lastWindowEnd e)
      let members := (s.claims.entries.filter e.groupedWith).map (·.seg)
      let s1 := s.setEntries (s.claims.entries.map fun x =>
        if e.groupedWith x then { x with state := .held, wonTime := won } else x)
      let s2 := if e.purpose = .guard then s1.clearWait else s1
      if e.drop then s2.releaseAll members else s2.tell e.asker seg .won
    else s

/-- A CLAIM reported sent with a good echo starts its entry's listen window (R58). -/
def Station.openWindow (s : Station) (seg : Nat) : Station :=
  s.mapEntry seg fun e =>
    if e.state = .listening && e.windowEnd.isNone then { e with windowEnd := some (s.ms + s.par.window) } else e

/-! ## Claims and objections of others (R60, R61) -/

/-- A CLAIM for `seg` from `p` meets the own entry (R60). -/
def Station.answerClaim (s : Station) (p seg : Nat) (rank : Rank) : Station :=
  if !((s.map.segment? seg).any fun g => g.kind != .deck) then s.countBad
  else match s.claims.entry? seg with
    | none => s
    | some e =>
      if e.holding then s.object seg .holds s.plainRank p
      else if e.drop then s.abandon e
      else if outranks (s.entryRank e) s.par.station rank p then s.object seg .outranks (s.entryRank e) p
      else s.abandon e

/-! ## Yields (R71) -/

/-- The hold limit of a won entry, in ms: won time plus H (R71). -/
def Station.holdEnd (s : Station) (e : ClaimEntry) : Nat := e.wonTime.getD 0 + s.par.hold * 1000

/-- An asked entry becomes YIELDING at once when its hold limit has passed, and else records the asker (R71). -/
def Station.yieldEntry (s : Station) (e : ClaimEntry) (p : Nat) : Station :=
  if s.holdEnd e ≤ s.ms then s.mapEntry e.seg fun x => { x with state := .yielding }
  else s.mapEntry e.seg fun x => { x with pendingYield := some p }

/-- At the hold limit, a pending yield is carried out, or answered OCCUPIED where the extent has come to overlap the
segment (R71). -/
def Station.holdLimit (s : Station) (seg : Nat) : Station :=
  match s.claims.entry? seg with
  | none => s
  | some e =>
    match e.pendingYield with
    | none => s
    | some p =>
      if e.state = .held && s.holdEnd e ≤ s.ms then
        if s.overlaps seg then
          (s.mapEntry seg fun x => { x with pendingYield := none }).object seg .occupied s.plainRank p
        else s.mapEntry seg fun x => { x with state := .yielding, pendingYield := none }
      else s

/-! ## Purposes (R52) and the DECK entry (R76, R77) -/

/-- AHEAD entries that the guarded extent overlaps take purpose BODY (R52). -/
def Station.aheadToBody (s : Station) : Station :=
  let t := s.touched
  s.setEntries (s.claims.entries.map fun e =>
    if e.purpose = .ahead && t.any (·.seg = e.seg) then { e with purpose := .body } else e)

/-- The DECK entry of turntable `t` is made; `false` when the list has no room (R76). -/
def Station.makeDeckEntry (s : Station) (t : Nat) : Station × Bool :=
  match s.map.deckSegment t with
  | none => (s, false)
  | some n =>
    if s.claims.lists n then (s, true)
    else if s.claims.entries.length < Config.places then
      (s.setEntries (s.claims.entries ++
        [{ seg := n, state := .held, purpose := .deck, wonTime := some s.ms }]), true)
    else (s, false)

/-- The DECK entry of turntable `t` is removed, without a RELEASE and without a stamp (R76). -/
def Station.removeDeckEntry (s : Station) (t : Nat) : Station :=
  s.setEntries (s.claims.entries.filter fun e => !(e.purpose = .deck && s.map.deckSegment t = some e.seg))

def Station.setReserve (s : Station) (b : Bool) : Station := s.withClaims { s.claims with deckReserve := b }

end Sys2Proof.Machine
end

