-- ==== Sys2Proof/Machine/Envelope.lean ====
section
/-! DEFINITION. The motion envelope's figures (chapter 5): ladder and tables R80–R82, distances R83–R85, permitted
step R86–R89, direction requests R93, emergency demand R94. Its evaluation stands in Evaluate.lean. -/

namespace Sys2Proof.Machine

/-! ## Ladder and tables (R80, R82) -/

/-- The second pass of R80: each step raised to the step before it, as that step now stands. -/
def raiseToPrevious : Nat → List Nat → List Nat
  | _, [] => []
  | prev, x :: xs => max prev x :: raiseToPrevious (max prev x) xs

/-- S1 to S7 brought into order, S0 before them (R80). -/
def orderLadder (raw : List Nat) : List Nat := 0 :: raiseToPrevious 0 (raw.map (clampTo 10 2500))

/-- d of a step of speed `v` (R82). -/
def stopDistance (tr a v : Nat) : Nat := ceilDiv (v * tr) 1000 + ceilDiv (v * v) (2 * a)

/-- A stopping table: d_0 is 0, since S_0 is 0 (R82). -/
def stoppingTable (ladder : Vector Nat 8) (tr a : Nat) : Vector Nat 8 := ladder.map (stopDistance tr a)

/-- The table in use follows the load state (R79). -/
def Station.table (s : Station) : Vector Nat 8 :=
  match s.lift.load with
  | .empty => s.env.emptyTable
  | .loaded => s.env.loadedTable

/-- d_k in the table in use. -/
def Station.d (s : Station) (k : Nat) : Nat := (s.table[k]?).getD 0

/-- d of the effective step (R92). -/
def Station.dEff (s : Station) : Nat := s.d s.effective

/-! ## Distances (R83, R84) -/

/-- The stretches, on the axis of the position, of the own entries that `p` picks (R83). -/
def Station.counted (s : Station) (p : ClaimEntry → Bool) : List Stretch :=
  match s.pos.frame with
  | .unknown => []
  | .line => (s.map.axis s.pos.line).filter fun b => s.claims.entries.any fun e => e.seg = b.seg && p e
  | .deck =>
    match s.map.deck? s.pos.deckTurntable s.pos.entryArm, s.map.deckSegment s.pos.deckTurntable with
    | some k, some n =>
      if s.claims.entries.any fun e => e.seg = n && e.purpose = .deck && p e then [⟨n, .deck, k.lo, k.hi⟩] else []
    | _, _ => []

/-- Extend the far edge upward while some stretch contains it (R84, UP). -/
def runUp (l : List Stretch) : Nat → Int → Int
  | 0, edge => edge
  | n + 1, edge =>
    let here := l.filter (·.contains edge)
    if here.isEmpty then edge else runUp l n (here.foldl (fun acc b => max acc b.stop) edge)

/-- Extend the far edge downward while some stretch contains the millimetre below it (R84, DOWN). -/
def runDown (l : List Stretch) : Nat → Int → Int
  | 0, edge => edge
  | n + 1, edge =>
    let here := l.filter (·.contains (edge - 1))
    if here.isEmpty then edge else runDown l n (here.foldl (fun acc b => min acc b.base) edge)

/-- The distance from the guarded front to the far edge of the run of `l` (R84). The first link of the run must
contain the guarded rear itself. -/
def Station.runDistance (s : Station) (l : List Stretch) : Int :=
  let rear := s.guardedRear
  let first := l.filter (·.contains rear)
  match s.pos.dir with
  | .up =>
    (if first.isEmpty then rear else runUp l l.length (first.foldl (fun acc b => max acc b.stop) rear)) - s.guardedFront
  | .down =>
    s.guardedFront -
      (if first.isEmpty then rear else runDown l l.length (first.foldl (fun acc b => min acc b.base) rear))

/-- D_claim counts HELD entries (R84). -/
def Station.dClaim (s : Station) : Int := s.runDistance (s.counted fun e => e.state = .held)

/-- D_hold counts HELD and YIELDING entries (R84). -/
def Station.dHold (s : Station) : Int := s.runDistance (s.counted fun e => e.holding)

/-! ## The stop point (R85) -/

/-- The stop point as the order unit or the backing rule gives it: none in any state but RUNNING and BACKING. -/
def Station.stopPoint (s : Station) : Option Chainage :=
  match s.order.state with
  | .running => s.order.legStop
  | .backing => s.backing.map (·.stop)
  | _ => none

def Station.dStop (s : Station) : Option Nat := s.stopPoint.map fun x => distance x s.pos.centre

/-! ## The permitted step (R86–R89) -/

/-- Some segment under the guarded extent is neither HELD nor YIELDING (R86). -/
def Station.unheldBelow (s : Station) : Bool := s.touched.any fun b => !s.claims.holds b.seg

/-- The claim term (R86). -/
def Station.pClaim (s : Station) : Nat :=
  if s.unheldBelow || s.pos.frame ≠ .line then 0
  else
    let room := s.dClaim
    highestBelow 8 fun k => (s.d k + s.par.margin : Nat) ≤ room

/-- The stop term (R87). -/
def Station.pStop (s : Station) : Nat :=
  match s.dStop with
  | none => 0
  | some x =>
    if !s.env.handedOn then highestBelow 8 fun k => s.d k ≤ x
    else if s.appr.state = .attempt then 1 else 0

/-- The guarded extent overlaps a GUARD or a DECK segment (R88). -/
def Station.nearTurntable (s : Station) : Bool := s.touched.any fun b => b.kind ≠ .plain

/-- The cap term (R88). -/
def Station.pCap (s : Station) : Nat :=
  if !(s.order.state = .running || s.order.state = .backing) then 0
  else if !s.lift.state.atRest then 0
  else if s.inputs.driveFault then 0
  else if s.silent then 0
  else if s.line.fault then 0
  else if s.pos.doubt || s.pos.u = Config.uMax || s.nearTurntable then 1
  else 7

/-- The permitted step (R89); 0 in frame UNKNOWN (R83). -/
def Station.permitted (s : Station) : Nat :=
  if s.pos.frame = .unknown then 0 else min s.pClaim (min s.pStop s.pCap)

/-! ## Direction requests and the emergency demand (R93, R94) -/

def Station.setDir (s : Station) (d : Dir) : Station := s.withPos { s.pos with dir := d }

def Station.setPending (s : Station) (d : Option Dir) : Station := s.withEnv { s.env with pendingDir := d }

/-- A direction request (R93). A pending direction holds the command at 0. -/
def Station.requestDirection (s : Station) (d : Dir) : Station :=
  if d = s.pos.dir then s.setPending none
  else if s.effective = 0 then (s.setPending none).setDir d
  else s.withEnv { s.env with pendingDir := some d, commanded := 0 }

/-- The pending direction is applied once the effective step is 0 (R93). -/
def Station.applyPending (s : Station) : Station :=
  match s.env.pendingDir with
  | some d => if s.effective = 0 then (s.setPending none).setDir d else s
  | none => s

/-- The emergency demand is raised: command 0, latch set (R94). -/
def Station.raiseEmergency (s : Station) : Station := s.withEnv { s.env with commanded := 0, latch := true }

/-- The stop point goes, and with it the demand of an attempt in progress; that of an attempt given up earlier stays
until the carriage stands (R85, R99, R142). -/
def Station.dropStop (s : Station) : Station :=
  s.withEnv { s.env with handedOn := false, finalStop := if s.appr.state = .attempt then none else s.env.finalStop }

/-- The stop point is given anew: the final approach for it is not yet due, and the approach record is reset (R85,
R142). -/
def Station.freshStop (s : Station) : Station := s.dropStop.withAppr {}

end Sys2Proof.Machine
end

