-- ==== Sys2Proof/Machine/OrderStates.lean ====
section
/-! DEFINITION. Changes of order state that several blocks make: STOPPED R106, DONE and FAILED R116, the returns of
R117–R119, the answer slot R102, the park record R151, R152, R191. -/

namespace Sys2Proof.Machine

/-! ## The park record (R151, R152, R191) -/

/-- Address of the park record: it follows the blocks of 11.2, of 51, 1414, 386 and 1282 bytes. -/
def parkBase : Nat := 51 + 1414 + 386 + 1282

/-- The sum of a list of bytes, modulo 65 536 (R189). -/
def sumBytes (l : List Byte) : Nat := l.foldl (fun acc b => acc + b.toNat) 0 % 65536

def LoadState.code : LoadState → Nat
  | .empty => 0
  | .loaded => 1

/-- Bytes 1 to 7 of a park record (R191). -/
def ParkRecord.fields (r : ParkRecord) : List Byte :=
  [byteOf (boolBit r.valid 0), byteOf r.line] ++ be24Signed r.centre ++ [byteOf (r.pad.getD 255), byteOf r.load.code]

/-- Bytes 1 to 9: the fields, and the sum with byte 0 taken as CLOSED (R191). -/
def ParkRecord.bytes (r : ParkRecord) : List Byte := r.fields ++ be16 (sumBytes (2#8 :: r.fields))

/-- A write begins: byte 0 OPEN, then the record; byte 0 is closed when the write completes (R191, log 21). -/
def Station.beginWrite (s : Station) (r : ParkRecord) : Station :=
  (s.withPark { s.park with inFlight := some r }).withBootMem (s.bootMem.writeAll parkBase (1#8 :: r.bytes))

/-- A record is requested: it begins, or takes the place of the pending request (R152). DESIGN CHOICE (log 84): its fields
are those of the request, not of the beginning of its write. -/
def Station.requestWrite (s : Station) (r : ParkRecord) : Station :=
  if s.park.inFlight.isSome then s.withPark { s.park with waiting := some r } else s.beginWrite r

/-- The record of where the carriage stands (R151, log 22 for an invalid one). -/
def Station.parkRecord (s : Station) (valid : Bool) : ParkRecord :=
  ⟨valid, s.pos.line, s.pos.centre, if s.appr.docked then s.appr.dockedPad else none, s.lift.load⟩

/-- An order, or a backing, has ended: a valid record is due at rest on a line (R151). -/
def Station.openPark (s : Station) : Station :=
  s.withPark { s.park with restOpen := true, due := s.pos.frame = .line }

/-- A position change taken at rest makes a further record due (R151). DESIGN CHOICE (log 68): also in IDLE, after a
backing has returned the order there. -/
def Station.touchPark (s : Station) : Station :=
  if s.park.restOpen && s.inputs.confirmed = 0 then s.withPark { s.park with due := true } else s

/-- The valid record is requested at the first moment the conditions of R151 hold. -/
def Station.parkEval (s : Station) : Station :=
  if s.park.due && s.park.restOpen && s.order.state.resting && s.inputs.confirmed = 0 && s.pos.frame = .line then
    (s.withPark { s.park with due := false, validOut := true }).requestWrite (s.parkRecord true)
  else s

/-- The commanded step was raised from 0: DOCKED clears, and the first such raise spoils the record (R142, R152). -/
def Station.movedOff (s : Station) : Station :=
  let r := s.parkRecord false
  let s1 := (s.withAppr { s.appr with docked := false, dockedPad := none }).withPark
    { s.park with restOpen := false, due := false, validOut := false }
  if s.park.validOut then s1.requestWrite r else s1

/-! ## The answer slot (R102) -/

/-- An answer into the slot; one addressed to 0 never fills it. -/
def Station.answer (s : Station) (o : OrderHead) (st : OrderState) (r : Reason) (leg : Nat) : Station :=
  if o.target = 0 then s else s.withOrder { s.order with answer := some ⟨o.number, st, r, leg⟩ }

/-! ## The lift as the order leaves LOADING (R147) -/

/-- A lift in travel stops where it stands. -/
def Station.stopLift (s : Station) : Station :=
  if s.lift.state.travelling then s.withLift { s.lift with state := .stoppedMid, timer := none } else s

/-! ## STOPPED (R106, R123) -/

/-- Whether the reason of a STOPPED order is replaced (R106). -/
def Reason.replaces (new old : Reason) : Bool :=
  match new with
  | .position => old = .emergency || old = .conflict
  | .conflict | .drive => old = .emergency
  | .duplicate => true
  | _ => false

/-- An active order becomes STOPPED with reason `r`, or takes `r` where R106 lets it; other orders keep their state
and reason (R29, R75, R95, R98). -/
def Station.stopOrder (s : Station) (r : Reason) : Station :=
  if !s.order.state.active then s
  else if s.order.state = .stopped then
    if r.replaces s.order.reason then s.withOrder { s.order with reason := r } else s
  else
    (s.withOrder { s.order with
      state := .stopped
      reason := r
      resume := if s.order.state = .halted then s.order.resume else some s.order.state
      haltOperator := false, haltLine := false, blocked := false, waitStart := none }).stopLift

/-- The duplicate-station fault makes the reason DUPLICATE in every state (R123). -/
def Station.duplicateOrder (s : Station) : Station :=
  let s1 := s.stopOrder .duplicate
  s1.withOrder { s1.order with reason := .duplicate }

/-! ## HALTED and the way back (R117–R119) -/

/-- An order enters HALTED, or stays there, under the mark `mark` sets. -/
def Station.haltWith (s : Station) (mark : OrderUnit → OrderUnit) : Station :=
  match s.order.state with
  | .halted => s.withOrder (mark s.order)
  | .running | .waiting | .backing | .loading =>
    (s.withOrder (mark { s.order with
      state := .halted, resume := some s.order.state, blocked := false, waitStart := none })).stopLift
  | _ => s

/-- The order returns to state `st`, reason NONE; a return to WAITING starts the wait anew (R114, R118, R119). -/
def Station.returnTo (s : Station) (st : OrderState) : Station :=
  s.withOrder { s.order with
    state := st, reason := .none, resume := none, blocked := false
    waitStart := if st = .waiting then some s.ms else none }

/-- A HALTED order whose marks are both clear returns to its resume state (R118, R119). -/
def Station.unhalt (s : Station) : Station :=
  if s.order.state = .halted && !s.order.haltOperator && !s.order.haltLine then
    s.returnTo (s.order.resume.getD .running)
  else s

/-- The line has gone silent (R118). DESIGN CHOICE (log 103): an order that becomes active later, with the line still SILENT
or RECOVERING, is not halted, and the cap of 0 alone holds it (R88). -/
def Station.haltForLine (s : Station) : Station :=
  s.haltWith fun o => { o with haltLine := true, reason := .line }

/-- The line has recovered (R118). -/
def Station.lineRecovered (s : Station) : Station :=
  if s.order.state = .halted && s.order.haltLine then
    (s.withOrder { s.order with haltLine := false, reason := .none }).unhalt
  else s

/-! ## DONE and FAILED (R116) -/

/-- The AHEAD entries are asked back (R116). -/
def Station.releaseAhead (s : Station) : Station :=
  s.releaseAll ((s.claims.entries.filter fun e => e.purpose = .ahead).map (·.seg))

/-- An attempt of final approach in progress is given up; the final-position demand stays until the carriage stands (R142).
DESIGN CHOICE (log 90): a record in CHECKING stays there. -/
def Station.giveUpAttempt (s : Station) : Station :=
  if s.appr.state = .attempt then s.withAppr { s.appr with state := .none, attempts := 0 } else s

/-- The order ends in DONE or FAILED: its record, then the rest of R116, the wait count of R55 and the park record
of R151. DESIGN CHOICE (log 83): the lift operation becomes none at every ending. -/
def Station.endOrder (s : Station) (st : OrderState) (r : Reason) : Station :=
  let s1 := s.withOrder { s.order with
    state := st, reason := r, resume := none, haltOperator := false, haltLine := false, blocked := false
    waitStart := none, legStop := none, aboardStart := false }
  let s2 := (s1.withLift { s1.lift with operation := .none }).giveUpAttempt
  ((s2.releaseAhead.setReserve false).clearWait).openPark

end Sys2Proof.Machine
end

