-- ==== Sys2Proof/Machine/Backing.lean ====
section
/-! DEFINITION. The trail stack and the backing rule (chapter 7). -/

namespace Sys2Proof.Machine

/-! ## The trail stack (R125–R127), newest first -/

/-- Push a segment; a ninth push forgets the oldest (R126). -/
def pushTrail (t : List Nat) (seg : Nat) : List Nat := (seg :: t).take Config.places

def Station.push (s : Station) (seg : Nat) : Station := s.withTrail (pushTrail s.trail seg)

/-- Push back segments given in pop order: the first popped ends on top again (R127). -/
def pushBack (t : List Nat) (popped : List Nat) : List Nat := (popped ++ t).take Config.places

def Station.setBacking (s : Station) (b : Backing) : Station := s.withBacking (some b)

/-! ## Starting (R128, R129) -/

/-- Segment `g` lies ahead of the centre in the direction of travel (R128). -/
def Station.aheadOfCentre (s : Station) (g : SegmentSlot) : Bool :=
  match s.pos.dir with
  | .up => s.pos.centre < g.base
  | .down => g.stop ≤ s.pos.centre

/-- The conditions of R128 on the carriage. -/
def Station.canBack (s : Station) : Bool :=
  s.pos.frame = .line && !s.line.fault &&
  (s.order.state = .waiting || s.order.state.resting) &&
  s.effective = 0 && s.lift.state.atRest && !s.trail.isEmpty

/-- The stop point of a backing from `g` (R129). -/
def Station.backingStop (s : Station) (g : SegmentSlot) : Chainage :=
  match s.pos.dir with
  | .up => g.base - s.par.margin - s.half - s.pos.u
  | .down => g.stop + s.par.margin + s.half + s.pos.u

/-- The horizon of a backing to `stop`, drawn back to the line (R129). -/
def Station.backingHorizon (s : Station) (stop : Chainage) : Chainage :=
  let far : Int := s.half + s.pos.u + s.par.margin + s.d 1
  match s.pos.dir, s.map.line? s.pos.line with
  | .up, some x => max (stop - far) x.low
  | .down, some x => min (stop + far) (x.high - 1)
  | .up, none => stop - far
  | .down, none => stop + far

/-- The backing rule takes a YIELD-ASK for `seg` from `p`: a backing begins, or the ask is answered OCCUPIED
(R128, R129). `true` when one begins. DESIGN CHOICE (log 95): the reason stays as it was. -/
def Station.takeAsk (s : Station) (p seg : Nat) : Station × Bool :=
  match s.map.segment? seg with
  | none => (s, false)
  | some g =>
    if s.canBack && s.aheadOfCentre g then
      let stop := s.backingStop g
      let b : Backing := { asker := p, seg := seg, origin := s.order.state, forward := s.pos.dir, stop := stop
                           horizon := s.backingHorizon stop }
      let s1 := s.withOrder { s.order with state := .backing, blocked := false, waitStart := none }
      ((s1.freshStop.setBacking b).requestDirection s.pos.dir.opposite, true)
    else (s.object seg .occupied s.plainRank p, false)

/-! ## Ending (R132, R133, R135) -/

/-- The popped segments that `p` picks, in pop order. -/
def Backing.segs (b : Backing) (p : Popped → Bool) : List Nat := (b.popped.filter p).map (·.seg)

/-- BACK entries for `segs` take purpose BODY (R132, R133). -/
def Station.backToBody (s : Station) (segs : List Nat) : Station :=
  s.setEntries (s.claims.entries.map fun e =>
    if e.purpose = .back && segs.contains e.seg then { e with purpose := .body } else e)

/-- The BACK entries among `segs`, in list order. -/
def Station.backEntries (s : Station) (segs : List Nat) : List Nat :=
  (s.claims.entries.filter fun e => e.purpose = .back && segs.contains e.seg).map (·.seg)

/-- Steps 1 to 6 of R132: entered entries become BODY, the others are released and pushed back, the asker is told
OCCUPIED unless it has its segment, and the forward direction is asked for. DESIGN CHOICE (log 75): the BACK entry of a
segment popped twice, once claimed and once listed before, is released. -/
def Station.unwindBacking (s : Station) (b : Backing) : Station :=
  let back := b.segs fun p => !p.entered
  let s1 := s.backToBody (b.segs (·.entered))
  let s2 := s1.releaseAll (s1.backEntries (b.segs fun p => !p.entered && !p.listedBefore))
  let s3 := s2.withTrail (pushBack s2.trail back)
  let s4 := if b.released then s3 else s3.object b.seg .occupied s3.plainRank b.asker
  s4.freshStop.requestDirection b.forward

/-- The record goes, and the order returns to the origin state (R132 step 7, R133 step 5, R151), its reason as it stands (log
95). -/
def Station.leaveBacking (s : Station) (b : Backing) : Station :=
  let s1 := s.withBacking none
  let s2 := s1.withOrder { s1.order with
    state := b.origin, waitStart := if b.origin = .waiting then some s1.ms else none }
  if b.origin.resting then s2.openPark else s2

/-- A backing fails (R132). -/
def Station.failBacking (s : Station) (b : Backing) : Station := (s.unwindBacking b).leaveBacking b

/-- A backing is cut short: steps 1 to 6 of R132, and the record goes (R135). -/
def Station.cutBacking (s : Station) : Station :=
  match s.backing with
  | some b => (s.unwindBacking b).withBacking none
  | none => s

/-- A backing succeeds (R133). DESIGN CHOICE (log 91): the approach record is reset here, whether or not a new stop point
follows, as it is where a backing fails or is cut short. -/
def Station.finishBacking (s : Station) (b : Backing) : Station :=
  let under := (s.claims.entries.filter fun e => e.purpose = .back && s.overlaps e.seg).map (·.seg)
  let beyond := (s.claims.entries.filter fun e => e.purpose = .back && !s.overlaps e.seg).map (·.seg)
  let s1 := (s.backToBody under).releaseAll beyond
  let s2 := s1.withTrail (pushBack s1.trail (b.segs fun p => !s1.overlaps p.seg))
  (s2.freshStop.requestDirection b.forward).leaveBacking b

/-- IN-POSITION has ended the attempt at the backing stop point (R133; log 82 for a YIELDING entry). -/
def Station.arriveBacking (s : Station) : Station :=
  match s.backing with
  | none => s
  | some b =>
    if b.released then s.finishBacking b
    else if s.overlaps b.seg then s.failBacking b
    else (s.releaseRequest b.seg).finishBacking { b with released := true }

/-! ## While the record stands (R130, R131) -/

/-- The carriage has cleared the asked segment by M (R131). -/
def Station.clearedBy (s : Station) (b : Backing) (g : SegmentSlot) : Bool :=
  match b.forward with
  | .up => s.guardedHi ≤ g.base - s.par.margin
  | .down => g.stop + s.par.margin ≤ s.guardedLo

/-- The release test of R131, made in BACKING, HALTED and STOPPED. DESIGN CHOICE (log 82): s released is set for a YIELDING
entry too, which the envelope releases later. DESIGN CHOICE (log 105): in frame LINE the chainages are compared whatever the
line of the position. -/
def Station.backingRelease (s : Station) : Station :=
  match s.backing with
  | none => s
  | some b =>
    if b.released then s
    else if !s.claims.lists b.seg then s.setBacking { b with released := true }
    else if s.pos.frame = .line && (s.map.segment? b.seg).any fun g => s.clearedBy b g then
      (s.releaseRequest b.seg).setBacking { b with released := true }
    else s

/-- A popped segment has left the claim list before it was entered (R130). -/
def Station.leftEarly (s : Station) (p : Popped) : Bool :=
  !p.entered && (p.claimed || p.listedBefore) && !s.claims.lists p.seg

/-- Popped segments that the guarded extent overlaps are marked entered (R130); one whose entry was lost before keeps its
marks (R136), and the record of a STOPPED order stays as it is (R135). -/
def Station.markEntered (s : Station) : Station :=
  if s.order.state = .stopped then s
  else s.withBacking (s.backing.map fun b =>
    { b with popped := b.popped.map fun p =>
        if s.overlaps p.seg && !s.leftEarly p then { p with entered := true } else p })

/-- The wanted backing segments (R130). -/
def Station.wantedBack (s : Station) (b : Backing) : List Nat :=
  match b.forward with
  | .up => (s.map.covering (.line s.pos.line) b.horizon s.guardedHi).map (·.seg)
  | .down => (s.map.covering (.line s.pos.line) s.guardedLo b.horizon).map (·.seg)

/-- The claim on some popped segment was answered LOST (R130). -/
def Backing.claimLost (b : Backing) : Bool := b.popped.any (·.lost)

/-- Some popped segment has left the claim list before it was entered (R130). -/
def Station.lostPopped (s : Station) (b : Backing) : Bool := b.popped.any s.leftEarly

/-- A claim on some popped segment was lost, or an entry it had has left the list, entered or not (R136). -/
def Station.lostTrack (s : Station) (b : Backing) : Bool :=
  b.popped.any fun p => p.lost || ((p.claimed || p.listedBefore) && !s.claims.lists p.seg)

/-- Mark the popped segment `seg` as claimed. -/
def Backing.setClaimed (b : Backing) (seg : Nat) : Backing :=
  { b with popped := b.popped.map fun p => if p.seg = seg then { p with claimed := true } else p }

/-- Ask for a popped segment as BACK, and take the answer (the answer table of R130; log 57 for HELD BY and CLAIMED BY).
DESIGN CHOICE (log 81): the answer LISTED fails the backing too. -/
def Station.askBack (s : Station) (b : Backing) (seg : Nat) : Station :=
  match s.claim seg .back .backing with
  | (s1, .sent) => s1.setBacking (b.setClaimed seg)
  | (s1, .notNow) => s1
  | (s1, _) => s1.failBacking b

/-- Cases 1 to 5 of R130; a popped segment already listed sends the rule back to case 1. The stack holds at most 8. -/
def Station.backingCases : Nat → Station → Station
  | 0, s => s
  | n + 1, s =>
    match s.backing with
    | none => s
    | some b =>
      if (s.wantedBack b).all s.claims.holds then s
      else if b.popped.any fun p => s.claims.listens p.seg then s
      else match b.popped.find? fun p => !p.claimed && !p.listedBefore with
        | some p => s.askBack b p.seg
        | none =>
          match s.trail with
          | [] => s.failBacking b
          | top :: rest =>
            let s1 := s.withTrail rest
            if s.claims.lists top then
              let b1 := { b with popped := b.popped ++ [{ seg := top, listedBefore := true, entered := s.overlaps top }] }
              Station.backingCases n (s1.setBacking b1)
            else
              let b1 := { b with popped := b.popped ++ [{ seg := top, entered := s.overlaps top }] }
              let s2 := s1.setBacking b1
              if (s.wantedBack b).contains top then s2.askBack b1 top else s2.failBacking b1

/-- One evaluation of the backing rule (R130, R131). DESIGN CHOICE (log 87): the release test comes before the entered marks
and the cases of R130, so a failure at the same evaluation may find s released and sends no OBJECT. With track lost under an
emergency stop the rule waits for the order to be STOPPED (R136, log 44). -/
def Station.backingEval (s : Station) : Station :=
  let s1 := s.backingRelease.markEntered
  match s1.backing with
  | none => s1
  | some b =>
    if s1.order.state ≠ .backing then s1
    else if s1.env.latch && s1.lostTrack b then s1
    else if b.claimLost || s1.lostPopped b then s1.failBacking b
    else s1.backingCases (Config.places + 1)

end Sys2Proof.Machine
end

