-- ==== Sys2Proof/Machine/Approach.lean ====
section
/-! DEFINITION. Final approach: the approach record, attempts and checks (R137–R142), the entry into frame DECK
(R31), the docking index (R139). -/

namespace Sys2Proof.Machine

/-- The present leg (R108). -/
def OrderUnit.leg? (o : OrderUnit) : Option Leg := if o.cursor = 0 then none else o.route[o.cursor - 1]?

/-! ## Starting an attempt (R138) -/

/-- Kind and tolerance of the stop point handed on (R138). -/
def Station.approachKind (s : Station) : StopKind × Nat :=
  if s.order.state = .backing then (.back, 10)
  else match s.order.leg? with
    | some ⟨_, _, .turntable _ _⟩ => (.deck, s.par.centring)
    | _ =>
      match s.order.target with
      | .pad n => (.pad, ((s.map.pad? n).map (·.tolerance)).getD 10)
      | .point _ _ => (.point, 10)

/-- An attempt starts: counted, DOCKED cleared, the direction toward the stop point asked for, the final-position
demand given (R138, R99). DESIGN CHOICE (log 89): an error of 0 makes no request, so a pending direction stays. -/
def Station.startAttempt (s : Station) : Station :=
  let s1 := (s.withAppr { s.appr with
    state := .attempt, attempts := s.appr.attempts + 1, docked := false, dockedPad := none }).withEnv
    { s.env with finalStop := some s.appr.stop }
  if s.pos.centre < s.appr.stop then s1.requestDirection .up
  else if s.appr.stop < s.pos.centre then s1.requestDirection .down
  else s1

/-- The envelope hands on the final approach for the stop point `x` (R85, R138). -/
def Station.handOn (s : Station) (x : Chainage) : Station :=
  let (k, tol) := s.approachKind
  ((s.withEnv { s.env with handedOn := true }).withAppr
    { s.appr with kind := k, stop := x, tolerance := tol }).startAttempt

/-- The final approach is handed on at the first evaluation with D_stop ≤ d_1 (R85). -/
def Station.handOver (s : Station) : Station :=
  match s.stopPoint with
  | none => s
  | some x =>
    if !s.env.handedOn && s.pos.frame ≠ .unknown && distance x s.pos.centre ≤ s.d 1 then s.handOn x else s

/-! ## Failing (R141) -/

/-- The approach record gives the approach up (R141). -/
def Station.dropApproach (s : Station) : Station := s.withAppr { s.appr with state := .none, attempts := 0 }

/-- A failed attempt: the next one, or after the third the end of the order, unless it has ended before (R141; log 28). -/
def Station.failAttempt (s : Station) : Station :=
  if s.appr.attempts < 3 then s.startAttempt
  else if s.order.state.active then
    (s.endOrder .failed (if s.appr.kind = .deck then .turntable else .dock)).dropApproach
  else s.dropApproach

/-! ## Passing (R140) -/

/-- The carriage enters frame DECK for its passage's turntable and entry arm (R31). -/
def Station.enterDeck (s : Station) : Station :=
  s.withPos { s.pos with frame := .deck, deckTurntable := s.passage.turntable, entryArm := s.passage.entryArm }

/-- TURN-ABOARD is sent; the aboard time is set when it is reported sent (R170). -/
def Station.sendAboard (s : Station) : Station :=
  (s.withPassage { s.passage with state := .aboardSent, aboardTime := none }).send (.turnAboard s.passage.turntable)

/-- A TARGET leg ends: a MOVE is DONE, a FETCH or PLACE begins its lift operation (R109, R144). -/
def Station.endTargetLeg (s : Station) : Station :=
  let load (op : LiftOperation) (d : Dir) : Station :=
    (s.withOrder { s.order with state := .loading }).withLift
      { s.lift with operation := op, startRaised := s.lift.state = .raised, travelDir := d, returning := false }
  match s.order.kind with
  | .move => s.endOrder .done .none
  | .fetch => load .fetch .up
  | .place => load .place .down

/-- The order state lets the check be made (R140). -/
def Station.checkAllowed (s : Station) : Bool :=
  if s.appr.kind = .back then s.order.state = .backing else s.order.state = .running

/-- The distance of the centre from the stop point. -/
def Station.approachError (s : Station) : Nat := distance s.appr.stop s.pos.centre

/-- The check is made at the first moment its conditions hold (R140). DESIGN CHOICE (log 101): it waits for the docking
index to leave SETTLING at a POINT, DECK and BACK stop too. -/
def Station.approachCheck (s : Station) : Station :=
  if s.appr.state = .checking && s.inputs.confirmed = 0 && s.index.reading ≠ .settling && s.checkAllowed then
    match s.appr.kind with
    | .pad =>
      if s.approachError ≤ s.appr.tolerance && s.index.reading = .active then
        (s.withAppr { s.appr with
          state := .reached, docked := true
          dockedPad := match s.order.target with
            | .pad n => some n
            | .point _ _ => none }).endTargetLeg
      else s.failAttempt
    | .point =>
      if s.approachError ≤ 10 then (s.withAppr { s.appr with state := .reached }).endTargetLeg else s.failAttempt
    | .deck =>
      if s.approachError ≤ s.par.centring then
        (s.withAppr { s.appr with state := .aboardAsked }).sendAboard.enterDeck
      else s.failAttempt
    | .back => (s.withAppr { s.appr with state := .reached }).arriveBacking
  else s

/-! ## The docking index (R139) -/

/-- The reading that follows the raw input. -/
def indexOf (raw : Bool) : IndexReading := if raw then .active else .inactive

/-- A change of the raw input: SETTLING with the debounce time, or the raw input at once when that is 0 (R139). -/
def Station.indexChanged (s : Station) : Station :=
  if s.par.debounce = 0 then s.withIndex { reading := indexOf s.inputs.dockRaw, timer := none }
  else s.withIndex { reading := .settling, timer := some (s.ms + s.par.debounce) }

/-- The debounce timer runs out (R139). -/
def Station.indexSettled (s : Station) : Station :=
  if s.index.reading = .settling && dueAt s.index.timer s.ms then
    s.withIndex { reading := indexOf s.inputs.dockRaw, timer := none }
  else s

end Sys2Proof.Machine
end

