-- ==== Sys2Proof/Machine/Evaluate.lean ====
section
/-! DEFINITION. One evaluation of the motion envelope (R89–R96), and position faults (R29). -/

namespace Sys2Proof.Machine

/-- The emergency test of R94 fails: the carriage cannot stop within the track it holds. -/
def Station.mustBrake (s : Station) : Bool :=
  0 < s.effective && s.pos.frame ≠ .unknown && s.dHold < s.dEff

/-- The commanded step drops to the permitted step, and to 0 under the latch or a pending direction (R90, R93, R95). -/
def Station.dropStep (s : Station) : Station :=
  let top := if s.env.latch || s.env.pendingDir.isSome then 0 else s.permitted
  if top < s.env.commanded then s.withEnv { s.env with commanded := top } else s

/-- The latch clears at an evaluation that finds the confirmed step 0, and an active order not yet STOPPED becomes
STOPPED with EMERGENCY (R95). -/
def Station.clearLatch (s : Station) : Station :=
  if s.env.latch && s.inputs.confirmed = 0 then
    (s.withEnv { s.env with commanded := 0, latch := false }).stopOrder .emergency
  else s

/-- The YIELDING entries of the list. -/
def Station.yieldingSegs (s : Station) : List Nat :=
  (s.claims.entries.filter fun e => e.state = .yielding).map (·.seg)

/-- The release test: every YIELDING entry goes when d_eff + M ≤ D_claim (R96). -/
def Station.releaseTest (s : Station) : Station :=
  let segs := s.yieldingSegs
  if !segs.isEmpty && s.pos.frame ≠ .unknown && decide ((s.dEff + s.par.margin : Nat) ≤ s.dClaim) then
    segs.foldl Station.releaseEntry s
  else s

/-- The step dwell since the last raise has passed (R91). -/
def Station.dwellOver (s : Station) : Bool :=
  match s.env.lastRaise with
  | none => true
  | some t => t + s.par.dwell ≤ s.ms

/-- The raise test: one step up (R91). DESIGN CHOICE (log 100): P is that of the present distances, worked out anew after the
drop, the latch and the release test (R90). -/
def Station.raiseTest (s : Station) : Station :=
  if !s.env.latch && s.env.pendingDir.isNone && s.inputs.confirmed = s.env.commanded && s.dwellOver &&
     s.env.commanded < s.permitted then
    let s1 := s.withEnv { s.env with commanded := s.env.commanded + 1, lastRaise := some s.ms }
    if s.env.commanded = 0 then s1.movedOff else s1
  else s

/-- The final-position demand of an approach given up ends when the carriage stands (R142). -/
def Station.withdrawDemand (s : Station) : Station :=
  if s.appr.state ≠ .attempt && s.env.finalStop.isSome && s.inputs.confirmed = 0 then
    s.withEnv { s.env with finalStop := none }
  else s

/-- One evaluation, in the order of R89. DESIGN CHOICE (log 74): the pending direction and the hand-over stand before the
emergency test, and the latch clears between the drop and the release test. -/
def Station.envEval (s : Station) : Station :=
  if s.driving then
    let s1 := s.applyPending.handOver
    let s2 := if s1.mustBrake then s1.raiseEmergency else s1.dropStep
    s2.clearLatch.releaseTest.raiseTest.withdrawDemand
  else s

/-- IN-POSITION during an attempt withdraws the final-position demand, brings the record to CHECKING, and is evaluated
with the stop term at 0 before the check is made (R99, R140). -/
def Station.takeInPosition (s : Station) : Station :=
  if s.appr.state = .attempt then
    ((s.withEnv { s.env with finalStop := none }).withAppr { s.appr with state := .checking }).envEval
  else s

/-- A position fault: the emergency demand, and an active order STOPPED with POSITION (R29). -/
def Station.positionFault (s : Station) : Station := (s.raiseEmergency.stopOrder .position).touchPark

end Sys2Proof.Machine
end

