-- ==== Sys2Proof/Machine/LiftUnit.lean ====
section
/-! DEFINITION. The lift (R143–R150): travel under the interlock, ends of travel, CANCEL, faults. -/

namespace Sys2Proof.Machine

/-! ## Travel (R144, R147) -/

/-- The interlock: docked at a pad, the drive at step 0, the brake demand set (R144). -/
def Station.interlock (s : Station) : Bool := s.appr.docked && s.inputs.confirmed = 0 && s.brake

/-- Travel starts in the travel direction, the lift timer from 0 (R144). -/
def Station.startTravel (s : Station) : Station :=
  s.withLift { s.lift with
    state := match s.lift.travelDir with
      | .up => .raising
      | .down => .lowering
    timer := some (s.ms + s.par.liftTimeout * 1000) }

/-- A lift that may not travel stops; one that waits for LOADING and the interlock starts (R144, R147). -/
def Station.liftEval (s : Station) : Station :=
  if !s.driving then s
  else if s.order.state = .loading && s.interlock then
    if s.lift.operation ≠ .none && (s.lift.state = .stoppedMid || s.lift.state.atRest) then s.startTravel else s
  else s.stopLift

/-! ## Ends of travel (R145, R146, R148) -/

/-- The lift comes to a rest. -/
def Station.restLift (s : Station) (raised : Bool) : Station :=
  s.withLift { s.lift with state := if raised then .raised else .lowered, timer := none }

/-- AT-TOP becomes active (R145, R148). -/
def Station.reachTop (s : Station) : Station :=
  if s.lift.state = .raising then
    if s.lift.returning then
      if s.lift.startRaised then
        ((s.restLift true).withLift { (s.restLift true).lift with returning := false }).endOrder .failed .cancelled
      else s
    else if s.inputs.loadSensed then
      ((s.restLift true).withLift { (s.restLift true).lift with load := .loaded }).endOrder .done .none
    else (s.restLift true).endOrder .failed .noLoad
  else s

/-- AT-BOTTOM becomes active (R146, R148). -/
def Station.reachBottom (s : Station) : Station :=
  if s.lift.state = .lowering then
    if s.lift.returning then
      if s.lift.startRaised then s
      else ((s.restLift false).withLift { (s.restLift false).lift with returning := false }).endOrder .failed .cancelled
    else if s.inputs.loadSensed then (s.restLift false).endOrder .failed .lift
    else ((s.restLift false).withLift { (s.restLift false).lift with load := .empty }).endOrder .done .none
  else s

/-! ## Faults (R149) -/

/-- A lift fault: STOP, and an active order FAILED with LIFT, a backing cut short first (R149, log 27). DESIGN CHOICE (log
66): the returning mark is cleared. -/
def Station.faultLift (s : Station) : Station :=
  let s1 := s.withLift { s.lift with state := .fault, timer := none, operation := .none, returning := false }
  if s1.order.state.active then s1.giveUpAttempt.cutBacking.endOrder .failed .lift else s1

/-- The rest that the end inputs show: exactly one of them active (R143, R149). -/
def Inputs.endState (i : Inputs) : LiftState :=
  if i.atTop && !i.atBottom then .raised
  else if i.atBottom && !i.atTop then .lowered
  else .fault

/-- A lift in FAULT returns to a rest (R149). -/
def Station.restTest (s : Station) : Station :=
  if s.lift.state = .fault && !s.inputs.liftFault then s.withLift { s.lift with state := s.inputs.endState } else s

/-- A change of an end input or of LIFT-FAULT: the rest test in FAULT, the fault of both ends active, else `act`
(R145, R146, R149). DESIGN CHOICE (log 88): where the change would end a travel and makes both ends active, the fault alone
is taken. A carriage's lift unit acts from LISTEN-IN on. -/
def Station.liftInput (s : Station) (act : Station → Station) : Station :=
  if !(s.onLine && s.isCarriage) then s
  else if s.lift.state = .fault then s.restTest
  else if s.inputs.atTop && s.inputs.atBottom then s.faultLift
  else act s

/-! ## CANCEL (R148) -/

/-- CANCEL reverses the lift to its start rest (R148). DESIGN CHOICE (log 67): an end input that is active already does
not end the return; it ends when the input becomes active. -/
def Station.reverseLift (s : Station) : Station :=
  let home : Dir := if s.lift.startRaised then .up else .down
  let s1 := s.withLift { s.lift with returning := true, travelDir := home }
  if s1.lift.state.travelling then s1.startTravel else s1

end Sys2Proof.Machine
end

