-- ==== Sys2Proof/Machine/Legs.lean ====
section
/-! DEFINITION. Legs and routes: route checks R104, the beginning of a leg R109, the wanted stretch R110, claiming
ahead and YIELD-ASK R111, R112, the release behind R115. -/

namespace Sys2Proof.Machine

/-! ## The beginning of a leg (R109) -/

/-- The deck centre on the line's axis for the arm a leg runs toward (R4, R85). -/
def Station.deckCentreOf (s : Station) (g : Leg) : Option Chainage :=
  ((s.map.lineEnd? g.line g.dir).bind (·.deck)).map (·.centre)

/-- The stop point of a leg (R85, R109). -/
def Station.legStopOf (s : Station) (g : Leg) : Option Chainage :=
  match g.stop with
  | .target => some s.order.chainage
  | .turntable _ _ => s.deckCentreOf g

/-- The stop point of the present leg, to be given whenever the order state lets it be (R109). -/
def Station.setLegStop (s : Station) (g : Leg) : Station :=
  s.withOrder { s.order with legStop := s.legStopOf g, aboardStart := false }

/-- The present leg's stop point is given anew. -/
def Station.giveStop (s : Station) (g : Leg) : Station := s.freshStop.setLegStop g

/-- The present leg begins; in frame DECK it gives its stop point only after the EXIT transfer (R109). -/
def Station.beginLeg (s : Station) : Station :=
  match s.order.leg? with
  | none => s
  | some g =>
    if s.pos.frame = .deck then
      (s.withOrder { s.order with legStop := none, aboardStart := true }).requestDirection g.dir
    else (s.giveStop g).requestDirection g.dir

/-! ## Route checks (R104) -/

/-- The exit arm held for a passage aboard a deck (R104, R168). -/
def Passage.exitHeld (p : Passage) : Option Nat := if p.state = .none then none else some p.exitArm

/-- The deck that leg 1 starts from in frame DECK, or that a later leg leaves (R104). -/
def Station.startDeck (s : Station) : Option LegEnd → Option DeckOnLine
  | none => s.passage.exitHeld.bind fun e => s.map.deck? s.pos.deckTurntable e
  | some (.turntable t e) => s.map.deck? t e
  | some .target => none

/-- Tests 2 and 3 of R104: the leg leaves from where the one before it, or the carriage, stands; its start. -/
def Station.legStart (s : Station) (g : Leg) (prev : Option LegEnd) : Option Chainage :=
  if prev.isNone && s.pos.frame = .line then (if g.line = s.pos.line then some s.pos.centre else none)
  else (s.startDeck prev).bind fun k => if k.line = g.line && k.off = g.dir then some k.centre else none

/-- Test 4 of R104 for a TURNTABLE leg. -/
def Station.turntableLegOk (s : Station) (g : Leg) (t e : Nat) (last : Bool) : Bool :=
  !last &&
  match s.map.arm? g.line g.dir.atHigh with
  | some (t1, a) =>
    t1 = t && e ≠ a && ((s.map.turntable? t).any fun k => (slot? (·.present) k.arms e).isSome)
  | none => false

/-- The target chainage does not lie behind the start (test 6). -/
def notBehind (d : Dir) (start target : Chainage) : Bool :=
  match d with
  | .up => start ≤ target
  | .down => target ≤ start

/-- Tests 5 to 7 of R104 for a TARGET leg. -/
def Station.targetLegOk (s : Station) (g : Leg) (start : Chainage) (tgt : Target) (line : Nat) (chainage : Chainage)
    (last : Bool) : Bool :=
  last && g.line = line && notBehind g.dir start chainage &&
  match tgt with
  | .pad _ => true
  | .point _ _ => (s.map.line? line).any fun x => clearOfEnds x chainage s.par.len

/-- One leg of a route passes R104. -/
def Station.legOk (s : Station) (g : Leg) (prev : Option LegEnd) (tgt : Target) (line : Nat) (chainage : Chainage)
    (last : Bool) : Bool :=
  (s.map.line? g.line).isSome &&
  match s.legStart g prev with
  | none => false
  | some start =>
    match g.stop with
    | .turntable t e => s.turntableLegOk g t e last
    | .target => s.targetLegOk g start tgt line chainage last

/-- The index of the first leg that fails, none when every leg passes (R104). -/
def Station.badLegFrom (s : Station) (tgt : Target) (line : Nat) (chainage : Chainage) :
    Nat → Option LegEnd → List Leg → Option Nat
  | _, _, [] => none
  | i, prev, g :: rest =>
    if s.legOk g prev tgt line chainage rest.isEmpty then
      Station.badLegFrom s tgt line chainage (i + 1) (some g.stop) rest
    else some i

/-- The checks of R104: a leg count outside 1–8 fails with index 0. -/
def Station.badLeg (s : Station) (r : RouteOrder) (line : Nat) (chainage : Chainage) : Option Nat :=
  if r.legs.length = 0 || 8 < r.legs.length then some 0
  else s.badLegFrom r.target line chainage 1 none r.legs

/-! ## Claiming ahead (R110–R112) -/

/-- The limit of the wanted stretch on the present leg (R110). DEDUCED (log 98): UP and DOWN are the direction of travel. -/
def Station.legLimit (s : Station) (g : Leg) : Option Chainage :=
  match g.stop with
  | .target =>
    let past : Int := s.half + s.pos.u + s.par.margin + s.d 1
    some (match s.pos.dir with
      | .up => s.order.chainage + past
      | .down => s.order.chainage - past)
  | .turntable _ _ =>
    (s.map.line? s.pos.line).map fun x => match s.pos.dir with
      | .up => x.high - 1
      | .down => x.low

/-- The GUARD at the end a TURNTABLE leg runs toward, left out until the carriage holds a GRANT for that turntable. -/
def Station.guardLeftOut (s : Station) (g : Leg) : Option Nat :=
  match g.stop with
  | .target => none
  | .turntable t _ =>
    if s.passage.turntable = t &&
       (s.passage.state = .granted || s.passage.state = .aboardSent || s.passage.state = .accepted) then none
    else s.map.guardAt g.line g.dir.atHigh

/-- The wanted segments, from the guarded rear onward (R110). -/
def Station.wanted (s : Station) (g : Leg) : List Nat :=
  if s.pos.frame ≠ .line then []
  else
    let far : Int := (s.d 7 + s.par.margin : Nat)
    let keep (l : List Stretch) : List Nat :=
      (l.filter fun b => b.kind ≠ .deck && s.guardLeftOut g ≠ some b.seg).map (·.seg)
    match s.pos.dir with
    | .up =>
      let drawn := ((s.legLimit g).map fun m => min (s.guardedFront + far) m).getD (s.guardedFront + far)
      keep (s.map.covering (.line s.pos.line) s.guardedRear (max s.guardedFront drawn))
    | .down =>
      let drawn := ((s.legLimit g).map fun m => max (s.guardedFront - far) m).getD (s.guardedFront - far)
      keep (s.map.covering (.line s.pos.line) (min s.guardedFront drawn) s.guardedRear).reverse

/-- The nearest wanted segment that the list does not hold (R111). -/
def Station.nearestUnheld (s : Station) : Option Nat :=
  s.order.leg?.bind fun g => (s.wanted g).find? fun n => !s.claims.holds n

/-- The YIELD-ASK decision for `seg`, held by `p` (R112). -/
def Station.yieldAsk (s : Station) (seg p : Nat) : Station :=
  let everyYielding := (s.holders seg).all fun n =>
    (s.peer n).held.any fun h => h.seg = seg && h.yielding
  let rested := match (s.order.askTimes[seg]?).getD none with
    | none => true
    | some t => t + s.par.hold * 1000 ≤ s.ms
  if (s.peer p).state ≠ .lost && !everyYielding &&
     outranks s.plainRank s.par.station ⟨(s.peer p).rank.wait, false⟩ p && rested then
    match s.offer (.yieldAsk seg p s.claims.waitCount) with
    | (s1, true) => s1.withOrder { s1.order with askTimes := s1.order.askTimes.setIfInBounds seg (some s1.ms) }
    | (s1, false) => s1
  else s

/-- Claim ahead: the nearest wanted segment not held, one claim ahead in flight at a time (R111). -/
def Station.claimAhead (s : Station) : Station :=
  match s.nearestUnheld with
  | none => s
  | some seg =>
    if s.claims.entries.any fun e => e.state = .listening && (e.seg = seg || e.purpose = .ahead) then s
    else
      match s.claim seg .ahead .order with
      | (s1, .heldBy p) => if s1.line.fault then s1 else s1.yieldAsk seg p
      | (s1, _) => s1

/-! ## Releasing behind (R115, R126) -/

/-- A stretch lies wholly behind the guarded rear (R115). -/
def Station.isBehind (s : Station) (b : Stretch) : Bool :=
  match s.pos.dir with
  | .up => b.stop ≤ s.guardedRear
  | .down => s.guardedRear < b.base

/-- The one whose far edge lies further behind comes first (R126). -/
def Station.furtherBehind (s : Station) (a b : Stretch) : Bool :=
  match s.pos.dir with
  | .up => a.stop ≤ b.stop
  | .down => b.base ≤ a.base

/-- The segments to release behind, in the order in which the carriage left them. DESIGN CHOICE (log 64): of two with
one far edge the lower number comes first. -/
def Station.behindSegs (s : Station) : List Nat :=
  (sortBy s.furtherBehind ((s.map.railStretches s.pos.line).filter fun b =>
    s.isBehind b && s.claims.entries.any fun e =>
      e.seg = b.seg && e.state = .held && (e.purpose = .ahead || e.purpose = .body))).map (·.seg)

/-- Release behind on the position's line axis, in frame DECK the entry line's, and push each segment released onto the
trail stack (R115, R126, R19). -/
def Station.releaseBehind (s : Station) : Station :=
  match s.order.leg? with
  | none => s
  | some g =>
    if s.order.state ≠ .backing && s.pos.dir = g.dir && s.pos.frame ≠ .unknown then
      s.behindSegs.foldl (fun acc n => (acc.releaseRequest n).push n) s
    else s

end Sys2Proof.Machine
end

