-- ==== Sys2Proof/Machine/PassageUnit.lean ====
section
/-! DEFINITION. The carriage's side of a passage over a turntable (R168–R172), and the EXIT transfer (R33). -/

namespace Sys2Proof.Machine

def Station.setPassageState (s : Station) (x : PassageState) : Station := s.withPassage { s.passage with state := x }

/-- The passage record is emptied; a TURN-CLEAR still to be sent stays owed (R182). -/
def Station.endPassage (s : Station) : Station := s.withPassage { clearsOwed := s.passage.clearsOwed }

/-- An active order has a present TURNTABLE leg toward the passage's turntable at its entry arm (R172). -/
def Station.legKeepsPassage (s : Station) : Bool :=
  s.order.state.active &&
  match s.order.leg? with
  | some ⟨l, d, .turntable t _⟩ =>
    t = s.passage.turntable && s.map.arm? l d.atHigh = some (s.passage.turntable, s.passage.entryArm)
  | _ => false

/-! ## Asking (R168) -/

/-- The guarded front plus d_7 plus M reaches the line end the leg runs toward (R168). -/
def Station.nearLineEnd (s : Station) (g : Leg) : Bool :=
  let far : Int := (s.d 7 + s.par.margin : Nat)
  (s.map.line? g.line).any fun x =>
    match g.dir with
    | .up => x.high ≤ s.guardedFront + far
    | .down => s.guardedFront - far ≤ x.low

/-- The TURN-ASK that the present leg calls for: turntable, entry arm, exit arm (R168). -/
def Station.askWanted (s : Station) : Option (Nat × Nat × Nat) :=
  match s.order.leg? with
  | some ⟨l, d, .turntable t e⟩ =>
    if s.passage.state = .none && (s.order.state = .running || s.order.state = .waiting) && s.pos.frame = .line &&
       s.nearLineEnd ⟨l, d, .turntable t e⟩ then
      (s.map.arm? l d.atHigh).map fun (_, a) => (t, a, e)
    else none
  | _ => none

/-- A first TURN-ASK; when the queue takes it the passage is ASKED and the deck reserve set (R168). -/
def Station.firstAsk (s : Station) : Station :=
  match s.askWanted with
  | none => s
  | some (t, a, e) =>
    match s.offer (.turnAsk t a e) with
    | (s1, true) =>
      (s1.withPassage { state := .asked, turntable := t, entryArm := a, exitArm := e
                        clearsOwed := s1.passage.clearsOwed }).setReserve true
    | (s1, false) => s1

/-- TURN-ASK is sent again with the arms held; the ask time is set anew when it is reported sent (R169, log 15). DESIGN
CHOICE (log 71): the deck reserve stays as it is. DESIGN CHOICE (log 92): a retry still due is dropped, whatever made the
carriage ask again. -/
def Station.askAgain (s : Station) : Station :=
  let s1 := s.withPassage { s.passage with askTime := none, retryDue := none, askOwed := false }
  match s1.offer (.turnAsk s.passage.turntable s.passage.entryArm s.passage.exitArm) with
  | (s2, true) => s2
  | (s2, false) => s2.withPassage { s2.passage with askOwed := true }

/-- A frame of this kind stands in the queue. -/
def Station.queued (s : Station) (k : FrameKind) : Bool := s.line.queue.any fun x => x.frame.kind = k

/-- `period` has passed since the ask time (R169, log 16). -/
def Station.sinceAsk (s : Station) (period : Nat) : Bool :=
  match s.passage.askTime with
  | some t => t + period ≤ s.ms
  | none => !s.queued .turnAsk

/-- `period` has passed since the aboard time (R170, log 16). -/
def Station.sinceAboard (s : Station) (period : Nat) : Bool :=
  match s.passage.aboardTime with
  | some t => t + period ≤ s.ms
  | none => !s.queued .turnAboard

/-! ## GRANT (R169) -/

/-- The deck centre is given again as the stop point where a REVOKED answer withdrew it (R109, R170). Under a backing the
envelope has the backing stop point, whose final approach stays handed on (R85). -/
def Station.regiveDeckStop (s : Station) : Station :=
  match s.order.leg? with
  | some ⟨l, d, .turntable t e⟩ =>
    if s.order.state.active && s.order.legStop.isNone && !s.order.aboardStart then
      (if s.backing.isSome then s.setLegStop ⟨l, d, .turntable t e⟩ else s.giveStop ⟨l, d, .turntable t e⟩)
    else s
  | _ => s

/-- TURN-CLEAR is sent to turntable `t`; `true` when the queue takes it. -/
def Station.sendClear (s : Station) (t : Nat) : Station × Bool := s.offer (.turnClear t)

/-- TURN-CLEAR is sent to turntable `t`, and again at the next evaluation where the queue refuses it (R169, R182). -/
def Station.clearTo (s : Station) (t : Nat) : Station :=
  match s.sendClear t with
  | (s1, true) => s1
  | (s1, false) => s1.oweClear t

/-- An owed TURN-CLEAR is sent again, unless a passage over that turntable stands by now (R182, log 17). -/
def Station.offerClear (s : Station) (t : Nat) : Station :=
  if s.passage.state ≠ .none && s.passage.turntable = t then s else s.clearTo t

/-- The owed TURN-CLEARs at an evaluation (R182). -/
def Station.offerClears (s : Station) : Station :=
  s.passage.clearsOwed.foldl Station.offerClear (s.withPassage { s.passage with clearsOwed := [] })

/-- A wanted GRANT, by answer or by beacon (R169). -/
def Station.takeGrant (s : Station) : Station :=
  match s.makeDeckEntry s.passage.turntable with
  | (s1, true) =>
    let s2 := (s1.setReserve false).withPassage { s1.passage with retryDue := none, askOwed := false }
    if s2.pos.frame = .deck then s2.sendAboard else (s2.setPassageState .granted).regiveDeckStop
  | (s1, false) => ((s1.clearTo s.passage.turntable).setReserve false).endPassage

/-! ## REVOKED and NOT-CENTRED (R170, R32) -/

/-- The frame returns from DECK to LINE on the entry line (R32). -/
def Station.backToLine (s : Station) : Station :=
  if s.pos.frame = .deck then s.withPos ({ s.pos with frame := .line }.recompute s.par.drift) else s

/-- The envelope has the stop point of the leg that the passage serves, or the approach awaits the turntable's answer. -/
def Station.nearsDeck (s : Station) : Bool :=
  s.appr.state = .aboardAsked || (s.legKeepsPassage && s.backing.isNone)

/-- The deck centre is withdrawn as the stop point, and the approach to it ends (R109, R170; logs 29 and 60). DESIGN CHOICE
(log 78): the stop point and the approach of a leg that the passage does not serve, and those of a backing, stay. -/
def Station.withdrawDeckStop (s : Station) : Station :=
  let s1 := if s.nearsDeck then s.dropStop.dropApproach else s
  if s.legKeepsPassage then s1.withOrder { s1.order with legStop := none } else s1

/-- REVOKED in GRANTED or ABOARD-SENT (R170). -/
def Station.takeRevoked (s : Station) : Station :=
  (s.backToLine.withdrawDeckStop.removeDeckEntry s.passage.turntable).endPassage

/-- NOT-CENTRED in ABOARD-SENT: a failed attempt where the approach awaits the answer, and else no matter of the
approach (R170, R141; log 28). -/
def Station.takeNotCentred (s : Station) : Station :=
  let s1 := s.backToLine.setPassageState .granted
  if s1.appr.state = .aboardAsked then s1.failAttempt else s1

/-! ## Accepted, and the EXIT transfer (R171, R33) -/

/-- On learning that it is accepted, the carriage releases what it holds on the entry line's axis (R171). -/
def Station.learnAccepted (s : Station) : Station :=
  let s1 := s.setPassageState .accepted
  let rail := s1.map.railStretches s1.pos.line
  s1.releaseAll ((s1.claims.entries.filter fun e =>
    e.state = .held && e.purpose ≠ .deck && rail.any fun b => b.seg = e.seg).map (·.seg))

/-- The TURNTABLE leg ends at the EXIT transfer, for an order still active; an order accepted aboard gives the stop
point of its first leg now (R109). -/
def Station.legAfterExit (s : Station) : Station :=
  if !s.order.state.active then s
  else if s.order.aboardStart then s.beginLeg
  else match s.order.leg? with
    | some ⟨_, _, .turntable _ _⟩ => (s.withOrder { s.order with cursor := s.order.cursor + 1 }).beginLeg
    | _ => s

/-- The EXIT transfer to arm `e`; ignored and counted where the deck lookup gives none (R33, R171). DESIGN CHOICE (log 70):
a direction still pending is dropped. -/
def Station.doExit (s : Station) (e : Nat) : Station :=
  match s.map.deck? s.pos.deckTurntable e with
  | none => s.countBad
  | some k =>
    let s1 := (s.withPos { s.pos.reference k.line k.centre s.par.centring s.par.drift with dir := k.off }).withTrail []
    let s2 := (s1.freshStop.setPending none).withPassage { s1.passage with state := .leaving }
    s2.legAfterExit

/-- EXIT naming arm `e`, by answer or by beacon, in ABOARD-SENT or ACCEPTED; one whose arm the deck lookup does not
give is ignored and counted, and accepts nothing (R171, R33). -/
def Station.takeExit (s : Station) (e : Nat) : Station :=
  if s.pos.frame = .deck && (s.map.deck? s.pos.deckTurntable e).isNone then s.countBad
  else
    let s1 := if s.passage.state = .aboardSent then s.learnAccepted else s
    if s1.pos.frame = .deck then s1.doExit e else s1

/-! ## Serving beacons (R169–R171) -/

/-- The turntable no longer holds the passage: neither holder nor queued, long enough after the ask and the aboard (R169). -/
def Station.passageLost (s : Station) (b : TurntableBeacon) (period : Nat) : Bool :=
  b.holder ≠ s.par.station && !b.queue.contains s.par.station && s.sinceAsk period &&
  (s.passage.aboardTime.isNone || s.sinceAboard period)

/-- What a lost passage does aboard: the exit, or TURN-ASK again with the DECK entry kept (R169). -/
def Station.lostAboard (s : Station) (b : TurntableBeacon) : Station :=
  if b.deck ≠ DeckState.fault.code && b.deck ≠ DeckState.claiming.code && b.deck ≠ DeckState.rotating.code &&
     b.aligned = s.passage.exitArm then s.takeExit s.passage.exitArm
  else (s.setPassageState .asked).askAgain

/-- The beacon shows this carriage as holder, accepted (R171). -/
def Station.shownAccepted (s : Station) (b : TurntableBeacon) : Bool :=
  b.holder = s.par.station &&
  (b.deck = DeckState.aboard.code || b.deck = DeckState.claiming.code || b.deck = DeckState.rotating.code ||
   b.deck = DeckState.awaitExit.code)

/-- The beacon shows AWAIT-EXIT for this carriage at its exit arm (R171). -/
def Station.shownExit (s : Station) (b : TurntableBeacon) : Bool :=
  b.holder = s.par.station && b.deck = DeckState.awaitExit.code && b.aligned = s.passage.exitArm

/-- A beacon of the station that serves the passage's turntable, announcing `period` (R169–R171). DESIGN CHOICE (log 109): one
that shows a GRANT not wanted draws no TURN-CLEAR. -/
def Station.servingBeacon (s : Station) (b : TurntableBeacon) (period : Nat) : Station :=
  match s.passage.state with
  | .asked =>
    if b.deck = DeckState.awaitEntry.code && b.holder = s.par.station && b.aligned = s.passage.entryArm then s.takeGrant
    else if b.holder ≠ s.par.station && !b.queue.contains s.par.station && s.sinceAsk period then s.askAgain
    else s
  | .granted => if s.passageLost b period then s.takeRevoked else s
  | .aboardSent =>
    if s.shownAccepted b then
      let s1 := s.learnAccepted
      if s1.shownExit b then s1.takeExit s1.passage.exitArm else s1
    else if b.holder = s.par.station && b.deck = DeckState.awaitEntry.code && s.sinceAboard period then s.sendAboard
    else if s.passageLost b period then s.lostAboard b
    else s
  | .accepted =>
    if s.shownExit b then s.takeExit s.passage.exitArm
    else if s.passageLost b period then s.lostAboard b
    else s
  | _ => s

/-! ## At each evaluation (R168, R169, R171, R172) -/

/-- The guarded extent overlaps the DECK segment of the passage's turntable. -/
def Station.onPassageDeck (s : Station) : Bool :=
  (s.map.deckSegment s.passage.turntable).any fun n => s.overlaps n

/-- TURN-CLEAR ends the passage when the queue takes it; until then the passage stays (R171, R172; log 17). -/
def Station.clearPassage (s : Station) : Station :=
  match s.sendClear s.passage.turntable with
  | (s1, true) => ((s1.removeDeckEntry s.passage.turntable).setReserve false).endPassage
  | (s1, false) => s1

/-- The passage record's own rule at an evaluation. -/
def Station.passageRule (s : Station) : Station :=
  match s.passage.state with
  | .none => s.firstAsk
  | .asked =>
    if s.pos.frame ≠ .deck && !s.legKeepsPassage then s.clearPassage
    else if s.passage.askOwed ||
        ((s.servingStation s.passage.turntable).isNone && s.sinceAsk s.par.beacon) then s.askAgain
    else s
  | .granted => if !s.legKeepsPassage && !s.onPassageDeck then s.clearPassage else s
  | .leaving => if s.pos.frame = .line && !s.onPassageDeck then s.clearPassage else s
  | _ => s

/-- The passage side at an evaluation of the order unit: owed TURN-CLEARs first, then the passage (R182). -/
def Station.passageEval (s : Station) : Station := s.offerClears.passageRule

/-- The passage side reports that the carriage awaits a GRANT or an EXIT (R168). -/
def Station.awaitsAnswer (s : Station) : Bool :=
  s.passage.state = .asked || s.passage.state = .aboardSent || s.passage.state = .accepted || s.askWanted.isSome

end Sys2Proof.Machine
end

