-- ==== Sys2Proof/Machine/OrderUnit.lean ====
section
/-! DEFINITION. The order unit (chapter 6): acceptance R103, R105, evaluation R107, waiting R113, HALT, RESUME and
CANCEL R117–R120, SET-POSITION R121, the BODY claim of R121 and R193. -/

namespace Sys2Proof.Machine

/-! ## Acceptance (R101, R103, R105) -/

/-- The line and chainage of a target: the POINT as given, or the pad's; none for an invalid pad (R103). -/
def Station.resolveTarget (s : Station) : Target → Option (Nat × Chainage)
  | .pad n => (s.map.pad? n).map fun p => (p.line, p.chainage)
  | .point l c => some (l, c)

/-- The target form is PAD. -/
def isPad : Target → Bool
  | .pad _ => true
  | .point _ _ => false

/-- The lift and load tests of R103, by kind. -/
def Station.liftRefusal (s : Station) (k : OrderKind) : Option Reason :=
  match k with
  | .move => if s.lift.state.atRest then none else some .lift
  | .fetch => if s.lift.state = .lowered && s.lift.load = .empty then none else some .lift
  | .place =>
    if s.lift.state ≠ .raised then some .lift
    else if s.lift.load = .loaded then none else some .noLoad

/-- The first test of R103 that fails, with the leg index it reports. -/
def Station.refusal (s : Station) (k : OrderKind) (r : RouteOrder) : Option (Reason × Nat) :=
  if s.start.phase ≠ .ready then some (.busy, 0)
  else if s.line.fault then some (.duplicate, 0)
  else if !s.order.state.resting then some (.busy, 0)
  else if s.pos.frame = .unknown then some (.unknownPosition, 0)
  else if k ≠ .move && !isPad r.target then some (.pad, 0)
  else match s.resolveTarget r.target with
    | none => some (.pad, 0)
    | some (line, chainage) =>
      match s.liftRefusal k with
      | some x => some (x, 0)
      | none => (s.badLeg r line chainage).map fun i => (.route, i)

/-- An accepted order: record, trail stack, leg 1 (R105); DOCKED clears (R142). It is RUNNING whatever the line state (log
103). -/
def Station.accept (s : Station) (k : OrderKind) (o : OrderHead) (r : RouteOrder) : Station :=
  let (line, chainage) := (s.resolveTarget r.target).getD (0, 0)
  let s1 := s.withOrder { s.order with
    number := o.number, kind := k, target := r.target, line := line, chainage := chainage, route := r.legs
    origin := o.src, cursor := 1, state := .running, reason := .none, resume := none
    haltOperator := false, haltLine := false, blocked := false, waitStart := none
    askTimes := Vector.replicate 128 none }
  let s2 := (s1.setReserve false).withAppr { s1.appr with docked := false, dockedPad := none }
  (s2.withTrail []).beginLeg

/-- A MOVE, FETCH or PLACE addressed to this carriage: a repeat, a refusal, or an order accepted (R101–R103). -/
def Station.takeRoute (s : Station) (k : OrderKind) (o : OrderHead) (r : RouteOrder) : Station :=
  if o.number = s.order.number && s.order.state ≠ .idle then s
  else match s.refusal k r with
    | some (x, i) => s.answer o .failed x i
    | none => s.accept k o r

/-! ## Waiting (R113) -/

/-- The claim term is 0 and the nearest wanted segment not held is not being claimed, or an answer is awaited (R113). -/
def Station.mustWait (s : Station) : Bool :=
  (s.pClaim = 0 && (s.nearestUnheld.any fun n => !s.claims.listens n)) || s.awaitsAnswer

/-- The WAITING test (R113, log 34). DESIGN CHOICE (log 107): a WAITING order is RUNNING again as soon as the claim for its
nearest wanted segment is LISTENING, before it is won. -/
def Station.waitingTest (s : Station) : Station :=
  match s.order.state with
  | .running =>
    if s.effective = 0 && s.appr.state ≠ .attempt && s.mustWait then
      s.withOrder { s.order with state := .waiting, waitStart := some s.ms }
    else s
  | .waiting =>
    if s.mustWait then s
    else s.withOrder { s.order with state := .running, blocked := false, waitStart := none }
  | _ => s

/-! ## One evaluation (R107) -/

/-- RUNNING or WAITING. -/
def Station.working (s : Station) : Bool := s.order.state = .running || s.order.state = .waiting

/-- One evaluation of the order unit, the backing rule and the passage side (R107, R130, R168). DESIGN CHOICE (log 63):
backing comes before the release behind, and the passage side between it and the claim ahead. -/
def Station.orderEval (s : Station) : Station :=
  if s.driving then
    let s1 := s.backingEval.releaseBehind.passageEval
    if s1.working then s1.claimAhead.waitingTest else s1
  else s

/-! ## RESUME and CANCEL (R119, R120) -/

/-- RESUME of a STOPPED order in frame LINE checks that the present leg's line is the position's (R119). -/
def Station.legOnLine (s : Station) : Bool :=
  s.pos.frame ≠ .line || s.order.leg?.all fun g => g.line = s.pos.line

/-- A STOPPED order returns by its resume state (R119), whatever the line state (log 103). -/
def Station.resumeStopped (s : Station) : Station :=
  match s.order.resume with
  | some .loading => s.returnTo .loading
  | some .backing =>
    match s.backing with
    | some b => s.cutBacking.returnTo (if b.origin = .waiting then .running else b.origin)
    | none => s.returnTo .running
  | _ => s.returnTo .running

/-- RESUME of a STOPPED backing that came from a resting order leaves that order ended (R119, R135). DESIGN CHOICE (log 102):
it asks for a park record, as the backings of R132 and R133 that end so do (R151). -/
def Station.reopenPark (s : Station) : Station := if s.order.state.resting then s.openPark else s

/-- The ROUTE failure of RESUME; the record's leg cursor reports the leg index (R119, R102). -/
def Station.failRoute (s : Station) : Station := s.giveUpAttempt.cutBacking.endOrder .failed .route

/-- HALT at a carriage (R117). -/
def Station.takeHalt (s : Station) : Station :=
  s.haltWith fun o => { o with haltOperator := true, reason := if o.haltLine then .line else .none }

/-- RESUME at a carriage (R119). -/
def Station.takeResume (s : Station) : Station :=
  if s.line.fault then s
  else match s.order.state with
    | .halted =>
      (s.withOrder { s.order with
        haltOperator := false, reason := if s.order.haltLine then .line else .none }).unhalt
    | .stopped => if s.legOnLine then s.resumeStopped.reopenPark else s.failRoute
    | _ => s

/-- The order fails with CANCELLED at once (R120). -/
def Station.cancelNow (s : Station) : Station := s.giveUpAttempt.cutBacking.endOrder .failed .cancelled

/-- CANCEL at a carriage (R120, R148). DESIGN CHOICE (log 76): a second one taken in HALTED or STOPPED with the return under
way goes by R148, back to LOADING. -/
def Station.takeCancel (s : Station) : Station :=
  if !s.order.state.active then s
  else if s.lift.state.travelling || s.lift.state = .stoppedMid then
    if s.lift.returning && s.order.state = .loading then s
    else (s.withOrder { s.order with
      state := .loading, reason := .cancelled, resume := none, haltOperator := false, haltLine := false
      blocked := false, waitStart := none }).reverseLift
  else s.cancelNow

/-! ## The BODY claim of SET-POSITION and of start-up (R121, R193) -/

/-- The segments under the guarded extent, DECK segments and segments in the list left out. -/
def Station.bodyWanted (s : Station) : List Nat :=
  (s.touched.filter fun b => b.kind ≠ .deck && !s.claims.lists b.seg).map (·.seg)

/-- What SET-POSITION owes the new extent: the segments not yet in the list, and those that an earlier SET-POSITION still
listens for (R121; log 18). -/
def Station.bodyToWin (s : Station) : List Nat :=
  s.bodyWanted ++ s.order.bodyOwed.filter fun n => s.claims.listens n && s.overlaps n

/-- The owed segments that are not in the list are asked for, as a group or a single claim (R121). -/
def Station.askBody (s : Station) : Station :=
  match s.order.bodyOwed.filter fun n => !s.claims.lists n with
  | [] => s
  | segs => (s.claimGroup segs .body .setPosition).1

/-- Once every B what is not yet won is asked again (R121). -/
def Station.retryBody (s : Station) : Station :=
  (s.withOrder { s.order with bodyOwed := s.order.bodyOwed.filter fun n => !s.claims.holds n }).askBody

/-- HELD entries of purpose AHEAD or BODY off the guarded extent (R121). -/
def Station.offExtent (s : Station) : List Nat :=
  (s.claims.entries.filter fun e =>
    e.state = .held && (e.purpose = .ahead || e.purpose = .body) && !s.overlaps e.seg).map (·.seg)

/-- The first test of R34 and R121 that a SET-POSITION fails. -/
def Station.setRefusal (s : Station) (line : Nat) (chainage : Chainage) : Option Reason :=
  if s.start.phase ≠ .ready then some .busy
  else if s.line.fault then some .duplicate
  else if s.env.commanded ≠ 0 || s.inputs.confirmed ≠ 0 then some .busy
  else if s.order.state = .running || s.order.state = .backing || s.order.state = .loading then some .busy
  else if s.pos.frame = .deck then some .busy
  else match s.map.line? line with
    | none => some .route
    | some x => if x.low ≤ chainage && chainage ≤ x.high then none else some .route

/-- SET-POSITION places the carriage: the position, the order, what the new extent leaves released (R34, R121). -/
def Station.placeAt (s : Station) (line : Nat) (chainage : Chainage) (uncertainty : Nat) : Station :=
  let p := s.pos.reference line chainage (clampTo Config.uMin Config.uMax uncertainty) s.par.drift
  let s1 := ((s.withPos { p with doubt := true }).stopOrder .position).touchPark
  let s2 := (s1.releaseAll s1.offExtent).withTrail []
  s2.withAppr { s2.appr with docked := false, dockedPad := none }

/-- SET-POSITION takes effect: the carriage is placed, and its new extent asked for (R121). -/
def Station.setPosition (s : Station) (line : Nat) (chainage : Chainage) (uncertainty : Nat) : Station :=
  let s1 := s.placeAt line chainage uncertainty
  (s1.withOrder { s1.order with bodyOwed := s1.bodyToWin }).askBody

/-- A SET-POSITION at a carriage (R121). -/
def Station.takeSetPosition (s : Station) (o : OrderHead) (line : Nat) (chainage : Chainage) (uncertainty : Nat) : Station :=
  match s.setRefusal line chainage with
  | some r => s.answer o .failed r 0
  | none => (s.setPosition line chainage uncertainty).answer o .done .none 0

/-! ## Position events taken by other blocks -/

/-- A marker report with number `n` (R26–R28). -/
def Station.markerReport (s : Station) (n : Nat) : Station :=
  if s.pos.frame ≠ .line then s.countBad
  else match s.map.marker? n with
    | none => s.countBad
    | some k =>
      let p := s.pos.reference k.line k.chainage Config.uMin s.par.drift
      if k.line = s.pos.line && distance k.chainage s.pos.centre ≤ s.pos.u then
        (s.withPos { p with doubt := false }).touchPark
      else (s.withPos { p with doubt := true }).positionFault

/-- An encoder count report (R21, R22). -/
def Station.takeCounts (s : Station) (counts : Int) : Station :=
  if s.pos.frame = .unknown then s
  else
    let move : Int := counts * s.par.scale
    let acc := match s.pos.dir with
      | .up => s.pos.acc + move
      | .down => s.pos.acc - move
    if acc < Config.accMin || Config.accMax < acc then
      let held := if acc < Config.accMin then Config.accMin else Config.accMax
      (s.withPos { s.pos with acc := held, centre := held / 1000, doubt := true }).positionFault
    else
      let run := min Config.travelMax (s.pos.travelAcc + move.natAbs)
      s.withPos ({ s.pos with
        acc := acc, centre := acc / 1000, travelAcc := run, travel := run / 1000 }.recompute s.par.drift)

end Sys2Proof.Machine
end

