-- ==== Sys2Proof/Machine/TurntableUnit.lean ====
section
/-! DEFINITION. The turntable unit (R153–R167). -/

namespace Sys2Proof.Machine

/-! ## Guards -/

/-- The GUARD segments of this turntable, each once (R16). -/
def Station.guards (s : Station) : List Nat := dropRepeats [] (s.map.guardSet s.par.turntable)

/-- `seg` is HELD in the own list. -/
def ClaimBlock.isHeld (c : ClaimBlock) (seg : Nat) : Bool := c.entries.any fun e => e.seg = seg && e.state = .held

/-- Every GUARD segment of this turntable is HELD in the own list (R159). -/
def Station.guardsHeld (s : Station) : Bool := s.guards.all s.claims.isHeld

/-- A RELEASE carrying one of `segs` waits in the queue. -/
def Station.releaseQueued (s : Station) (segs : List Nat) : Bool :=
  s.line.queue.any fun x => match x.frame with
    | .release l => l.any segs.contains
    | _ => false

/-- A RELEASE of some guard is owed or waits in the queue, or is to follow from the end of a window under the drop
mark (R68). -/
def Station.guardReleaseOpen (s : Station) : Bool :=
  (s.guards.any fun n => (s.claims.owed[n]?).getD false) || s.releaseQueued s.guards ||
  s.claims.entries.any fun e => e.purpose = .guard && e.drop

/-- A release request for every GUARD entry; guard release pending is set when there is one to come (R159, R166; log 13). -/
def Station.releaseGuards (s : Station) : Station :=
  let s1 := s.releaseAll ((s.claims.entries.filter fun e => e.purpose = .guard).map (·.seg))
  s1.withTt { s1.tt with releasePending := s1.guardReleaseOpen }

/-- Guard release pending clears when the last guard's RELEASE is sent or dropped (R159, R184). -/
def Station.releaseDone (s : Station) : Station :=
  if s.tt.releasePending && !s.guardReleaseOpen then s.withTt { s.tt with releasePending := false } else s

/-! ## Faults (R154, R165) -/

/-- FAULT with reason `r`: timers stop, the rest is kept (R165). -/
def Station.deckFault (s : Station) (r : DeckReason) : Station :=
  s.withTt { s.tt with
    deck := .fault, reason := r, entryTimer := none, exitTimer := none, rotationTimer := none }

/-! ## GRANT, EXIT and their repeats (R160, R163) -/

/-- A TURN-ANSWER that is not offered again. -/
def Station.turnAnswer (s : Station) (carriage : Nat) (a : TurnAnswer) (arm : Nat) : Station :=
  s.send (.turnAnswer carriage a arm)

/-- The GRANT to the holder, offered, or owed until the queue takes it (R160). -/
def Station.offerGrant (s : Station) : Station :=
  match s.tt.holder with
  | none => s
  | some h =>
    match s.offer (.turnAnswer h.station .grant h.entryArm) with
    | (s1, b) => s1.withTt { s1.tt with grantOwed := !b }

/-- The EXIT to the holder, offered, or owed until the queue takes it (R163). -/
def Station.offerExit (s : Station) : Station :=
  match s.tt.holder with
  | none => s
  | some h =>
    match s.offer (.turnAnswer h.station .exit h.exitArm) with
    | (s1, b) => s1.withTt { s1.tt with exitOwed := if b then .none else .toOffer }

/-- A GRANT is made to the queue head (R160). -/
def Station.makeGrant (s : Station) (r : Request) : Station :=
  (s.withTt { s.tt with
    queue := s.tt.queue.tail, holder := some ⟨r.station, r.entryArm, r.exitArm⟩, aboard := false, clearHeard := false
    deck := .awaitEntry, entryTimer := some (s.ms + s.par.entryTimeout * 1000) }).offerGrant

/-- The EXIT is made once guard release pending has cleared; the exit timer starts (R163). -/
def Station.makeExit (s : Station) : Station :=
  (s.withTt { s.tt with exitTimer := some (s.ms + s.par.exitTimeout * 1000) }).offerExit

/-- GRANT and EXIT still to be made or offered again (R160, R163). -/
def Station.reoffer (s : Station) : Station :=
  match s.tt.deck with
  | .awaitEntry => if s.tt.grantOwed && !s.tt.aboard then s.offerGrant else s
  | .awaitExit =>
    match s.tt.exitOwed with
    | .none => s
    | .toMake => if s.tt.releasePending then s else s.makeExit
    | .toOffer => if s.tt.clearHeard then s else s.offerExit
  | _ => s

/-! ## Rotation (R158, R159) -/

/-- The deck sensor that a rotation for this purpose needs (R159). -/
def Station.sensorOk (s : Station) : Bool :=
  match s.tt.purpose with
  | .entry => s.inputs.deckClear
  | .exit => s.inputs.deckCentred
  | .none => false

/-- No entry of the peer table lists a GUARD segment of this turntable as held, be it FRESH, STALE or LOST (R46, R158). -/
def Station.guardsFree (s : Station) : Bool := s.guards.all fun n => (s.holders n).isEmpty

/-- The rotation starts, with every guard HELD here and listed by no peer; an active ROTATION-FAULT gives FAULT instead
(R46, R158, R159, R165). DEDUCED (log 56): a peer's hold keeps the turntable in CLAIMING with its guards won too. DEDUCED
(log 97): ROTATION-FAULT is judged once all else lets the rotation start. -/
def Station.startRotation (s : Station) : Station :=
  if s.guardsHeld && s.guardsFree && s.sensorOk then
    if s.inputs.rotationFault then s.deckFault .drive
    else s.withTt { s.tt with deck := .rotating, rotationTimer := some (s.ms + s.par.rotationTimeout * 1000) }
  else s

/-- The retry time has come, or none stands (R158). -/
def Station.retryOver (s : Station) : Bool := s.tt.retryTime.isNone || dueAt s.tt.retryTime s.ms

/-- The guards not yet HELD are asked for, unless a claim is in flight or the retry time stands; with none missing the
rotation starts (R158). DESIGN CHOICE (log 108): a guard that still listens under the drop mark is such a claim in flight. -/
def Station.claimGuards (s : Station) : Station :=
  let missing := s.guards.filter fun n => !s.claims.isHeld n
  if missing.isEmpty then s.startRotation
  else if s.claims.entries.any fun e => e.purpose = .guard && e.state = .listening then s
  else if !s.retryOver then s
  else ((s.withTt { s.tt with retryTime := none }).claimGroup missing .guard .turntable).1

/-- A guard claim begins for an arm and a purpose: the deck is CLAIMING from the asking on, also while a retry time
stands and nothing is asked yet (R158; log 11). -/
def Station.beginClaim (s : Station) (arm : Nat) (p : RotationPurpose) : Station :=
  (s.withTt { s.tt with deck := .claiming, target := some arm, purpose := p }).claimGuards

/-- The rotation ends at the target arm (R159). After EXIT the deck awaits the exit (R163; log 12). -/
def Station.endRotation (s : Station) (arm : Nat) : Station :=
  let exit := s.tt.purpose = .exit
  (s.withTt { s.tt with
    deck := if exit then .awaitExit else .idle
    exitOwed := if exit then .toMake else s.tt.exitOwed
    aligned := arm, target := none, purpose := .none, rotationTimer := none }).releaseGuards

/-! ## Serving (R157, R163, R164) -/

/-- IDLE: the queue head is granted, or a rotation toward its arm begins (R157). -/
def Station.serve (s : Station) : Station :=
  match s.tt.queue with
  | [] => s
  | r :: _ =>
    if s.tt.grantHold || s.line.fault || s.tt.releasePending then s
    else if r.entryArm = s.tt.aligned then s.makeGrant r
    else if s.inputs.deckClear then s.beginClaim r.entryArm .entry
    else s

/-- The holder's peer entry occupies segment `n` (R48). -/
def Station.holderIn (s : Station) (n : Option Nat) : Bool :=
  match s.tt.holder, n with
  | some h, some g => (s.peer h.station).occupies s.map g
  | _, _ => false

/-- The turntable knows that the holder has left (R164). -/
def Station.holderGone (s : Station) : Bool :=
  s.tt.clearHeard || !s.holderIn (s.map.deckSegment s.par.turntable)

/-- The deck returns to IDLE with no holder (R162, R164). -/
def Station.deckIdle (s : Station) : Station :=
  s.withTt { s.tt with
    deck := .idle, holder := none, aboard := false, clearHeard := false, entryTimer := none, exitTimer := none
    faultExit := false, grantOwed := false, exitOwed := .none }

/-- The deck leaves FAULT at the arm reported, by the table of R166. -/
def Station.leaveFault (s : Station) (arm : Nat) : Station :=
  let s1 := (s.withTt { s.tt with aligned := arm, reason := .none, target := none, purpose := .none }).releaseGuards
  match s1.tt.holder with
  | none => s1.deckIdle
  | some h =>
    if s1.tt.aboard then
      if arm = h.exitArm then s1.withTt { s1.tt with deck := .awaitExit, exitOwed := .toMake }
      else s1.withTt { s1.tt with deck := .aboard }
    else if arm = h.entryArm then
      s1.withTt { s1.tt with deck := .awaitEntry, entryTimer := some (s1.ms + s1.par.entryTimeout * 1000) }
    else s1.withTt { s1.tt with deck := .fault, reason := .noArm }

/-- A NO-ARM fault with no holder clears itself (R166). -/
def Station.selfClear (s : Station) : Station :=
  match s.inputs.armAligned with
  | some a =>
    if s.tt.deck = .fault && s.tt.reason = .noArm && s.tt.holder.isNone && !s.inputs.rotationFault then s.leaveFault a
    else s
  | none => s

/-- One evaluation of the turntable unit (R157). DESIGN CHOICE (log 79): the one that returns the deck from AWAIT-EXIT to
IDLE serves no head. -/
def Station.ttEval (s : Station) : Station :=
  if s.turning then
    let s1 := s.releaseDone.reoffer.selfClear
    match s1.tt.deck with
    | .idle => s1.serve
    | .claiming => s1.claimGuards
    | .aboard =>
      match s1.tt.holder with
      | some h => if s1.line.fault then s1 else s1.beginClaim h.exitArm .exit
      | none => s1
    | .awaitExit => if s1.inputs.deckClear && s1.holderGone then s1.deckIdle else s1
    | _ => s1
  else s

/-! ## Frames from carriages (R155, R156, R161, R162, R164) -/

/-- An arm of this turntable is present. -/
def Station.armPresent (s : Station) (a : Nat) : Bool :=
  (s.map.turntable? s.par.turntable).any fun k => (slot? (·.present) k.arms a).isSome

/-- A TURN-ASK naming this turntable from station `p` (R155). -/
def Station.takeAskFrame (s : Station) (p : Nat) (role : Role) (entry exit : Nat) : Station :=
  if s.start.phase ≠ .ready then s
  else if role = .turntable || !s.armPresent entry || !s.armPresent exit || entry = exit then s.countBad
  else if s.tt.holder.any fun h => h.station = p then s
  else if s.tt.queue.any fun r => r.station = p then
    s.withTt { s.tt with queue := s.tt.queue.map fun r =>
      if r.station = p then { r with entryArm := entry, exitArm := exit } else r }
  else if s.tt.deck = .fault || s.line.fault then s.turnAnswer p .fault s.tt.aligned
  else if Config.places ≤ s.tt.queue.length then s.turnAnswer p .refusedFull s.tt.aligned
  else s.withTt { s.tt with queue := s.tt.queue ++ [⟨p, entry, exit, s.ms⟩] }

/-- A TURN-ABOARD naming this turntable from station `p` (R161). DESIGN CHOICE (log 69): the holder's in AWAIT-EXIT with
holder aboard clear is not answered. -/
def Station.takeAboardFrame (s : Station) (p : Nat) : Station :=
  match s.tt.holder with
  | some h =>
    if h.station ≠ p then s.turnAnswer p .revoked s.tt.aligned
    else if s.tt.deck = .awaitEntry then
      if s.inputs.deckCentred then s.withTt { s.tt with aboard := true, entryTimer := none, deck := .aboard }
      else s.turnAnswer p .notCentred h.entryArm
    else s
  | none => s.turnAnswer p .revoked s.tt.aligned

/-- A station leaves the request queue (R156). -/
def Station.unqueue (s : Station) (p : Nat) : Station :=
  s.withTt { s.tt with queue := s.tt.queue.filter fun r => r.station ≠ p }

/-- A TURN-CLEAR naming this turntable from station `p` (R156, R162, R164). -/
def Station.takeClearFrame (s : Station) (p : Nat) : Station :=
  if s.tt.holder.any fun h => h.station = p then
    match s.tt.deck with
    | .awaitEntry =>
      if s.inputs.deckClear then s.deckIdle.withTt { s.deckIdle.tt with clearHeard := true }
      else s.withTt { s.tt with
        clearHeard := true, entryTimer := none, deck := .awaitExit, exitOwed := .none
        exitTimer := some (s.ms + s.par.exitTimeout * 1000) }
    | .awaitExit => s.withTt { s.tt with clearHeard := true }
    | .fault =>
      if !s.tt.aboard && s.inputs.deckClear then s.withTt { s.tt with clearHeard := true, holder := none }
      else s.withTt { s.tt with clearHeard := true }
    | _ => s
  else s.unqueue p

/-! ## Timers (R162, R164, R165) -/

/-- The entry timer runs out in AWAIT-ENTRY: the grant is revoked, or the timer starts again (R162). -/
def Station.entryExpired (s : Station) : Station :=
  match s.tt.holder with
  | none => s
  | some h =>
    let arm := s.map.deck? s.par.turntable h.entryArm
    if !s.inputs.deckOccupied && !s.holderIn (s.map.deckSegment s.par.turntable) &&
       !s.holderIn (arm.bind (·.guardSegment)) then
      s.deckIdle.turnAnswer h.station .revoked h.entryArm
    else s.withTt { s.tt with entryTimer := some (s.ms + s.par.entryTimeout * 1000) }

/-! ## Inputs and RESUME (R154, R159, R165, R166) -/

/-- ARM-ALIGNED reports an arm, or none (R154, R159). -/
def Station.armReport (s : Station) (a : Option Nat) : Station :=
  match s.tt.deck with
  | .rotating => if a.isSome && a = s.tt.target then s.endRotation (a.getD 0) else s
  | .fault => s
  | _ => if a = some s.tt.aligned then s else s.deckFault .noArm

/-- RESUME in FAULT (R166); in every state it clears the grant hold (R167). Before READY the deck stays as R192 has it.
DESIGN CHOICE (log 104): it acts with the FAULT flag set too. -/
def Station.ttResume (s : Station) : Station :=
  let s1 := s.withTt { s.tt with grantHold := false }
  match s1.tt.deck, s1.inputs.armAligned with
  | .fault, some a => if !s1.turning || s1.inputs.rotationFault then s1 else s1.leaveFault a
  | _, _ => s1

/-- At the end of LISTEN-IN a turntable reads ARM-ALIGNED (R153). -/
def Station.readArm (s : Station) : Station :=
  match s.inputs.armAligned with
  | some a => s.withTt { s.tt with deck := .idle, aligned := a, reason := .none }
  | none => s

end Sys2Proof.Machine
end

