-- ==== Sys2Proof/Machine/LineUnit.lean ====
section
/-! DEFINITION. The line interface: beacons R69, R102, R183, R186, sending R179, R180, echoes R185, silence R187. -/

namespace Sys2Proof.Machine

/-! ## What a beacon shows -/

/-- The held list: HELD and YIELDING entries in increasing segment number (R69). -/
def ClaimBlock.heldList (c : ClaimBlock) : List HeldItem :=
  sortBy (fun a b => decide (a.seg ≤ b.seg))
    ((c.entries.filter (·.holding)).map fun e => ⟨e.seg, e.state = .yielding⟩)

/-- Line byte, deck turntable byte and centre of a carriage beacon, by frame (R19). -/
def Station.shownPlace (s : Station) : Nat × Nat × Chainage :=
  match s.pos.frame with
  | .unknown => (254, s.pos.deckTurntable, 0)
  | .line => (s.pos.line, s.pos.deckTurntable, s.pos.centre)
  | .deck =>
    (255, s.pos.deckTurntable,
      s.pos.centre - ((s.map.deck? s.pos.deckTurntable s.pos.entryArm).map (·.centre)).getD 0)

/-- The order state code shown: BLOCKED in place of WAITING (R102). -/
def OrderUnit.shownState (o : OrderUnit) : Nat :=
  if o.state = .waiting && o.blocked then blockedCode else o.state.code

/-- Order state, reason, number and leg cursor shown: the answer slot, the body-claim retry, or the record (R102, R193).
DESIGN CHOICE (log 80): a full answer slot goes before the retry mark. DESIGN CHOICE (log 106): it is shown in LISTEN-IN too.
DESIGN CHOICE (log 94): the retry mark goes before the reason DUPLICATE. -/
def Station.shownOrder (s : Station) : Nat × Nat × Nat × Nat :=
  match s.order.answer with
  | some a => (a.state.code, a.reason.code, a.number, a.leg)
  | none =>
    if s.start.retryMark then (OrderState.waiting.code, Reason.none.code, 0, 0)
    else (s.order.shownState, s.order.reason.code, s.order.number, s.order.cursor)

/-- The body of a carriage BEACON, as the blocks stand (R175, R183). -/
def Station.carriageBeacon (s : Station) : CarriageBeacon :=
  let (line, deck, centre) := s.shownPlace
  let (st, reason, number, cursor) := s.shownOrder
  { period := s.line.period, line := line, deckTurntable := deck, centre := centre
    u := s.pos.u, halfLength := s.par.len / 2
    commanded := s.env.commanded, effective := s.effective, dir := s.pos.dir, loaded := s.lift.load = .loaded
    doubt := s.pos.doubt, clamped := s.start.clamped, recovered := s.line.recovered, fault := s.line.fault
    wait := s.claims.waitCount, orderCode := st, reason := reason, orderNumber := number, cursor := cursor
    held := s.claims.heldList, home := s.home.getD 255
    badCount := s.line.badCount, resendCount := s.line.resendCount }

/-- The body of a turntable BEACON (R153, R175); its held list is that of its GUARD entries. -/
def Station.turntableBeacon (s : Station) : TurntableBeacon :=
  { period := s.line.period, turntable := s.par.turntable, aligned := s.tt.aligned, deck := s.tt.deck.code
    holder := (s.tt.holder.map (·.station)).getD 0, clamped := s.start.clamped, fault := s.line.fault
    faultExit := s.tt.faultExit, reason := s.tt.reason.code, queue := s.tt.queue.map (·.station)
    held := s.claims.heldList, badCount := s.line.badCount, resendCount := s.line.resendCount }

/-- The content of a frame of the queue as it goes out now (R174, R183). -/
def Station.contentOf (s : Station) (f : OutFrame) : Content :=
  match f with
  | .beacon => if s.isCarriage then .carriageBeacon s.carriageBeacon else .turntableBeacon s.turntableBeacon
  | .claim seg tag r => .claim seg tag r
  | .object seg k r c => .object seg k r c
  | .release segs => .release segs
  | .yieldAsk seg h w => .yieldAsk seg h w
  | .turnAsk t a e => .turnAsk t a e
  | .turnAnswer c k a => .turnAnswer c k a
  | .turnAboard t => .turnAboard t
  | .turnClear t => .turnClear t

/-- The bytes on the line: header, body and check (R174). -/
def Station.bytesOf (s : Station) (f : OutFrame) : List Byte :=
  WireFrame.encode ⟨s.par.station, Role.code s.par.role, s.contentOf f⟩

/-! ## Winning the line (R179, R180) -/

/-- The class offset of the head frame (R179). -/
def Station.classOffset (s : Station) (x : QueueItem) : Nat :=
  if x.prompt then 0 else if s.line.courtesy then 64 else 32

/-- The gap of the head frame, µs (R179). -/
def Station.gap (s : Station) (x : QueueItem) : Nat := 60 + (s.classOffset x + s.par.station) * 30

/-- A send point of the head: its gap after the line fell quiet, or a whole number of 3000 µs more (R179, log 9). -/
def Station.atSendPoint (s : Station) (x : QueueItem) : Bool :=
  match s.line.sending, s.inputs.quietSince with
  | none, some q => q + s.gap x ≤ s.now && (s.now - q - s.gap x) % 3000 = 0
  | _, _ => false

/-- The courtesy flag after sending `x` (R180). -/
def Station.nextCourtesy (s : Station) (x : QueueItem) : Bool := if x.prompt then s.line.courtesy else !s.line.courtesy

/-- The head frame begins to go out (R179, R180, R183, R185). A carriage beacon empties the answer slot (R102; log 36).
DESIGN CHOICE (log 86): the body of a resent beacon counts that resend already. -/
def Station.sendHead (s : Station) : Station :=
  match s.line.queue with
  | [] => s
  | x :: rest =>
    if s.atSendPoint x then
      let s1 := s.withLine { s.line with
        queue := { x with sends := x.sends + 1, inFlight := true } :: rest
        courtesy := s.nextCourtesy x
        resendCount := if 0 < x.sends then bump 255 s.line.resendCount else s.line.resendCount }
      let s2 := s1.withLine { s1.line with
        sending := some (s1.bytesOf x.frame), sentRecovered := x.isBeacon && s1.line.recovered }
      let s3 := if x.isBeacon then s2.withOrder { s2.order with answer := none } else s2
      s3.withInputs { s3.inputs with quietSince := none }
    else s

/-! ## Reports to the makers (R181, R182) -/

/-- The maker of a frame is told SENT. -/
def Station.reportSent (s : Station) (x : QueueItem) : Station :=
  match x.frame with
  | .claim seg _ _ => if x.orphan then s else s.openWindow seg
  | .turnAsk .. => s.withPassage { s.passage with askTime := some s.ms }
  | .turnAboard _ => s.withPassage { s.passage with aboardTime := some s.ms }
  | _ => s

/-- A dropped answer to station `c` was meant for the present holder, and no other such answer to it is in the queue. -/
def Station.answerLost (s : Station) (c : Nat) (a : TurnAnswer) : Bool :=
  s.tt.holder.any (·.station = c) && !s.line.queue.any fun x => match x.frame with
    | .turnAnswer c' a' _ => c' = c && a' = a
    | _ => false

/-- The maker of a frame is told DROPPED (the table of R182; log 14). The holder's GRANT and EXIT are offered again,
a GRANT also after a FAULT has passed (R160, R163, R166). -/
def Station.reportDropped (s : Station) (x : QueueItem) : Station :=
  match x.frame with
  | .claim seg _ _ => if x.orphan then s else s.claimNotSent seg
  | .turnAnswer c .grant _ => if s.answerLost c .grant then s.withTt { s.tt with grantOwed := true } else s
  | .turnAnswer c .exit _ =>
    if s.tt.deck = .awaitExit && s.tt.exitOwed = .none && s.answerLost c .exit then
      s.withTt { s.tt with exitOwed := .toOffer }
    else s
  | .turnClear t => s.oweClear t
  | _ => s

/-- The queue without the frame in flight. -/
def withoutInFlight (q : List QueueItem) : List QueueItem := q.filter fun x => !x.inFlight

/-- The silence timer starts anew with the silence limit, in the carriage role (R187). -/
def Station.restartSilence (s : Station) : Station :=
  if s.isCarriage then s.withLine { s.line with silenceTimer := some (s.ms + 3 * s.line.period) } else s

/-- A good own echo in the line state machine (R187). -/
def Station.heardSelf (s : Station) : Station :=
  match s.line.state with
  | .heard => s.restartSilence
  | .silent => s.withLine { s.line with state := .recovering, recoveryTimer := some (s.ms + s.par.beacon) }
  | .recovering => s

/-- The echo of the frame in flight is good (R185, R187). -/
def Station.goodEcho (s : Station) (x : QueueItem) : Station :=
  let s1 := s.withLine { s.line with
    queue := withoutInFlight s.line.queue, sending := none
    recovered := s.line.recovered && !s.line.sentRecovered, sentRecovered := false }
  ((s1.withInputs { s1.inputs with quietSince := some s1.now }).heardSelf).reportSent x

/-- The echo of the frame in flight failed: a resend to come, or DROPPED after the fourth sending (R185, R187). -/
def Station.failedEcho (s : Station) (x : QueueItem) : Station :=
  let line := { s.line with sending := none, sentRecovered := false }
  let line := if line.state = .recovering then { line with state := .silent, recoveryTimer := none } else line
  let s1 := (s.withLine line).withInputs { s.inputs with quietSince := some s.now }
  if x.sends < 4 then
    s1.setQueue (s1.line.queue.map fun y => if y.inFlight then { y with inFlight := false } else y)
  else (s1.setQueue (withoutInFlight s1.line.queue)).reportDropped x

/-! ## The announced period (R186) -/

/-- The period as the station now stands: B, or 4B while it is parked. -/
def Station.periodNow (s : Station) : Nat := if s.parked then 4 * s.par.beacon else s.par.beacon

/-- More than B remains on the beacon timer. -/
def Station.beaconFar (s : Station) : Bool :=
  match s.line.beaconTimer with
  | some e => s.ms + s.par.beacon < e
  | none => false

/-- The announced period follows the station; ceasing to be parked makes a beacon due that is more than B away (R186). -/
def Station.periodEval (s : Station) : Station :=
  let p := s.periodNow
  if p = s.line.period then s
  else
    let s1 := s.withLine { s.line with period := p }
    if p < s.line.period && s.beaconFar then
      (s1.withLine { s1.line with beaconTimer := some (s.ms + s.par.beacon) }).beaconFallsDue
    else s1

/-- The line interface after every change: period, and a beacon that waits for a place (R183, R186). -/
def Station.lineEval (s : Station) : Station := s.periodEval.queueDueBeacon

/-- The beacon timer runs out (R186). -/
def Station.beaconExpired (s : Station) : Station :=
  let s1 := s.beaconFallsDue
  s1.withLine { s1.line with beaconTimer := some (s1.ms + s1.line.period) }

/-- The silence timer runs out (R187, R118). DESIGN CHOICE (log 103): this report alone sets the line halt mark. -/
def Station.lineSilent (s : Station) : Station :=
  (s.withLine { s.line with state := .silent, silenceTimer := none }).haltForLine

/-- The recovery timer runs out (R187, R118). -/
def Station.lineRecover (s : Station) : Station :=
  (s.withLine { s.line with state := .heard, recoveryTimer := none, recovered := true }).restartSilence.lineRecovered

end Sys2Proof.Machine
end

