-- ==== Sys2Proof/Machine/Receive.lean ====
section
/-! DEFINITION. What the claim block does with frames from peers: double holds R73–R75, YIELD-ASK R70, objections
R61; and the reception that every valid frame shares (R39, R177, R180, R187). -/

namespace Sys2Proof.Machine

/-! ## Double holds (R73–R75) -/

/-- Both stations occupy the segment: this one keeps it, and stops (R75, R165). -/
def Station.bothOccupy (s : Station) : Station :=
  match s.par.role with
  | .carriage => s.raiseEmergency.stopOrder .conflict
  | .turntable => if s.tt.deck = .rotating then s.deckFault .conflict else s

/-- The segment is released as a lost claim; a YIELDING entry stays (R74). -/
def Station.giveUp (s : Station) (seg : Nat) : Station :=
  if s.claims.isHeld seg then (s.releaseRequest seg).loseClaim else s

/-- The double hold on `seg` with peer `p` is resolved (R74). -/
def Station.resolveDouble (s : Station) (p seg : Nat) : Station :=
  if s.ownOccupies seg then (if (s.peer p).occupies s.map seg then s.bothOccupy else s)
  else if (s.peer p).occupies s.map seg then s.giveUp seg
  else if outranks s.plainRank s.par.station ⟨(s.peer p).rank.wait, false⟩ p then s
  else s.giveUp seg

/-- A double hold on `seg` found with `p`, for a segment HELD or YIELDING here other than a DECK (R73). -/
def Station.doubleHold (s : Station) (p seg : Nat) : Station :=
  if s.claims.entries.any fun e => e.seg = seg && e.holding && e.purpose ≠ .deck then s.resolveDouble p seg else s

/-- A beacon of `p` that lists held segments is tested for double holds (R73). DESIGN CHOICE (log 59): several are
resolved in the order of the beacon's list. -/
def Station.beaconHolds (s : Station) (p : Nat) : Station :=
  ((s.peer p).held.map (·.seg)).foldl (fun acc n => acc.doubleHold p n) s

/-! ## Objections (R61, R73) -/

/-- The segment is a valid one of the map. -/
def Station.validSeg (s : Station) (seg : Nat) : Bool := (s.map.segment? seg).isSome

/-- An OBJECT from `p` for `seg`, addressed to claimant `c` (R61, R73). DEDUCED (log 96): a HOLDS addressed to another station
starts a double hold, by R73. -/
def Station.takeObject (s : Station) (p seg : Nat) (k : Objection) (c : Nat) : Station :=
  if c = s.par.station then
    if !s.validSeg seg then s.countBad
    else match s.claims.entry? seg with
      | none => s
      | some e =>
        if e.state = .listening then s.abandon e
        else if k = .occupied then s
        else s.doubleHold p seg
  else if k = .holds then s.doubleHold p seg
  else s

/-! ## YIELD-ASK (R70) -/

/-- A YIELD-ASK for `seg` from `p` with asker wait count `w`, naming this station; `true` when it was answered by a
backing, which then evaluates at once (R70, R129). A BACK entry, held while a backing is HALTED or STOPPED, is answered
OCCUPIED, and an AHEAD or BODY entry clear of the extent is yielded in HALTED and STOPPED too (R134; DESIGN CHOICE, log
58). -/
def Station.takeYieldAsk (s : Station) (p seg w : Nat) : Station × Bool :=
  match s.claims.entry? seg with
  | none => (s, false)
  | some e =>
    if !e.holding || e.state = .yielding || e.pendingYield.isSome then (s, false)
    else if !outranks ⟨w, false⟩ p s.plainRank s.par.station then (s.object seg .outranks s.plainRank p, false)
    else if !s.isCarriage || e.purpose = .guard || e.purpose = .deck || s.order.state = .backing then
      (s.object seg .occupied s.plainRank p, false)
    else if e.purpose = .back then (s.object seg .occupied s.plainRank p, false)
    else if s.overlaps seg then s.takeAsk p seg
    else (s.yieldEntry e p, false)

/-! ## Every valid frame (R39, R177, R180, R187) -/

/-- The sender may send a frame of this kind: ORDER comes from stations 30 and 31, the other kinds from 1–29 (R176). -/
def senderFits (src : Nat) (k : FrameKind) : Bool :=
  1 ≤ src && src ≤ 31 && ((k = .order) == decide (30 ≤ src))

/-- The line falls quiet as a frame ends; while this station is sending, its own frame still occupies the line (R179). -/
def Station.fallQuiet (s : Station) : Station :=
  if s.line.sending.isSome then s else s.withInputs { s.inputs with quietSince := some s.now }

/-- Silence watch and courtesy flag on a valid frame from another station (R180, R187). -/
def Station.heardOther (s : Station) (k : FrameKind) : Station :=
  let s1 := if s.line.state = .heard then s.restartSilence else s
  if k.prompt then s1 else s1.withLine { s1.line with courtesy := false }

/-- The sender's entry is refreshed (R38, R39). -/
def Station.refreshPeer (s : Station) (src : Nat) (role : Role) : Station :=
  if 29 < src then s else s.mapPeer src fun e => e.refresh role s.ms

/-- The duplicate-station fault (R178): the order unit takes DUPLICATE (R123), and a body claim not in flight ends the
phase BODY-CLAIM (R193). A second finding changes nothing further. -/
def Station.duplicateFault (s : Station) : Station :=
  if s.line.fault then s
  else
    let s1 := s.withLine { s.line with fault := true }
    let s2 := if s1.isCarriage then s1.duplicateOrder else s1
    if s2.start.phase = .bodyClaim && !s2.start.asking then s2.enterReady else s2

/-- A frame of kind `k` from `src` on the line: line watch, then the peer table, then `act` (R177). The own number is
the duplicate-station fault (R178), a sender that does not fit is counted (R176). -/
def Station.takeFrame (s : Station) (src : Nat) (role : Role) (k : FrameKind) (act : Station → Station) : Station :=
  if !senderFits src k then s.countBad
  else if src = s.par.station then (s.heardOther k).duplicateFault
  else act ((s.heardOther k).refreshPeer src role)

/-- A frame whose reception has ended; a station not on the line receives nothing (R173). -/
def Station.receive (s : Station) (src : Nat) (role : Role) (k : FrameKind) (act : Station → Station) : Station :=
  if s.onLine then s.fallQuiet.takeFrame src role k act else s.fallQuiet

end Sys2Proof.Machine
end

