-- ==== Sys2Proof/Machine/StartUp.lean ====
section
/-! DEFINITION. Start-up control (chapter 11): reset R188, reading the boot memory R189–R191, LISTEN-IN and BODY-CLAIM
R192, R193. -/

namespace Sys2Proof.Machine

/-! ## Reset (R188) -/

/-- Every block at its Defaults; the clock, the input levels and the boot memory are outside the part (log 5). A frame
cut off leaves the line quiet. -/
def Station.resetAll (s : Station) : Station :=
  { now := s.now
    inputs := if s.line.sending.isSome then { s.inputs with quietSince := some s.now } else s.inputs
    bootMem := s.bootMem }

/-! ## The boot blocks (R189, layout of 11.2) -/

/-- A block delivered in full, `n` bytes with its sum bytes, whose sum is right (R189). -/
def blockGood (l : List Byte) (n : Nat) : Bool :=
  l.length = n && sumBytes (l.take (n - 2)) = field l (n - 2) 2

/-- A valid mark: 1 for valid, 0 for not; another byte is a free value (log 7). -/
def validMark (n : Nat) : Bool := if n = 1 then true else if n = 0 then false else Config.validMarkOf n

/-- The kind byte of a line end. DESIGN CHOICE (log 7): 0 is BUFFER and 1 JOINED; 11.2 gives the byte and no code.
Another byte is a free value. -/
def endJoined (n : Nat) : Bool := if n = 1 then true else if n = 0 then false else Config.endJoinedOf n

/-- The kind byte of a segment. DESIGN CHOICE (log 7): 0 is PLAIN, 1 GUARD and 2 DECK, the order of R5; 11.2 gives the
byte and no code. Another byte is a free value. -/
def segKindOf (n : Nat) : SegKind :=
  let k : Fin 3 := if n = 0 then 0 else if n = 1 then 1 else if n = 2 then 2 else Config.segmentKindOf n
  match k with
  | 0 => .plain
  | 1 => .guard
  | 2 => .deck

def readEnd (l : List Byte) (i : Nat) : EndRec := ⟨endJoined (byteAt l i), byteAt l (i + 1), byteAt l (i + 2)⟩

def readLine (l : List Byte) (i : Nat) : LineSlot :=
  ⟨validMark (byteAt l i), signed24 (field l (i + 1) 3), signed24 (field l (i + 4) 3), readEnd l (i + 7), readEnd l (i + 10)⟩

/-- An arm byte: present, line and line end in bits 7, 6–4 and 0. DESIGN CHOICE (log 50): bit 0 set means HIGH. -/
def readArmRec (l : List Byte) (i : Nat) : ArmRec :=
  ⟨bitAt (byteAt l i) 7, byteAt l i / 16 % 8, bitAt (byteAt l i) 0⟩

def readTurntable (l : List Byte) (i : Nat) : TurntableSlot :=
  ⟨validMark (byteAt l i), field l (i + 1) 2, Vector.ofFn fun a : Fin 4 => readArmRec l (i + 3 + a)⟩

def readSegment (l : List Byte) (i : Nat) : SegmentSlot :=
  ⟨validMark (byteAt l i), segKindOf (byteAt l (i + 1)), byteAt l (i + 2), signed24 (field l (i + 3) 3),
   signed24 (field l (i + 6) 3), byteAt l (i + 9)⟩

def readPad (l : List Byte) (i : Nat) : PadSlot :=
  ⟨validMark (byteAt l i), byteAt l (i + 1), signed24 (field l (i + 2) 3), byteAt l (i + 5)⟩

def readMarker (l : List Byte) (i : Nat) : MarkerSlot :=
  ⟨validMark (byteAt l i), byteAt l (i + 1), signed24 (field l (i + 2) 3)⟩

/-- The map store after the map block, its pads and markers untouched. -/
def readMapBlock (l : List Byte) : TrackMap :=
  { lines := Vector.ofFn fun i : Fin 8 => readLine l (13 * i)
    turntables := Vector.ofFn fun i : Fin 4 => readTurntable l (104 + 7 * i)
    segments := Vector.ofFn fun i : Fin 128 => readSegment l (132 + 10 * i) }

def TrackMap.withPads (m : TrackMap) (l : List Byte) : TrackMap :=
  { m with pads := Vector.ofFn fun i : Fin 64 => readPad l (6 * i) }

def TrackMap.withMarkers (m : TrackMap) (l : List Byte) : TrackMap :=
  { m with markers := Vector.ofFn fun i : Fin 256 => readMarker l (5 * i) }

/-! ## Parameters (R190, and the rules it names) -/

/-- The debounce time brought up into 0, 2, 5 or 10 ms (R25). -/
def orderDebounce (n : Nat) : Nat := if n = 0 then 0 else if n ≤ 2 then 2 else if n ≤ 5 then 5 else 10

/-- L in range, then rounded down to even (R190). -/
def orderLength (n : Nat) : Nat := clampTo 2000 30000 n / 2 * 2

/-- The raw speeds S1 to S7. -/
def rawLadder (l : List Byte) : List Nat := (List.range 7).map fun k => field l (4 + 2 * k) 2

/-- The parameters as the block spells them (11.2). -/
def rawParams (l : List Byte) : Params :=
  { station := byteAt l 0, role := Role.ofCode (byteAt l 1), len := field l 2 2
    ladder := Vector.ofFn fun k : Fin 8 => ((0 :: rawLadder l)[k.val]?).getD 0
    aEmpty := field l 18 2, aLoaded := field l 20 2, tr := field l 22 2, margin := field l 24 2
    drift := byteAt l 26, debounce := byteAt l 27, scale := field l 28 2, dwell := field l 30 2, hold := byteAt l 32
    window := field l 33 2, beacon := field l 35 2, blockTime := field l 37 2, turntable := byteAt l 39
    entryTimeout := field l 40 2, exitTimeout := field l 42 2, rotationTimeout := byteAt l 44
    liftTimeout := field l 45 2, centring := field l 47 2 }

/-- The parameters brought into range (R190, R80, R81, R25, R100, R143, R153). -/
def Params.ordered (p : Params) : Params :=
  { p with
    len := orderLength p.len
    ladder := Vector.ofFn fun k : Fin 8 => ((orderLadder p.ladder.toList.tail)[k.val]?).getD 0
    aEmpty := clampTo 20 1000 p.aEmpty, aLoaded := clampTo 20 1000 p.aLoaded, tr := clampTo 50 2000 p.tr
    margin := clampTo 200 10000 p.margin, dwell := clampTo 200 3000 p.dwell, drift := clampTo 1 50 p.drift
    debounce := orderDebounce p.debounce, scale := clampTo 50 5000 p.scale, hold := clampTo 2 60 p.hold
    window := clampTo 100 1000 p.window, beacon := clampTo 250 2000 p.beacon
    blockTime := clampTo 30 600 p.blockTime, entryTimeout := clampTo 30 300 p.entryTimeout
    exitTimeout := clampTo 30 300 p.exitTimeout, rotationTimeout := clampTo 10 240 p.rotationTimeout
    liftTimeout := clampTo 30 600 p.liftTimeout, centring := clampTo 10 1000 p.centring }

/-- The parameter block is good, its station number 1–29 and its role code 0 or 1 (R189). -/
def paramsGood (l : List Byte) : Bool :=
  blockGood l 51 && 1 ≤ byteAt l 0 && byteAt l 0 ≤ 29 && byteAt l 1 ≤ 1

/-! ## The end of BOOT-READ (R189, R191) -/

/-- START-FAULT: the map tables `m` as they stood, every other block at its Defaults (R189; log 19). -/
def Station.startFault (s : Station) (m : TrackMap) : Station :=
  (s.resetAll.withMap m).withStart { phase := .startFault }

/-- The park record's ten bytes as the memory delivers them (log 6). -/
def Station.parkBytes (s : Station) (delivered : Bool) : Option (List Byte) :=
  if delivered then s.bootMem.readAll parkBase 10 else none

/-- The line and centre of a record that R35 accepts (R191). -/
def acceptedPark (m : TrackMap) (l : List Byte) : Option (Nat × Chainage) :=
  let line := byteAt l 2
  let centre := signed24 (field l 3 3)
  if sumBytes (l.take 8) = field l 8 2 && byteAt l 1 = 1 &&
     (m.line? line).any fun x => decide (x.low ≤ centre) && decide (centre ≤ x.high) then some (line, centre)
  else none

/-- What a carriage settles at the end of BOOT-READ: tables, position, load, lift, docking index (R189). The marker
latch stays idle. DESIGN CHOICE (log 53): a present signal that is active already is not settled until it changes. DESIGN
CHOICE (log 65): the lift takes its rest by R143, whatever LIFT-FAULT shows. -/
def Station.bootCarriage (s : Station) (parkDelivered : Bool) : Station :=
  let s1 := s.withEnv { s.env with
    emptyTable := stoppingTable s.par.ladder s.par.tr s.par.aEmpty
    loadedTable := stoppingTable s.par.ladder s.par.tr s.par.aLoaded }
  let s2 := match (s1.parkBytes parkDelivered).bind (acceptedPark s1.map) with
    | some (line, centre) =>
      (s1.withPos (s1.pos.reference line centre Config.uMin s1.par.drift)).withPark { s1.park with validOut := true }
    | none => s1
  let s3 := s2.withLift { s2.lift with
    state := s2.inputs.endState, load := if s2.inputs.loadSensed then .loaded else .empty }
  if s3.inputs.dockRaw then s3.indexChanged else s3

/-- The line interface comes into use in LISTEN-IN (R192; log 25 for the evaluation timers). -/
def Station.bringOnLine (s : Station) : Station :=
  let b := s.par.beacon
  let s1 := s.withLine { s.line with
    period := b, beaconTimer := some (s.ms + b), silenceTimer := if s.isCarriage then some (s.ms + 3 * b) else none }
  let s2 := if s.isCarriage then s1.withOrder { s1.order with evalTimer := some (s.ms + b) }
    else s1.withTt { s1.tt with evalTimer := some (s.ms + b) }
  s2.beaconFallsDue

/-- BOOT-READ ends without START-FAULT. -/
def Station.bootGood (s : Station) (p : Params) (m : TrackMap) (clamped parkDelivered : Bool) : Station :=
  let s1 := (s.withPar p).withMap m
  let s2 := if s1.isCarriage then s1.bootCarriage parkDelivered else s1
  (s2.withStart { s2.start with
    phase := .listenIn, clamped := clamped, listenEnd := some (s2.ms + 2 * p.beacon) }).bringOnLine

/-- The pads as the role takes them: tolerances in range, and for a carriage judged against its length (R8, R9). -/
def TrackMap.takePads (m : TrackMap) (p : Params) : TrackMap :=
  match p.role with
  | .carriage => m.clampPads.judgePads p.len
  | .turntable => m.clampPads

/-- The boot memory blocks have been read (R189, R190). The map checks follow the marker table. DESIGN CHOICE (log 19):
the pad tolerances are already brought into range in the store that START-FAULT keeps after a bad marker table or a map
fault. -/
def Station.bootRead (s : Station) (i : BootImage) : Station :=
  if !paramsGood i.parameters then s.startFault {}
  else
    let raw := rawParams i.parameters
    let p := raw.ordered
    if !blockGood i.mapBlock 1414 then s.startFault {}
    else
      let m1 := readMapBlock i.mapBlock
      if !blockGood i.pads 386 then s.startFault m1
      else
        let m2 := m1.withPads i.pads
        if !blockGood i.markers 1282 then s.startFault m2.clampPads
        else
          let m3 := m2.withMarkers i.markers
          if !m3.checks p then s.startFault m3.clampPads
          else s.bootGood p (m3.takePads p) (decide (raw ≠ p) || m3.padsClamped) i.parkDelivered

/-! ## LISTEN-IN and BODY-CLAIM (R192, R193) -/

/-- The segments under the guarded extent, DECK segments and segments HELD left out (R193). -/
def Station.startWanted (s : Station) : List Nat :=
  (s.touched.filter fun b => b.kind ≠ .deck && !s.claims.isHeld b.seg).map (·.seg)

/-- The body is asked for in BODY-CLAIM (R193). -/
def Station.askStart (s : Station) : Station :=
  if s.startWanted.isEmpty then s.enterReady
  else match s.claimGroup s.startWanted .body .startup with
    | (s1, .sent) => s1.withStart { s1.start with asking := true }
    | (s1, _) => s1.retryBodyClaim

/-- The end of LISTEN-IN (R192). The latch clears at the evaluation that follows (R95). -/
def Station.endListen (s : Station) : Station :=
  let s1 := s.withStart { s.start with listenEnd := none }
  if s1.isCarriage then
    if s1.pos.frame = .line && !s1.line.fault then
      (s1.withStart { s1.start with phase := .bodyClaim }).askStart
    else s1.enterReady
  else s1.readArm.enterReady

end Sys2Proof.Machine
end

