-- ==== Sys2Proof/Machine/Settle.lean ====
section
/-! DEFINITION. What follows a command: the blocks evaluate, each when one of its events has come (R89, R107, R130,
R140, R144, R157), in a fixed order until no block has an event left (log 3). -/

namespace Sys2Proof.Machine

/-- Evaluation events a command raises by itself, besides the changes it makes. -/
structure Events where
  order : Bool := false
  env : Bool := false
  tt : Bool := false
  deriving DecidableEq, Repr

/-- A valid frame is an event of the order unit and of the turntable unit (R177). -/
abbrev Events.frame : Events := { order := true, tt := true }

/-- Segments and states of the own list. -/
def Station.claimKey (s : Station) : List (Nat × ClaimState) := s.claims.entries.map fun e => (e.seg, e.state)

/-- What the envelope takes a change of as an event (R89; the latch, which clears at once at confirmed step 0, R95). -/
structure EnvKey where
  extent : Frame × Nat × Nat × Chainage × Nat × Dir
  claims : List (Nat × ClaimState)
  steps : Nat × Bool
  order : OrderState
  lift : LiftState × LoadState
  flags : Bool × Bool × Bool
  stop : Option Chainage
  appr : ApproachState × Nat
  pending : Option Dir
  phase : Phase
  latch : Bool
  deriving DecidableEq

def Station.envKey (s : Station) : EnvKey :=
  ⟨s.extentKey, s.claimKey, (s.inputs.confirmed, s.inputs.driveFault), s.order.state, (s.lift.state, s.lift.load),
   (s.pos.doubt, s.line.fault, s.silent), s.stopPoint, (s.appr.state, s.appr.attempts), s.env.pendingDir, s.start.phase,
   s.env.latch⟩

/-- What the order unit takes a change of as an event (R107; log 20 for the effective step). -/
structure OrderKey where
  extent : Frame × Nat × Nat × Chainage × Nat × Dir
  claims : List (Nat × ClaimState)
  order : OrderState
  appr : ApproachState
  effective : Nat
  deriving DecidableEq

def Station.orderKey (s : Station) : OrderKey := ⟨s.extentKey, s.claimKey, s.order.state, s.appr.state, s.effective⟩

/-- What the turntable unit takes a change of as an event (R157, R159). -/
def Station.ttKey (s : Station) : List (Nat × ClaimState) × Bool × Bool :=
  (s.claimKey, s.tt.releasePending, s.guardReleaseOpen)

/-- New extents turn AHEAD entries into BODY entries (R52). -/
def Station.extentEval (old s : Station) : Station := if old.extentKey = s.extentKey then s else s.aheadToBody

def Station.envRound (old s : Station) (ev : Events) : Station :=
  if ev.env || old.envKey ≠ s.envKey then s.envEval else s

def Station.orderRound (old s : Station) (ev : Events) : Station :=
  if ev.order || old.orderKey ≠ s.orderKey then s.orderEval else s

def Station.ttRound (old s : Station) (ev : Events) : Station :=
  if ev.tt || old.ttKey ≠ s.ttKey then s.ttEval else s

/-- One round: every block with an event since `old` evaluates once. -/
def Station.round (old s : Station) (ev : Events) : Station :=
  let s1 := if s.isCarriage then ((Station.extentEval old s).approachCheck).liftEval else s
  let s2 := Station.envRound old s1 ev
  let s3 := Station.orderRound old s2 ev
  let s4 := Station.ttRound old s3 ev
  let s5 := s4.offerReleases
  (if s5.isCarriage then s5.parkEval else s5).lineEval

/-- Nothing is left that a block would take as an event. -/
def settled (a b : Station) : Bool := a.envKey = b.envKey && a.orderKey = b.orderKey && a.ttKey = b.ttKey

/-- Rounds until nothing changes, at most `n` (log 3). -/
def Station.rounds : Nat → Station → Station → Events → Station
  | 0, _, s, _ => s
  | n + 1, old, s, ev =>
    let next := Station.round old s ev
    if settled s next then next else Station.rounds n s next {}

/-- The commanded step is left at or below what R90, R93 and R95 allow. -/
def Station.finalDrop (s : Station) : Station :=
  if s.driving then s.dropStep else s.withEnv { s.env with commanded := 0 }

/-- How many rounds a command may take (log 3). -/
def roundLimit : Nat := 8

/-- The part after the change from `old` to `s`. -/
def Station.settle (old s : Station) (ev : Events) : Station :=
  (if s.onLine then Station.rounds roundLimit old s ev else s).finalDrop

/-- A command: `dt` passes, `f` acts, and the blocks settle. -/
def State.react (s : State) (dt : Nat) (f : Station → Station × Events) : Outcome :=
  let old := s.station.advance dt
  .next { s with station := Station.settle old (f old).1 (f old).2 }

/-- A command whose events are known beforehand. -/
def State.reactWith (s : State) (dt : Nat) (ev : Events) (f : Station → Station) : Outcome :=
  s.react dt fun u => (f u, ev)

/-- A timer command: `f` acts when the timer `t` names has run out, and only time passes when it has not (log 2). -/
def State.onTimer (s : State) (dt : Nat) (t : Station → Option Nat) (ev : Events) (f : Station → Station) : Outcome :=
  s.react dt fun u => if u.onLine && dueAt (t u) u.ms then (f u, ev) else (u, {})

end Sys2Proof.Machine
end

