-- ==== Sys2Proof/Machine/FrameCommands.lean ====
section
/-! DEFINITION. Meanings of the frames received from peers, other than orders and passage frames (R176–R178, R39–R44,
R60, R61, R70, R73). -/

namespace Sys2Proof.Machine

/-- BAD_FRAME_RECEIVED: discarded and counted, when the bytes do fail a test (R176). -/
def execBadFrameReceived (dt : Nat) (bytes : List Byte) (s : State) : Outcome :=
  s.reactWith dt {} fun u =>
    if u.onLine && (WireFrame.decode bytes).isNone then u.fallQuiet.countBad else u.fallQuiet

/-- DUPLICATE_STATION_FRAME (R178). -/
def execDuplicateStationFrame (dt : Nat) (k : FrameKind) (s : State) : Outcome :=
  s.reactWith dt .frame fun u => u.receive u.par.station u.par.role k id

/-- CARRIAGE_BEACON_RECEIVED (R40, R73). -/
def execCarriageBeaconReceived (dt src : Nat) (b : CarriageBeacon) (s : State) : Outcome :=
  s.reactWith dt .frame fun u => u.receive src .carriage .beacon fun v =>
    (v.mapPeer src fun e => e.takeCarriage v.map b).beaconHolds src

/-- The passage side of a carriage reads the beacons of the station that serves its turntable (R169). -/
def Station.passageBeacon (s : Station) (src : Nat) (b : TurntableBeacon) : Station :=
  if s.isCarriage && s.servingStation s.passage.turntable = some src then s.servingBeacon b (s.peer src).period else s

/-- TURNTABLE_BEACON_RECEIVED (R41, R73, R169–R171). -/
def execTurntableBeaconReceived (dt src : Nat) (b : TurntableBeacon) (s : State) : Outcome :=
  s.reactWith dt .frame fun u => u.receive src .turntable .beacon fun v =>
    ((v.mapPeer src fun e => e.takeTurntable v.map b).beaconHolds src).passageBeacon src b

/-- CLAIM_RECEIVED (R42, R60). -/
def execClaimReceived (dt : Nat) (h : FrameHead) (seg tag : Nat) (rank : Rank) (s : State) : Outcome :=
  s.reactWith dt .frame fun u => u.receive h.src h.role .claim fun v =>
    let _ := tag
    (v.mapPeer h.src fun e => e.takeClaim v.map seg rank (v.ms + v.par.window)).answerClaim h.src seg rank

/-- OBJECT_RECEIVED (R43, R61, R73). -/
def execObjectReceived (dt : Nat) (h : FrameHead) (seg : Nat) (k : Objection) (rank : Rank) (claimant : Nat)
    (s : State) : Outcome :=
  s.reactWith dt .frame fun u => u.receive h.src h.role .object fun v =>
    (v.peerObject h.src seg k rank claimant).takeObject h.src seg k claimant

/-- RELEASE_RECEIVED (R44). -/
def execReleaseReceived (dt : Nat) (h : FrameHead) (segs : List Nat) (s : State) : Outcome :=
  s.reactWith dt .frame fun u => u.receive h.src h.role .release fun v =>
    v.mapPeer h.src fun e => e.takeRelease segs

/-- YIELD_ASK_RECEIVED (R44, R70). A backing that begins evaluates with the order unit (R129). -/
def execYieldAskReceived (dt : Nat) (h : FrameHead) (seg holder wait : Nat) (s : State) : Outcome :=
  s.reactWith dt .frame fun u => u.receive h.src h.role .yieldAsk fun v =>
    let w := v.mapPeer h.src fun e => { e with rank := ⟨wait, false⟩ }
    if holder = w.par.station then
      if w.validSeg seg then (w.takeYieldAsk h.src seg wait).1 else w.countBad
    else w

end Sys2Proof.Machine
end

