-- ==== Sys2Proof/Machine/LineCommands.lean ====
section
/-! DEFINITION. Meanings of the commands of the part's own line traffic and of the claim, peer, order and turntable
times (R42, R45, R59, R71, R107, R114, R157–R169, R179–R187). -/

namespace Sys2Proof.Machine

/-! ## The line (R179–R187) -/

/-- SEND_POINT_REACHED (R179, R183). -/
def execSendPointReached (dt : Nat) (s : State) : Outcome :=
  s.reactWith dt {} fun u => if u.onLine then u.sendHead else u

/-- The echo of the frame in flight is judged; nothing happens when none is in flight (R185). -/
def Station.judgeEcho (s : Station) (judge : Station → QueueItem → Station) : Station :=
  match s.line.sending, inFlight? s.line.queue with
  | some _, some x => judge s x
  | _, _ => s

/-- ECHO_GOOD (R185, R187). -/
def execEchoGood (dt : Nat) (s : State) : Outcome :=
  s.reactWith dt {} fun u => if u.onLine then u.judgeEcho Station.goodEcho else u

/-- ECHO_FAILED (R185, R187). -/
def execEchoFailed (dt : Nat) (s : State) : Outcome :=
  s.reactWith dt {} fun u => if u.onLine then u.judgeEcho Station.failedEcho else u

/-- BEACON_TIMER_EXPIRY (R186). -/
def execBeaconTimerExpiry (dt : Nat) (s : State) : Outcome :=
  s.onTimer dt (·.line.beaconTimer) {} Station.beaconExpired

/-- SILENCE_TIMER_EXPIRY (R187). -/
def execSilenceTimerExpiry (dt : Nat) (s : State) : Outcome :=
  s.onTimer dt (·.line.silenceTimer) {} fun u =>
    if u.isCarriage && u.line.state = .heard then u.lineSilent else u

/-- RECOVERY_TIMER_EXPIRY (R187). -/
def execRecoveryTimerExpiry (dt : Nat) (s : State) : Outcome :=
  s.onTimer dt (·.line.recoveryTimer) {} fun u =>
    if u.isCarriage && u.line.state = .recovering then u.lineRecover else u

/-- CARRIER_HEARD: the stretch of quiet ends (R179). -/
def execCarrierHeard (dt : Nat) (s : State) : Outcome :=
  s.reactWith dt {} fun u => u.withInputs { u.inputs with quietSince := none }

/-! ## Claims and peers (R42, R45, R59, R71) -/

/-- LISTEN_WINDOW_END (R59, R64, R68). -/
def execListenWindowEnd (dt seg : Nat) (s : State) : Outcome :=
  s.reactWith dt {} fun u => if u.onLine then u.endWindow seg else u

/-- HOLD_LIMIT_REACHED (R71). -/
def execHoldLimitReached (dt seg : Nat) (s : State) : Outcome :=
  s.reactWith dt {} fun u => if u.onLine then u.holdLimit seg else u

/-- The notes of an entry for `seg` that have expired go (R42). -/
def PeerEntry.expireNotes (e : PeerEntry) (seg now : Nat) : PeerEntry :=
  { e with notes := e.notes.filter fun n => !(n.seg = seg && n.expiry ≤ now) }

/-- PENDING_NOTE_EXPIRY (R42). -/
def execPendingNoteExpiry (dt station seg : Nat) (s : State) : Outcome :=
  s.reactWith dt {} fun u => if u.onLine then u.mapPeer station fun e => e.expireNotes seg u.ms else u

/-- An entry in state `from` that was last heard `k` periods ago moves on (R45). -/
def PeerEntry.age (e : PeerEntry) (k now : Nat) (old new : Freshness) : PeerEntry :=
  if e.state = old && e.lastHeard + k * e.agePeriod ≤ now then { e with state := new } else e

/-- PEER_STALE (R45). -/
def execPeerStale (dt station : Nat) (s : State) : Outcome :=
  s.reactWith dt {} fun u => if u.onLine then u.mapPeer station fun e => e.age 3 u.ms .fresh .stale else u

/-- PEER_LOST (R45). -/
def execPeerLost (dt station : Nat) (s : State) : Outcome :=
  s.reactWith dt {} fun u => if u.onLine then u.mapPeer station fun e => e.age 20 u.ms .stale .lost else u

/-! ## The order unit and the passage (R107, R114, R169) -/

/-- ORDER_EVALUATION_TIMER, in the carriage role (R107, R121). -/
def execOrderEvaluationTimer (dt : Nat) (s : State) : Outcome :=
  s.onTimer dt (·.order.evalTimer) { order := true } fun u =>
    if u.isCarriage then (u.withOrder { u.order with evalTimer := some (u.ms + u.par.beacon) }).retryBody else u

/-- The end of the block time of a WAITING order (R114). -/
def Station.blockEnd (s : Station) : Option Nat :=
  if s.order.state = .waiting then s.order.waitStart.map fun t => t + s.par.blockTime * 1000 else none

/-- BLOCK_TIME_EXPIRY (R114). -/
def execBlockTimeExpiry (dt : Nat) (s : State) : Outcome :=
  s.onTimer dt Station.blockEnd { order := true } fun u => u.withOrder { u.order with blocked := true }

/-- PASSAGE_RETRY_DUE, in the carriage role (R169). -/
def execPassageRetryDue (dt : Nat) (s : State) : Outcome :=
  s.onTimer dt (·.passage.retryDue) {} fun u => if u.isCarriage && u.passage.state = .asked then u.askAgain else u

/-! ## The turntable unit (R157, R158, R162, R164, R165) -/

/-- TURNTABLE_EVALUATION_TIMER (R157). -/
def execTurntableEvaluationTimer (dt : Nat) (s : State) : Outcome :=
  s.onTimer dt (·.tt.evalTimer) { tt := true } fun u => u.withTt { u.tt with evalTimer := some (u.ms + u.par.beacon) }

/-- GUARD_RETRY_TIME (R158). -/
def execGuardRetryTime (dt : Nat) (s : State) : Outcome :=
  s.onTimer dt (·.tt.retryTime) { tt := true } fun u => u.withTt { u.tt with retryTime := none }

/-- ENTRY_TIMER_EXPIRY (R162). -/
def execEntryTimerExpiry (dt : Nat) (s : State) : Outcome :=
  s.onTimer dt (·.tt.entryTimer) { tt := true } fun u => if u.tt.deck = .awaitEntry then u.entryExpired else u

/-- EXIT_TIMER_EXPIRY (R164). -/
def execExitTimerExpiry (dt : Nat) (s : State) : Outcome :=
  s.onTimer dt (·.tt.exitTimer) { tt := true } fun u =>
    if u.tt.deck = .awaitExit then u.withTt { u.tt with faultExit := true, exitTimer := none } else u

/-- ROTATION_TIMER_EXPIRY (R165). -/
def execRotationTimerExpiry (dt : Nat) (s : State) : Outcome :=
  s.onTimer dt (·.tt.rotationTimer) { tt := true } fun u => if u.tt.deck = .rotating then u.deckFault .timeout else u

end Sys2Proof.Machine
end

