-- ==== Sys2Proof/Machine/OrderCommands.lean ====
section
/-! DEFINITION. Meanings of the ORDER commands (R101–R105, R117–R124). -/

namespace Sys2Proof.Machine

/-- Every order is an event of the order unit, the envelope and the turntable unit. -/
abbrev Events.ofOrder : Events := { order := true, env := true, tt := true }

/-- An ORDER is taken when its target is this station or 0; number 0, and target 0 for a kind that may not go to every
station, are counted as bad (R101). -/
def Station.orderFor (s : Station) (o : OrderHead) (toAll : Bool) (act : Station → Station) : Station :=
  if o.target ≠ s.par.station && o.target ≠ 0 then s
  else if o.number = 0 || (o.target = 0 && !toAll) then s.countBad
  else act s

/-- The reception of an ORDER. -/
def State.takeOrder (s : State) (dt : Nat) (o : OrderHead) (toAll : Bool) (act : Station → Station) : Outcome :=
  s.reactWith dt .ofOrder fun u => u.receive o.src .carriage .order fun v => v.orderFor o toAll act

/-- A kind that a turntable does not act on is counted as bad there (R124). -/
def Station.carriageOnly (s : Station) (act : Station → Station) : Station := if s.isCarriage then act s else s.countBad

/-- By role. -/
def Station.byRole (s : Station) (carriage turntable : Station → Station) : Station :=
  if s.isCarriage then carriage s else turntable s

/-- ORDER_MOVE (R103). -/
def execOrderMove (dt : Nat) (o : OrderHead) (r : RouteOrder) (s : State) : Outcome :=
  s.takeOrder dt o false fun u => u.carriageOnly fun v => v.takeRoute .move o r

/-- ORDER_FETCH (R103). -/
def execOrderFetch (dt : Nat) (o : OrderHead) (r : RouteOrder) (s : State) : Outcome :=
  s.takeOrder dt o false fun u => u.carriageOnly fun v => v.takeRoute .fetch o r

/-- ORDER_PLACE (R103). -/
def execOrderPlace (dt : Nat) (o : OrderHead) (r : RouteOrder) (s : State) : Outcome :=
  s.takeOrder dt o false fun u => u.carriageOnly fun v => v.takeRoute .place o r

/-- The kind code is none of the eight, or may not be addressed to 0 (R101). -/
def badKind (o : OrderHead) (kind : Nat) : Bool :=
  o.number = 0 || kind = 0 || 8 < kind || (o.target = 0 && (kind ≤ 3 || kind = 7))

/-- ORDER_BAD_KIND (R101). -/
def execOrderBadKind (dt : Nat) (o : OrderHead) (kind : Nat) (s : State) : Outcome :=
  s.takeOrder dt o true fun u => if badKind o kind then u.countBad else u

/-- ORDER_HALT (R117, R124, R167). -/
def execOrderHalt (dt : Nat) (o : OrderHead) (s : State) : Outcome :=
  s.takeOrder dt o true fun u => u.byRole Station.takeHalt fun v => v.withTt { v.tt with grantHold := true }

/-- ORDER_RESUME (R119, R124, R166). -/
def execOrderResume (dt : Nat) (o : OrderHead) (s : State) : Outcome :=
  s.takeOrder dt o true fun u => u.byRole Station.takeResume Station.ttResume

/-- ORDER_CANCEL (R120); at a turntable it has no effect (R124). -/
def execOrderCancel (dt : Nat) (o : OrderHead) (s : State) : Outcome :=
  s.takeOrder dt o true fun u => u.byRole Station.takeCancel id

/-- ORDER_SET_POSITION (R121). -/
def execOrderSetPosition (dt : Nat) (o : OrderHead) (line : Nat) (chainage : Chainage) (uncertainty : Nat)
    (s : State) : Outcome :=
  s.takeOrder dt o false fun u => u.carriageOnly fun v => v.takeSetPosition o line chainage uncertainty

/-- Station `p`'s entry is emptied; the own number is left as it is (R47). -/
def Station.clearPeer (s : Station) (p : Nat) : Station := if p = s.par.station then s else s.setPeer p {}

/-- A CLEAR-PEER (R122, R156): the answer slot of a carriage, the request queue of a turntable. -/
def Station.takeClearPeer (s : Station) (o : OrderHead) (p : Nat) : Station :=
  if p = 0 || 29 < p then s.countBad
  else (s.clearPeer p).byRole (fun v => v.answer o .done .none 0) (fun v => v.unqueue p)

/-- ORDER_CLEAR_PEER (R122). -/
def execOrderClearPeer (dt : Nat) (o : OrderHead) (peer : Nat) (s : State) : Outcome :=
  s.takeOrder dt o true fun u => u.takeClearPeer o peer

end Sys2Proof.Machine
end

