-- ==== Sys2Proof/Machine/PassageCommands.lean ====
section
/-! DEFINITION. Meanings of the passage frames: TURN-ASK, TURN-ABOARD and TURN-CLEAR at a turntable (R155, R156,
R161–R164), TURN-ANSWER at a carriage (R169–R171). -/

namespace Sys2Proof.Machine

/-- A frame for the turntable unit, naming turntable `t` (R155). -/
def Station.atTurntable (s : Station) (t : Nat) (act : Station → Station) : Station :=
  if !s.isCarriage && t = s.par.turntable then act s else s

/-- TURN_ASK_RECEIVED (R155). -/
def execTurnAskReceived (dt : Nat) (h : FrameHead) (turntable entryArm exitArm : Nat) (s : State) : Outcome :=
  s.reactWith dt .frame fun u => u.receive h.src h.role .turnAsk fun v =>
    v.atTurntable turntable fun w => w.takeAskFrame h.src h.role entryArm exitArm

/-- TURN_ABOARD_RECEIVED (R161). -/
def execTurnAboardReceived (dt : Nat) (h : FrameHead) (turntable : Nat) (s : State) : Outcome :=
  s.reactWith dt .frame fun u => u.receive h.src h.role .turnAboard fun v =>
    v.atTurntable turntable fun w => w.takeAboardFrame h.src

/-- TURN_CLEAR_RECEIVED (R156, R162, R164). -/
def execTurnClearReceived (dt : Nat) (h : FrameHead) (turntable : Nat) (s : State) : Outcome :=
  s.reactWith dt .frame fun u => u.receive h.src h.role .turnClear fun v =>
    v.atTurntable turntable fun w => w.takeClearFrame h.src

/-- A TURN-ANSWER acts at the carriage it is addressed to (R177). -/
def State.takeAnswer (s : State) (dt : Nat) (h : FrameHead) (addressed : Nat) (act : Station → Station) : Outcome :=
  s.reactWith dt .frame fun u => u.receive h.src h.role .turnAnswer fun v =>
    if v.isCarriage && addressed = v.par.station then act v else v

/-- The sender serves the turntable of the passage, as its peer entry shows (R169). -/
def Station.servesPassage (s : Station) (src : Nat) : Bool :=
  (s.peer src).role = .turntable && (s.peer src).turntableId = s.passage.turntable

/-- No request stands that the answer could belong to: it is counted as bad (R169). -/
def Station.uncalledFor (s : Station) : Bool := s.passage.state = .none || s.passage.state = .asked

/-- TURN_ANSWER_GRANT (R169); one not wanted is answered with TURN-CLEAR (log 32). -/
def execTurnAnswerGrant (dt : Nat) (h : FrameHead) (addressed arm : Nat) (s : State) : Outcome :=
  s.takeAnswer dt h addressed fun v =>
    if v.passage.state = .asked && arm = v.passage.entryArm && v.servesPassage h.src then v.takeGrant
    else v.clearTo (v.peer h.src).turntableId

/-- TURN_ANSWER_EXIT (R171, R33; log 37). -/
def execTurnAnswerExit (dt : Nat) (h : FrameHead) (addressed arm : Nat) (s : State) : Outcome :=
  s.takeAnswer dt h addressed fun v =>
    if v.uncalledFor then v.countBad
    else if v.passage.state = .aboardSent || v.passage.state = .accepted then v.takeExit arm
    else v

/-- A refused request is asked again one announced period of the serving station later (R169). DESIGN CHOICE (log 77): the
period of the sender where no station is found serving. -/
def Station.setRetry (s : Station) (src : Nat) : Station :=
  if s.passage.state = .asked then
    let p := (s.servingStation s.passage.turntable).getD src
    s.withPassage { s.passage with retryDue := some (s.ms + (s.peer p).agePeriod) }
  else s

/-- TURN_ANSWER_REFUSED_FULL (R169). -/
def execTurnAnswerRefusedFull (dt : Nat) (h : FrameHead) (addressed arm : Nat) (s : State) : Outcome :=
  let _ := arm
  s.takeAnswer dt h addressed fun v => v.setRetry h.src

/-- TURN_ANSWER_FAULT (R169). -/
def execTurnAnswerFault (dt : Nat) (h : FrameHead) (addressed arm : Nat) (s : State) : Outcome :=
  let _ := arm
  s.takeAnswer dt h addressed fun v => v.setRetry h.src

/-- TURN_ANSWER_REVOKED (R170, R32), from any sender (log 43). In ACCEPTED and LEAVING it changes nothing (DESIGN
CHOICE, log 52). -/
def execTurnAnswerRevoked (dt : Nat) (h : FrameHead) (addressed arm : Nat) (s : State) : Outcome :=
  let _ := arm
  s.takeAnswer dt h addressed fun v =>
    if v.uncalledFor then v.countBad
    else if v.passage.state = .granted || v.passage.state = .aboardSent then v.takeRevoked
    else v

/-- TURN_ANSWER_NOT_CENTRED (R170, R32), from any sender (log 43). Outside ABOARD-SENT it changes nothing (DESIGN
CHOICE, log 52). -/
def execTurnAnswerNotCentred (dt : Nat) (h : FrameHead) (addressed arm : Nat) (s : State) : Outcome :=
  let _ := arm
  s.takeAnswer dt h addressed fun v =>
    if v.uncalledFor then v.countBad
    else if v.passage.state = .aboardSent then v.takeNotCentred
    else v

end Sys2Proof.Machine
end

