-- ==== Sys2Proof/Machine/PortCommands.lean ====
section
/-! DEFINITION. Meanings of the commands at the vehicle-side ports and the boot memory: rotation drive and deck
sensors, traction drive, marker reader, docking index, lift, park write (R21–R28, R91–R99, R139–R154, R159, R165, R191). -/

namespace Sys2Proof.Machine

/-! ## Turntable port (R154, R159, R165) -/

/-- ARM_ALIGNED_CHANGE (R154, R159). -/
def execArmAlignedChange (dt : Nat) (arm : Option Nat) (s : State) : Outcome :=
  s.reactWith dt { tt := true } fun u =>
    let v := u.withInputs { u.inputs with armAligned := arm }
    if v.turning then v.armReport arm else v

/-- ROTATION_FAULT_CHANGE (R165). -/
def execRotationFaultChange (dt : Nat) (active : Bool) (s : State) : Outcome :=
  s.reactWith dt { tt := true } fun u =>
    let v := u.withInputs { u.inputs with rotationFault := active }
    if v.turning && active && v.tt.deck = .rotating then v.deckFault .drive else v

/-- DECK_SENSOR_CHANGE (R154). -/
def execDeckSensorChange (dt : Nat) (occupied centred clear : Bool) (s : State) : Outcome :=
  s.reactWith dt { tt := true } fun u =>
    u.withInputs { u.inputs with deckOccupied := occupied, deckCentred := centred, deckClear := clear }

/-! ## Traction drive port (R21, R91, R92, R98, R99) -/

/-- The carriage-role blocks act from LISTEN-IN on (log 24). -/
def Station.carriageOn (s : Station) : Bool := s.onLine && s.isCarriage

/-- COUNT_REPORT (R21, R22). -/
def execCountReport (dt : Nat) (counts : Int) (s : State) : Outcome :=
  s.reactWith dt {} fun u => if u.carriageOn then u.takeCounts counts else u

/-- CONFIRMED_STEP_CHANGE: the input shows a step 0–7 (R92). -/
def execConfirmedStepChange (dt step : Nat) (s : State) : Outcome :=
  s.reactWith dt { env := true } fun u => u.withInputs { u.inputs with confirmed := min 7 step }

/-- STEP_DWELL_END (R91). -/
def execStepDwellEnd (dt : Nat) (s : State) : Outcome :=
  s.onTimer dt (fun u => u.env.lastRaise.map fun t => t + u.par.dwell) { env := true } id

/-- DRIVE_FAULT_CHANGE (R98). -/
def execDriveFaultChange (dt : Nat) (active : Bool) (s : State) : Outcome :=
  s.reactWith dt { env := true } fun u =>
    let v := u.withInputs { u.inputs with driveFault := active }
    if v.carriageOn && active && !u.inputs.driveFault then v.raiseEmergency.stopOrder .drive else v

/-- IN_POSITION_ACTIVE (R99, R140). -/
def execInPositionActive (dt : Nat) (s : State) : Outcome :=
  s.reactWith dt { env := true } fun u => if u.carriageOn then u.takeInPosition else u

/-! ## Docking index (R139) -/

/-- DOCKING_INDEX_CHANGE (R139). -/
def execDockingIndexChange (dt : Nat) (active : Bool) (s : State) : Outcome :=
  s.reactWith dt {} fun u =>
    let v := u.withInputs { u.inputs with dockRaw := active }
    if v.carriageOn && active != u.inputs.dockRaw then v.indexChanged else v

/-- DOCKING_DEBOUNCE_EXPIRY (R139). -/
def execDockingDebounceExpiry (dt : Nat) (s : State) : Outcome :=
  s.reactWith dt {} fun u => if u.carriageOn then u.indexSettled else u

/-! ## Marker reader (R25–R28) -/

def Station.setLatch (s : Station) (l : MarkerLatch) : Station := s.withPos { s.pos with latch := l }

/-- A number begins to settle; with a debounce time of 0 the report is taken at once (R25). -/
def Station.settleMarker (s : Station) (n : Nat) : Station :=
  if s.par.debounce = 0 then (s.setLatch (.taken none)).markerReport n
  else s.setLatch (.settling n (s.ms + s.par.debounce))

/-- The present signal, or the number presented, changes (the table of R25). -/
def Station.markerChange (s : Station) (present : Bool) (n : Nat) : Station :=
  match s.pos.latch with
  | .idle => if present then s.settleMarker n else s
  | .settling m _ =>
    if !present then s.setLatch .idle
    else if n = m then s else s.settleMarker n
  | .taken due =>
    if present then s.setLatch (.taken none)
    else if s.par.debounce = 0 then s.setLatch .idle
    else if due.isSome then s else s.setLatch (.taken (some (s.ms + s.par.debounce)))

/-- The debounce timer runs out (R25). -/
def Station.markerSettled (s : Station) : Station :=
  match s.pos.latch with
  | .settling n due => if due ≤ s.ms then (s.setLatch (.taken none)).markerReport n else s
  | .taken due => if dueAt due s.ms then s.setLatch .idle else s
  | .idle => s

/-- MARKER_PRESENT_CHANGE (R25). The latch takes changes from LISTEN-IN on; what was active before waits for the next
change (DESIGN CHOICE, log 53). -/
def execMarkerPresentChange (dt : Nat) (present : Bool) (n : Nat) (s : State) : Outcome :=
  s.reactWith dt {} fun u =>
    let v := u.withInputs { u.inputs with markerPresent := present, markerNumber := n }
    if v.carriageOn then v.markerChange present n else v

/-- MARKER_DEBOUNCE_EXPIRY (R25). -/
def execMarkerDebounceExpiry (dt : Nat) (s : State) : Outcome :=
  s.reactWith dt {} fun u => if u.carriageOn then u.markerSettled else u

/-! ## Lift port (R143–R149) -/

/-- AT_TOP_CHANGE (R145, R148, R149). -/
def execAtTopChange (dt : Nat) (active loadSensed : Bool) (s : State) : Outcome :=
  s.reactWith dt {} fun u =>
    let v := u.withInputs { u.inputs with atTop := active, loadSensed := loadSensed }
    v.liftInput fun w => if active && !u.inputs.atTop then w.reachTop else w

/-- AT_BOTTOM_CHANGE (R146, R148, R149). -/
def execAtBottomChange (dt : Nat) (active loadSensed : Bool) (s : State) : Outcome :=
  s.reactWith dt {} fun u =>
    let v := u.withInputs { u.inputs with atBottom := active, loadSensed := loadSensed }
    v.liftInput fun w => if active && !u.inputs.atBottom then w.reachBottom else w

/-- LIFT_FAULT_CHANGE (R149). -/
def execLiftFaultChange (dt : Nat) (active : Bool) (s : State) : Outcome :=
  s.reactWith dt {} fun u =>
    let v := u.withInputs { u.inputs with liftFault := active }
    v.liftInput fun w => if active && !u.inputs.liftFault then w.faultLift else w

/-- LIFT_TIMEOUT (R149). -/
def execLiftTimeout (dt : Nat) (s : State) : Outcome :=
  s.onTimer dt (·.lift.timer) {} fun u => if u.isCarriage && u.lift.state.travelling then u.faultLift else u

/-! ## Park write (R152, R191) -/

/-- The write in flight is complete: byte 0 CLOSED, and the pending request begins (R152, R191). -/
def Station.writeComplete (s : Station) : Station :=
  match s.park.inFlight with
  | none => s
  | some _ =>
    let s1 := s.withBootMem (s.bootMem.write parkBase 2#8)
    match s.park.waiting with
    | some r => (s1.withPark { s1.park with inFlight := none, waiting := none }).beginWrite r
    | none => s1.withPark { s1.park with inFlight := none }

/-- PARK_WRITE_COMPLETE (R152, R191). -/
def execParkWriteComplete (dt : Nat) (s : State) : Outcome := s.reactWith dt {} Station.writeComplete

end Sys2Proof.Machine
end

