-- ==== Sys2Proof/Machine/StartCommands.lean ====
section
/-! DEFINITION. Meanings of the start-up commands (R188–R193). -/

namespace Sys2Proof.Machine

/-- RESET_ASSERTED (R188). -/
def execResetAsserted (dt : Nat) (s : State) : Outcome := s.reactWith dt {} Station.resetAll

/-- RESET_RELEASED: the start phase becomes BOOT-READ (R188). -/
def execResetReleased (dt : Nat) (s : State) : Outcome :=
  s.reactWith dt {} fun u =>
    if u.start.phase = .reset then u.withStart { u.start with phase := .bootRead } else u

/-- BOOT_READ_COMPLETE (R189, R190). -/
def execBootReadComplete (dt : Nat) (i : BootImage) (loadSensed : Bool) (s : State) : Outcome :=
  s.reactWith dt {} fun u =>
    let u1 := u.withInputs { u.inputs with loadSensed := loadSensed }
    if u1.start.phase = .bootRead then u1.bootRead i else u1

/-- LISTEN_IN_END (R192). -/
def execListenInEnd (dt : Nat) (s : State) : Outcome :=
  s.onTimer dt (·.start.listenEnd) { order := true, env := true, tt := true } fun u =>
    if u.start.phase = .listenIn then u.endListen else u

/-- BODY_CLAIM_RETRY (R193). -/
def execBodyClaimRetry (dt : Nat) (s : State) : Outcome :=
  s.onTimer dt (·.start.retryAt) {} fun u =>
    if u.start.phase = .bodyClaim then (u.withStart { u.start with retryAt := none }).askStart else u

end Sys2Proof.Machine
end

