-- ==== Sys2Proof/Machine/Dispatch.lean ====
section
/-! DEFINITION. The meaning of every command, one arm per constructor. -/

namespace Sys2Proof.Machine

def exec (i : Instr) (s : State) : Host.Outcome State Fault Refusal :=
  match i with
  | .resetAsserted dt => Sys2Proof.Machine.execResetAsserted dt s
  | .resetReleased dt => Sys2Proof.Machine.execResetReleased dt s
  | .bootReadComplete dt image loadSensed => Sys2Proof.Machine.execBootReadComplete dt image loadSensed s
  | .listenInEnd dt => Sys2Proof.Machine.execListenInEnd dt s
  | .bodyClaimRetry dt => Sys2Proof.Machine.execBodyClaimRetry dt s
  | .badFrameReceived dt bytes => Sys2Proof.Machine.execBadFrameReceived dt bytes s
  | .duplicateStationFrame dt kind => Sys2Proof.Machine.execDuplicateStationFrame dt kind s
  | .carriageBeaconReceived dt src b => Sys2Proof.Machine.execCarriageBeaconReceived dt src b s
  | .turntableBeaconReceived dt src b => Sys2Proof.Machine.execTurntableBeaconReceived dt src b s
  | .claimReceived dt h seg tag rank => Sys2Proof.Machine.execClaimReceived dt h seg tag rank s
  | .objectReceived dt h seg kind rank claimant => Sys2Proof.Machine.execObjectReceived dt h seg kind rank claimant s
  | .releaseReceived dt h segs => Sys2Proof.Machine.execReleaseReceived dt h segs s
  | .yieldAskReceived dt h seg holder wait => Sys2Proof.Machine.execYieldAskReceived dt h seg holder wait s
  | .orderMove dt o r => Sys2Proof.Machine.execOrderMove dt o r s
  | .orderFetch dt o r => Sys2Proof.Machine.execOrderFetch dt o r s
  | .orderPlace dt o r => Sys2Proof.Machine.execOrderPlace dt o r s
  | .orderBadKind dt o kind => Sys2Proof.Machine.execOrderBadKind dt o kind s
  | .orderHalt dt o => Sys2Proof.Machine.execOrderHalt dt o s
  | .orderResume dt o => Sys2Proof.Machine.execOrderResume dt o s
  | .orderCancel dt o => Sys2Proof.Machine.execOrderCancel dt o s
  | .orderSetPosition dt o line chainage uncertainty => Sys2Proof.Machine.execOrderSetPosition dt o line chainage uncertainty s
  | .orderClearPeer dt o peer => Sys2Proof.Machine.execOrderClearPeer dt o peer s
  | .turnAskReceived dt h turntable entryArm exitArm => Sys2Proof.Machine.execTurnAskReceived dt h turntable entryArm exitArm s
  | .turnAboardReceived dt h turntable => Sys2Proof.Machine.execTurnAboardReceived dt h turntable s
  | .turnClearReceived dt h turntable => Sys2Proof.Machine.execTurnClearReceived dt h turntable s
  | .turnAnswerGrant dt h addressed arm => Sys2Proof.Machine.execTurnAnswerGrant dt h addressed arm s
  | .turnAnswerExit dt h addressed arm => Sys2Proof.Machine.execTurnAnswerExit dt h addressed arm s
  | .turnAnswerRefusedFull dt h addressed arm => Sys2Proof.Machine.execTurnAnswerRefusedFull dt h addressed arm s
  | .turnAnswerFault dt h addressed arm => Sys2Proof.Machine.execTurnAnswerFault dt h addressed arm s
  | .turnAnswerRevoked dt h addressed arm => Sys2Proof.Machine.execTurnAnswerRevoked dt h addressed arm s
  | .turnAnswerNotCentred dt h addressed arm => Sys2Proof.Machine.execTurnAnswerNotCentred dt h addressed arm s
  | .sendPointReached dt => Sys2Proof.Machine.execSendPointReached dt s
  | .echoGood dt => Sys2Proof.Machine.execEchoGood dt s
  | .echoFailed dt => Sys2Proof.Machine.execEchoFailed dt s
  | .beaconTimerExpiry dt => Sys2Proof.Machine.execBeaconTimerExpiry dt s
  | .silenceTimerExpiry dt => Sys2Proof.Machine.execSilenceTimerExpiry dt s
  | .recoveryTimerExpiry dt => Sys2Proof.Machine.execRecoveryTimerExpiry dt s
  | .listenWindowEnd dt seg => Sys2Proof.Machine.execListenWindowEnd dt seg s
  | .holdLimitReached dt seg => Sys2Proof.Machine.execHoldLimitReached dt seg s
  | .pendingNoteExpiry dt station seg => Sys2Proof.Machine.execPendingNoteExpiry dt station seg s
  | .peerStale dt station => Sys2Proof.Machine.execPeerStale dt station s
  | .peerLost dt station => Sys2Proof.Machine.execPeerLost dt station s
  | .orderEvaluationTimer dt => Sys2Proof.Machine.execOrderEvaluationTimer dt s
  | .blockTimeExpiry dt => Sys2Proof.Machine.execBlockTimeExpiry dt s
  | .passageRetryDue dt => Sys2Proof.Machine.execPassageRetryDue dt s
  | .turntableEvaluationTimer dt => Sys2Proof.Machine.execTurntableEvaluationTimer dt s
  | .guardRetryTime dt => Sys2Proof.Machine.execGuardRetryTime dt s
  | .entryTimerExpiry dt => Sys2Proof.Machine.execEntryTimerExpiry dt s
  | .exitTimerExpiry dt => Sys2Proof.Machine.execExitTimerExpiry dt s
  | .rotationTimerExpiry dt => Sys2Proof.Machine.execRotationTimerExpiry dt s
  | .armAlignedChange dt arm => Sys2Proof.Machine.execArmAlignedChange dt arm s
  | .rotationFaultChange dt active => Sys2Proof.Machine.execRotationFaultChange dt active s
  | .deckSensorChange dt occupied centred clear => Sys2Proof.Machine.execDeckSensorChange dt occupied centred clear s
  | .countReport dt counts => Sys2Proof.Machine.execCountReport dt counts s
  | .confirmedStepChange dt step => Sys2Proof.Machine.execConfirmedStepChange dt step s
  | .stepDwellEnd dt => Sys2Proof.Machine.execStepDwellEnd dt s
  | .driveFaultChange dt active => Sys2Proof.Machine.execDriveFaultChange dt active s
  | .inPositionActive dt => Sys2Proof.Machine.execInPositionActive dt s
  | .dockingIndexChange dt active => Sys2Proof.Machine.execDockingIndexChange dt active s
  | .dockingDebounceExpiry dt => Sys2Proof.Machine.execDockingDebounceExpiry dt s
  | .markerPresentChange dt present number => Sys2Proof.Machine.execMarkerPresentChange dt present number s
  | .markerDebounceExpiry dt => Sys2Proof.Machine.execMarkerDebounceExpiry dt s
  | .atTopChange dt active loadSensed => Sys2Proof.Machine.execAtTopChange dt active loadSensed s
  | .atBottomChange dt active loadSensed => Sys2Proof.Machine.execAtBottomChange dt active loadSensed s
  | .liftFaultChange dt active => Sys2Proof.Machine.execLiftFaultChange dt active s
  | .liftTimeout dt => Sys2Proof.Machine.execLiftTimeout dt s
  | .parkWriteComplete dt => Sys2Proof.Machine.execParkWriteComplete dt s
  | .carrierHeard dt => Sys2Proof.Machine.execCarrierHeard dt s

end Sys2Proof.Machine
end

