-- ==== Sys2Proof/Machine/Outputs.lean ====
section
/-! DEFINITION. The outputs of the part, functions of its state (R97, R99, R143, R154, R188). -/

namespace Sys2Proof.Machine

/-- The traction drive port (R97). -/
structure TractionOutputs where
  dir : Dir
  step : Nat
  brake : Bool
  emergency : Bool
  finalPosition : Option Int
  deriving DecidableEq, Repr

/-- The remaining distance to the stop point, signed against the direction of travel (R99). -/
def Station.finalDemand (s : Station) : Option Int :=
  s.env.finalStop.map fun x => match s.pos.dir with
    | .up => x - s.pos.centre
    | .down => s.pos.centre - x

/-- The traction outputs, held until the end of LISTEN-IN and in START-FAULT (R97, R188). DESIGN CHOICE (log 93): from the
end of LISTEN-IN on the brake demand follows the effective step, with the latch still set too. -/
def Station.tractionOutputs (s : Station) : TractionOutputs :=
  if s.driving then ⟨s.pos.dir, s.env.commanded, s.brake, s.env.latch, s.finalDemand⟩
  else ⟨s.pos.dir, 0, true, true, none⟩

/-- The lift output; none set is off (R143). -/
inductive LiftOutput where
  | off | raise | lower | stop
  deriving DecidableEq, Repr

def Station.liftOutput (s : Station) : LiftOutput :=
  if s.driving then
    match s.lift.state with
    | .lowered | .raised => .off
    | .raising => .raise
    | .lowering => .lower
    | .stoppedMid | .fault => .stop
  else .off

/-- The run demand, with the target arm while it is set (R154). -/
def Station.rotationOutput (s : Station) : Option Nat :=
  if s.turning && s.tt.deck = .rotating then s.tt.target else none

/-- The fault output (R188). -/
def Station.faultOutput (s : Station) : Bool := s.start.phase = .startFault

end Sys2Proof.Machine
end

