-- ==== Sys2Proof/Safety.lean ====
section
/-! DEFINITION. What a safe run is, and the words the claims about the part use: what the evaluations after a command
leave alone, the sizes every list and count keeps, and when the carriage may move and the deck may turn. -/

namespace Sys2Proof.Machine

/-! ## The parts of a command -/

/-- The part once the `dt` µs before a command have passed. -/
def State.old (s : State) (dt : Nat) : Station := s.station.advance dt

/-- The state that the evaluations leave when a command has changed the part to `u` with events `ev` (log 3). -/
def State.settled (s : State) (dt : Nat) (u : Station) (ev : Events) : State :=
  { s with station := Station.settle (s.old dt) u ev }

/-- The part after the line watch and the refresh of the sender's entry, before a block acts on the frame (R39, R177). -/
def Station.heard (s : Station) (src : Nat) (role : Role) (k : FrameKind) : Station :=
  (s.fallQuiet.heardOther k).refreshPeer src role

/-- A track station other than the own one sends, and the part is on the line. -/
def State.hears (s : State) (src : Nat) : Prop :=
  s.station.onLine = true ∧ 1 ≤ src ∧ src ≤ 29 ∧ src ≠ s.station.par.station

/-- An operations station addresses an ORDER with a number to this station alone, and the part is on the line. -/
def State.ordered (s : State) (o : OrderHead) : Prop :=
  s.station.onLine = true ∧ (o.src = 30 ∨ o.src = 31) ∧ o.target = s.station.par.station ∧ 1 ≤ o.target ∧ o.target ≤ 29 ∧
  o.number ≠ 0

/-- An operations station addresses an ORDER with a number to this station or to every station (R101). -/
def State.orderedToAny (s : State) (o : OrderHead) : Prop :=
  s.station.onLine = true ∧ (o.src = 30 ∨ o.src = 31) ∧ (o.target = s.station.par.station ∨ o.target = 0) ∧
  s.station.par.station ≤ 29 ∧ o.number ≠ 0

/-- The frame stands in the transmit queue. -/
def Station.queues (s : Station) (f : OutFrame) : Prop := ∃ x ∈ s.line.queue, x.frame = f

/-- From `v` to `u` the entry for `seg` was released: it is out of the list, its stamp set, its RELEASE owed or in the
queue (R66, R67). -/
def Station.released (v u : Station) (seg : Nat) : Prop :=
  u.claims.lists seg = false ∧
  (seg < 128 → u.claims.stamps[seg]? = some (some v.ms) ∧
    (u.claims.owed[seg]? = some true ∨ ∃ segs, u.queues (.release segs) ∧ seg ∈ segs))

/-! ## What evaluations leave alone -/

/-- The part with every field at its Default that the evaluations after a command may change. -/
def Station.steady (s : Station) : Station :=
  { now := s.now, inputs := s.inputs, par := s.par, map := s.map, peers := s.peers, index := s.index
    start := { clamped := s.start.clamped, listenEnd := s.start.listenEnd }
    pos := { s.pos with frame := .unknown, deckTurntable := 0, entryArm := 0, dir := .up }
    env := { emptyTable := s.env.emptyTable, loadedTable := s.env.loadedTable }
    order := { number := s.order.number, kind := s.order.kind, target := s.order.target, line := s.order.line
               chainage := s.order.chainage, route := s.order.route, cursor := s.order.cursor
               origin := s.order.origin, answer := s.order.answer, evalTimer := s.order.evalTimer }
    lift := { load := s.lift.load }
    tt := { grantHold := s.tt.grantHold, evalTimer := s.tt.evalTimer }
    line := { s.line with queue := [], period := 0, beaconDue := false, beaconTimer := none } }

/-! ## Sizes (R37, R38, R51, R55, R125, R155, R173, R181, R18, R79) -/

/-- A peer entry keeps its lists within 8 places (R37, R38). -/
def PeerEntry.bounded (e : PeerEntry) : Prop := e.held.length ≤ 8 ∧ e.notes.length ≤ 8 ∧ e.queue.length ≤ 8

/-- The own claim list: at most 8 entries and never two for one segment (R51); the wait count at most 15 (R55). -/
def ClaimBlock.bounded (c : ClaimBlock) : Prop :=
  c.entries.length ≤ 8 ∧ (c.entries.map (·.seg)).Nodup ∧ c.waitCount ≤ 15

/-- The request queue: at most 8 entries, never one station twice, and never the deck holder (R155). -/
def Turntable.bounded (t : Turntable) : Prop :=
  t.queue.length ≤ 8 ∧ (t.queue.map (·.station)).Nodup ∧ ∀ h, t.holder = some h → h.station ∉ t.queue.map (·.station)

/-- The transmit queue: at most 8 frames, PROMPT ones before ROUTINE ones (R181), and at most one beacon (R183). -/
def LineIf.queueBounded (l : LineIf) : Prop :=
  l.queue.length ≤ 8 ∧ l.queue = l.queue.filter (·.prompt) ++ l.queue.filter (fun x => !x.prompt) ∧
  (l.queue.filter (·.isBeacon)).length ≤ 1

/-- Every list and count of the part lies within the size the spec gives it, and the model's own list of what SET-POSITION
owes (log 18) names no segment twice, so that a claim made from it does not either (R51, R121). -/
structure Station.bounded (s : Station) : Prop where
  claims : s.claims.bounded
  owed : s.order.bodyOwed.Nodup
  peers : ∀ i : Fin 29, PeerEntry.bounded s.peers[i]
  queue : s.line.queueBounded
  counts : s.line.badCount ≤ 255 ∧ s.line.resendCount ≤ 255
  trail : s.trail.length ≤ 8
  requests : s.tt.bounded

/-! ## Figures (R18, R23, R82, R190) -/

/-- Neither stopping table falls as the step rises (R82). -/
def Envelope.tablesRise (e : Envelope) : Prop :=
  ∀ i j : Fin 8, i ≤ j → e.emptyTable[i] ≤ e.emptyTable[j] ∧ e.loadedTable[i] ≤ e.loadedTable[j]

/-- The uncertainty lies in 10–2000 mm, and is 2000 mm in frame UNKNOWN (R18, R23); the centring tolerance that may
become U_ref is in its range (R33, R190); the stopping tables rise with the step (R82). -/
structure Station.figures (s : Station) : Prop where
  u : 10 ≤ s.pos.u ∧ s.pos.u ≤ 2000
  uRef : 10 ≤ s.pos.uRef ∧ s.pos.uRef ≤ 2000
  unknown : s.pos.frame = .unknown → s.pos.u = 2000
  centring : 10 ≤ s.par.centring ∧ s.par.centring ≤ 1000
  tables : s.env.tablesRise

/-! ## When the carriage may move (R86, R88, R90, R93, R95) -/

/-- While the commanded step is above 0: the envelope is in use, no emergency and no turn of direction stands, and the
command is at or below the permitted step. -/
def Station.moveSafe (s : Station) : Prop :=
  0 < s.env.commanded → s.driving = true ∧ s.env.latch = false ∧ s.env.pendingDir = none ∧ s.env.commanded ≤ s.permitted

/-! ## When the deck may turn (R159) -/

/-- A turntable's own claims are guards, none of them being given up; nothing is claimed before LISTEN-IN; and a deck
that rotates does so in READY with every GUARD segment HELD. -/
structure Station.turnSafe (s : Station) : Prop where
  guardsOnly : s.par.role = .turntable → s.start.phase ≠ .bodyClaim ∧
    ∀ e ∈ s.claims.entries, e.purpose = .guard ∧ e.state ≠ .yielding ∧ e.pendingYield = none
  noneYet : s.start.phase = .reset ∨ s.start.phase = .bootRead ∨ s.start.phase = .startFault → s.claims.entries = []
  rotating : s.tt.deck = .rotating → s.turning = true ∧ s.guardsHeld = true

/-- A safe state: sizes kept, figures in their ranges, the carriage moves only as its envelope permits, the deck turns only
with its guards. -/
structure State.safe (s : State) : Prop where
  sizes : s.station.bounded
  figures : s.station.figures
  moves : s.station.moveSafe
  turns : s.station.turnSafe

end Sys2Proof.Machine
end

