-- ==== Sys2Proof/Certificates/Slice0/Obligations.lean ====
section
/-! DEFINITION. The statements for the provers. `s.old dt` is the part once the time before the command has passed;
`s.settled dt u ev` is the state in which the blocks have evaluated after a command changed the part to `u` (log 3). -/

open Sys2Proof Sys2Proof.Machine

/-! ## The machine -/

/-- A step runs the command at the front of the queue on the state with the queue's rest; on an empty queue the part
idles (the model's choice, log 23). -/
def Obligations.StepTakesFrontCommand : Prop :=
  (∀ (s : State) (c : Instr) (rest : List Instr),
    step { s with pending := c :: rest } = exec c { s with pending := rest }) ∧
  ∀ s : State, s.pending = [] → step s = .next s

/-- Every command of the table completes in every state, and no command touches the queue of commands that wait. -/
def Obligations.EveryCommandCompletes : Prop :=
  ∀ (c : Instr) (s : State), ∃ u : Station, exec c s = .next { s with station := u }

/-! ## Start-up (chapter 11) -/

/-- What reset leaves, by the Defaults of the field tables and R188: every block empty and at rest, the emergency latch
set, the deck in FAULT with NO-ARM, the outputs held. -/
def Obligations.ResetStateHoldsDefaults : Prop :=
  State.reset.pending = [] ∧
  let u := State.reset.station
  u.start.phase = .reset ∧ u.start.clamped = false ∧ u.start.retryMark = false ∧
  u.pos.frame = .unknown ∧ u.pos.u = 2000 ∧ u.pos.uRef = 2000 ∧ u.pos.dir = .up ∧ u.pos.doubt = false ∧
  u.pos.latch = .idle ∧ (∀ n, u.peer n = {}) ∧ (u.peer 1).state = .absent ∧ (u.peer 1).period = 8000 ∧
  u.claims.entries = [] ∧ u.claims.waitCount = 0 ∧ u.claims.deckReserve = false ∧ u.claims.nextTag = 1 ∧
  u.env.commanded = 0 ∧ u.env.lastRaise = none ∧ u.env.latch = true ∧ u.env.pendingDir = none ∧
  u.order.number = 0 ∧ u.order.state = .idle ∧ u.order.reason = .none ∧ u.order.cursor = 0 ∧ u.order.answer = none ∧
  u.trail = [] ∧ u.backing = none ∧ u.appr.state = .none ∧ u.appr.docked = false ∧ u.index.reading = .inactive ∧
  u.lift.state = .fault ∧ u.lift.operation = .none ∧ u.lift.load = .empty ∧
  u.park.inFlight = none ∧ u.park.waiting = none ∧
  u.tt.deck = .fault ∧ u.tt.reason = .noArm ∧ u.tt.holder = none ∧ u.tt.queue = [] ∧ u.tt.grantHold = false ∧
  u.passage.state = .none ∧
  u.line.queue = [] ∧ u.line.badCount = 0 ∧ u.line.resendCount = 0 ∧ u.line.state = .heard ∧ u.line.fault = false ∧
  u.line.courtesy = false ∧
  u.tractionOutputs = ⟨.up, 0, true, true, none⟩ ∧ u.liftOutput = .off ∧ u.rotationOutput = none ∧ u.faultOutput = false

/-- RESET_ASSERTED returns every block to its Defaults in any phase; RESET_RELEASED begins BOOT-READ (R188). That the
clock, the input levels and the boot memory are kept as lying outside the part (log 5), and that a reset that cuts off
the own frame ends the carrier (log 9), are the model's choices. -/
def Obligations.ResetCommandsRestoreDefaults : Prop :=
  (∀ (dt : Nat) (s : State), exec (.resetAsserted dt) s = .next { s with station := {
    now := (s.old dt).now, bootMem := s.station.bootMem
    inputs := if s.station.line.sending.isSome then { s.station.inputs with quietSince := some (s.old dt).now }
      else s.station.inputs } }) ∧
  ∀ (dt : Nat) (s : State), s.station.start.phase = .reset →
    exec (.resetReleased dt) s = .next { s with station :=
      ((s.old dt).withStart { s.station.start with phase := .bootRead }).withEnv { s.station.env with commanded := 0 } }

/-- BOOT_READ_COMPLETE with every block good and no map fault: the parameters in range, the map as the role takes it,
the CLAMPED flag, phase LISTEN-IN for 2B with a beacon due at once and its timer at B; in the carriage role the stopping
tables, the load state, the rest the end inputs show, the docking index, the silence timer at 3B, and the position of an
accepted park record, or the position as it was (R189, R190, R35, R82, R139, R143, R150, R192). The model's choices: an
index input that is active already settles as a change does (log 46), a marker that is present already leaves the latch
as it was (log 53), and the lift takes its rest whatever LIFT-FAULT shows (log 65). -/
def Obligations.BootReadEndsInListenIn : Prop :=
  ∀ (dt : Nat) (i : BootImage) (loadSensed : Bool) (s : State),
    let raw := rawParams i.parameters
    let p := raw.ordered
    let m := ((readMapBlock i.mapBlock).withPads i.pads).withMarkers i.markers
    s.station.start.phase = .bootRead → paramsGood i.parameters = true → blockGood i.mapBlock 1414 = true →
    blockGood i.pads 386 = true → blockGood i.markers 1282 = true → m.checks p = true →
    let now := (s.old dt).ms
    let u := ((s.old dt).withInputs { s.station.inputs with loadSensed := loadSensed }).bootRead i
    ∃ t : State, exec (.bootReadComplete dt i loadSensed) s = .next t ∧ t = s.settled dt u {} ∧
      t.station.start.phase = .listenIn ∧ t.station.start.listenEnd = some (now + 2 * p.beacon) ∧
      t.station.start.clamped = (decide (raw ≠ p) || m.padsClamped) ∧
      t.station.par = p ∧ t.station.map = m.takePads p ∧ t.station.peers = s.station.peers ∧
      u.line.period = p.beacon ∧ u.line.beaconTimer = some (now + p.beacon) ∧
      (u.line.beaconDue = true ∨ u.queues .beacon) ∧
      (p.role = .turntable → t.station.line.silenceTimer = none ∧ u.pos = s.station.pos) ∧
      (p.role = .carriage →
        t.station.line.silenceTimer = some (now + 3 * p.beacon) ∧
        t.station.env.emptyTable = stoppingTable p.ladder p.tr p.aEmpty ∧
        t.station.env.loadedTable = stoppingTable p.ladder p.tr p.aLoaded ∧
        t.station.lift.load = (if loadSensed then .loaded else .empty) ∧
        u.lift.state = (match s.station.inputs.atTop, s.station.inputs.atBottom with
          | true, false => .raised
          | false, true => .lowered
          | _, _ => .fault) ∧
        t.station.index = (if s.station.inputs.dockRaw = false then s.station.index
          else if p.debounce = 0 then ⟨.active, none⟩ else ⟨.settling, some (now + p.debounce)⟩) ∧
        match (if i.parkDelivered then s.station.bootMem.readAll parkBase 10 else none).bind (acceptedPark m) with
        | some (line, centre) =>
          u.pos = { s.station.pos with
            frame := .line, line := line, centre := centre, acc := centre * 1000, travel := 0, travelAcc := 0, uRef := 10
            u := 10 } ∧ u.park.validOut = true
        | none => u.pos = s.station.pos ∧ u.park = s.station.park)

/-- A bad block, or a map fault, puts the part in START-FAULT with its fault output set and its drive outputs held
(R12, R188, R189). -/
def Obligations.BootFaultHoldsThePart : Prop :=
  ∀ (dt : Nat) (i : BootImage) (loadSensed : Bool) (s : State), s.station.start.phase = .bootRead →
    (paramsGood i.parameters && blockGood i.mapBlock 1414 && blockGood i.pads 386 && blockGood i.markers 1282 &&
      (((readMapBlock i.mapBlock).withPads i.pads).withMarkers i.markers).checks (rawParams i.parameters).ordered) = false →
    ∃ t : State, exec (.bootReadComplete dt i loadSensed) s = .next t ∧ t.pending = s.pending ∧
      t.station.start.phase = .startFault ∧ t.station.faultOutput = true ∧
      t.station.tractionOutputs = ⟨.up, 0, true, true, none⟩ ∧ t.station.liftOutput = .off ∧
      t.station.rotationOutput = none ∧ t.station.line = {} ∧ t.station.claims = {} ∧ t.station.order = {} ∧
      ∀ n, t.station.peer n = {}

/-- START-FAULT is left by a reset alone: until then nothing is sent, received, claimed or taken (R12, R189). -/
def Obligations.StartFaultEndsOnlyByReset : Prop :=
  ∀ (c : Instr) (s t : State), s.station.start.phase = .startFault → (∀ dt, c ≠ .resetAsserted dt) →
    exec c s = .next t →
    t.station.start = s.station.start ∧ t.station.faultOutput = true ∧ t.station.line = s.station.line ∧
    t.station.peers = s.station.peers ∧ t.station.claims = s.station.claims ∧ t.station.order = s.station.order ∧
    t.station.map = s.station.map ∧ t.station.tractionOutputs = ⟨s.station.pos.dir, 0, true, true, none⟩ ∧
    t.station.liftOutput = .off ∧ t.station.rotationOutput = none

/-- LISTEN_IN_END at its time: a carriage with a position and FAULT clear goes on to claim its body, every other station
is READY; a turntable reads its arm. A carriage's emergency latch clears when the drive reports step 0 and stays set when
it does not, its order kept while it rests, and the lift output begins to follow the lift state (R95, R143, R192). -/
def Obligations.ListenInEndOpensNextPhase : Prop :=
  ∀ (dt : Nat) (s : State), s.station.start.phase = .listenIn → dueAt s.station.start.listenEnd (s.old dt).ms = true →
    let u := (s.old dt).endListen
    ∃ t : State, exec (.listenInEnd dt) s = .next t ∧ t = s.settled dt u { order := true, env := true, tt := true } ∧
      t.station.start.listenEnd = none ∧ t.station.peers = s.station.peers ∧
      (s.station.isCarriage = true →
        (s.station.env.latch = true → s.station.inputs.confirmed = 0 →
          t.station.env.latch = false) ∧
        (s.station.env.latch = true → s.station.inputs.confirmed ≠ 0 →
          t.station.env.latch = true ∧ t.station.env.commanded = 0) ∧
        (s.station.order.state = .idle → t.station.order.state = .idle) ∧
        t.station.liftOutput = match t.station.lift.state with
          | .lowered | .raised => .off
          | .raising => .raise
          | .lowering => .lower
          | .stoppedMid | .fault => .stop) ∧
      (s.station.isCarriage = true → s.station.pos.frame = .line → s.station.line.fault = false →
        u.start.phase = if s.station.startWanted = [] then .ready else .bodyClaim) ∧
      (s.station.isCarriage = true → s.station.pos.frame ≠ .line ∨ s.station.line.fault = true →
        u.start.phase = .ready ∧ u.claims = s.station.claims) ∧
      (s.station.isCarriage = false → u.start.phase = .ready ∧ u.claims = s.station.claims ∧
        u.tt.deck = (if s.station.inputs.armAligned = none then s.station.tt.deck else .idle))

/-- BODY_CLAIM_RETRY at its time asks for the body again: with nothing left to ask the phase is READY; where every test
of R57 passes, each segment is LISTENING with its CLAIM in the queue, several under one tag; a claim that cannot be sent
is retried B later (R193, R57, R63). -/
def Obligations.BodyClaimRetryAsksAgain : Prop :=
  ∀ (dt : Nat) (s : State), s.station.start.phase = .bodyClaim → dueAt s.station.start.retryAt (s.old dt).ms = true →
    let u := ((s.old dt).withStart { s.station.start with retryAt := none }).askStart
    ∃ t : State, exec (.bodyClaimRetry dt) s = .next t ∧ t = s.settled dt u {} ∧
      t.station.peers = s.station.peers ∧ t.station.map = s.station.map ∧ t.station.par = s.station.par ∧
      (s.station.startWanted = [] → u.start.phase = .ready ∧ u.start.retryMark = false ∧
        u.claims = s.station.claims) ∧
      (∀ seg p, s.station.startWanted = [seg] → s.station.holders seg = [p] → s.station.claims.lists seg = false →
        s.station.claims.room 1 = true → s.station.line.fault = false →
        (s.station.map.segment? seg).any (·.kind != .deck) = true → s.station.claims.owed[seg]? = some false →
        u.start.phase = .bodyClaim ∧ u.start.retryMark = true ∧
          u.start.retryAt = some ((s.old dt).ms + s.station.par.beacon) ∧ u.claims = s.station.claims) ∧
      (s.station.startWanted ≠ [] → 1 ≤ s.station.claims.nextTag →
        s.station.line.queue.length + s.station.startWanted.length ≤ 8 →
        (∀ n ∈ s.station.startWanted, (s.old dt).claimTest n s.station.startWanted.length = none) →
        u.start.phase = .bodyClaim ∧ u.start.asking = true ∧ u.start.retryAt = none ∧
        u.claims.entries.length = s.station.claims.entries.length + s.station.startWanted.length ∧
        (∀ e ∈ s.station.claims.entries, e ∈ u.claims.entries) ∧
        ∃ tag, (tag = 0 ↔ s.station.startWanted.length = 1) ∧ ∀ n ∈ s.station.startWanted,
          let r : Rank := ⟨s.station.claims.waitCount, (s.old dt).wouldBeCourteous n⟩
          u.queues (.claim n tag r) ∧
          { seg := n, purpose := .body, asker := .startup, tag := tag, courtesy := r.courtesy } ∈ u.claims.entries)

/-! ## Frames from peers (chapters 3, 4 and 10) -/

/-- BAD_FRAME_RECEIVED: a frame that fails a test of R176 is discarded, and the bad-frame count rises by 1 and holds at
255. As any frame that ends, it leaves the line quiet from now on unless this station is sending, the moment from which the
gaps of R179 run (the model's choice, log 9). The peer table, the silence timer and the courtesy flag stay. -/
def Obligations.BadFrameIsCounted : Prop :=
  ∀ (dt : Nat) (bytes : List Byte) (s : State), s.station.onLine = true → WireFrame.decode bytes = none →
    ∃ t : State, exec (.badFrameReceived dt bytes) s = .next t ∧
      t = s.settled dt (s.old dt).fallQuiet.countBad {} ∧
      t.station.line.badCount = min 255 (s.station.line.badCount + 1) ∧
      t.station.peers = s.station.peers ∧ t.station.line.silenceTimer = s.station.line.silenceTimer ∧
      t.station.line.courtesy = s.station.line.courtesy

/-- DUPLICATE_STATION_FRAME: FAULT is set; a carriage shows reason DUPLICATE, its active order is STOPPED and its
command is 0; the peer table does not take the frame (R123, R178, R88). That the line watch takes it as a frame from another
station, with the silence timer of R187 restarted and the courtesy flag of R180 cleared where that frame's class clears it, is
the model's reading (log 41); that the line is quiet from its end is log 9 (R179). -/
def Obligations.OwnNumberHeardSetsFault : Prop :=
  ∀ (dt : Nat) (k : FrameKind) (s : State), s.station.onLine = true → s.station.line.fault = false →
    1 ≤ s.station.par.station → s.station.par.station ≤ 29 → k ≠ .order →
    ∃ t : State, exec (.duplicateStationFrame dt k) s = .next t ∧
      t = s.settled dt (((s.old dt).fallQuiet.heardOther k).duplicateFault) .frame ∧
      t.station.line.fault = true ∧ t.station.peers = s.station.peers ∧ t.station.env.commanded = 0 ∧
      t.station.order.number = s.station.order.number ∧
      (s.station.isCarriage = true → t.station.order.reason = .duplicate ∧
        t.station.order.state = if s.station.order.state.active then .stopped else s.station.order.state)

/-- CARRIAGE_BEACON_RECEIVED and TURNTABLE_BEACON_RECEIVED: the sender's entry is FRESH and takes every field of the
beacon, and no other entry changes; then the segments it lists are tested for double holds, and a carriage takes the
beacon of the station that serves its turntable for its passage (R38, R40, R41, R73). In ASKED, AWAIT-ENTRY shown for this
carriage at its entry arm is a GRANT: the DECK entry, then GRANTED, or ABOARD-SENT with TURN-ABOARD aboard, or TURN-CLEAR
without room; shown in neither queue nor deck a period after the ask, it asks again. In GRANTED, ABOARD-SENT and ACCEPTED a
passage so lost a period after ask and aboard is REVOKED, or aboard an EXIT where the deck rests at the exit arm, and else
ASKED again with the DECK entry and the frame kept. In ABOARD-SENT, AWAIT-ENTRY shown a period after the aboard time sends
TURN-ABOARD again, and the deck shown aboard accepts it, releasing what is HELD on the entry line; AWAIT-EXIT shown at the
exit arm is the EXIT. Any other beacon leaves all as it was (R33, R76, R169, R170, R171). The model's choices: fields outside
their Range are kept as they came (log 55), a frame still in the queue has no time yet (log 16), a repeat of TURN-ASK drops a
retry due (log 92) and leaves the deck reserve as it stands (log 71), AWAIT-ENTRY shown where no GRANT is wanted draws no
TURN-CLEAR (log 109), and REVOKED takes stop point and approach as logs 29, 60 and 78 say. -/
def Obligations.BeaconsFillPeerEntries : Prop :=
  (∀ (dt src : Nat) (b : CarriageBeacon) (s : State), s.hears src →
    let v := ((s.old dt).heard src .carriage .beacon).mapPeer src fun x => x.takeCarriage s.station.map b
    ∃ t : State, exec (.carriageBeaconReceived dt src b) s = .next t ∧
      t = s.settled dt (v.beaconHolds src) .frame ∧
      t.station.peer src = ((s.station.peer src).refresh .carriage (s.old dt).ms).takeCarriage s.station.map b ∧
      (t.station.peer src).state = .fresh ∧ (∀ n, n ≠ src → t.station.peer n = s.station.peer n) ∧
      ((∀ h ∈ (v.peer src).held, s.station.claims.lists h.seg = false) → v.beaconHolds src = v) ∧
      t.station.pos.centre = s.station.pos.centre ∧ t.station.line.badCount = s.station.line.badCount) ∧
  (∀ (dt src : Nat) (b : TurntableBeacon) (s : State), s.hears src →
    let v := ((s.old dt).heard src .turntable .beacon).mapPeer src fun x => x.takeTurntable s.station.map b
    ∃ t : State, exec (.turntableBeaconReceived dt src b) s = .next t ∧
      t = s.settled dt ((v.beaconHolds src).passageBeacon src b) .frame ∧
      t.station.peer src = ((s.station.peer src).refresh .turntable (s.old dt).ms).takeTurntable s.station.map b ∧
      (t.station.peer src).state = .fresh ∧ (∀ n, n ≠ src → t.station.peer n = s.station.peer n) ∧
      ((∀ h ∈ (v.peer src).held, s.station.claims.lists h.seg = false) → v.beaconHolds src = v) ∧
      (s.station.isCarriage = false → t.station.line.badCount = s.station.line.badCount) ∧
      (v.servingStation s.station.passage.turntable ≠ some src ∨ s.station.passage.state = .none ∨
          s.station.passage.state = .leaving →
        (v.beaconHolds src).passageBeacon src b = v.beaconHolds src)) ∧
  ∀ (w : Station) (src : Nat) (b : TurntableBeacon), w.isCarriage = true →
    w.servingStation w.passage.turntable = some src →
    let u := w.passageBeacon src b
    let held := b.holder = w.par.station
    let since (k : FrameKind) (x : Option Nat) : Prop := (∀ y, x = some y → y + (w.peer src).period ≤ w.ms) ∧
      (x = none → ∀ q ∈ w.line.queue, q.frame.kind ≠ k)
    let absent := ¬held ∧ w.par.station ∉ b.queue ∧ since .turnAsk w.passage.askTime
    let lost := absent ∧ (w.passage.aboardTime = none ∨ since .turnAboard w.passage.aboardTime)
    let granted := held ∧ b.deck = DeckState.awaitEntry.code ∧ b.aligned = w.passage.entryArm
    let accepted := held ∧ (b.deck = DeckState.aboard.code ∨ b.deck = DeckState.claiming.code ∨
      b.deck = DeckState.rotating.code ∨ b.deck = DeckState.awaitExit.code)
    let exit := held ∧ b.deck = DeckState.awaitExit.code ∧ b.aligned = w.passage.exitArm
    let again := held ∧ b.deck = DeckState.awaitEntry.code ∧ since .turnAboard w.passage.aboardTime
    let turnedOut := b.deck ≠ DeckState.fault.code ∧ b.deck ≠ DeckState.claiming.code ∧
      b.deck ≠ DeckState.rotating.code ∧ b.aligned = w.passage.exitArm
    let asks (p : Passage) := u.passage = { p with askTime := none, retryDue := none, askOwed := false } ∧
      u.queues (.turnAsk w.passage.turntable w.passage.entryArm w.passage.exitArm) ∧ u.claims = w.claims ∧ u.pos = w.pos
    let leaves (x : Station) : Prop := ∀ k, w.pos.frame = .deck →
      w.map.deck? w.pos.deckTurntable w.passage.exitArm = some k →
      u = x.doExit w.passage.exitArm ∧ u.passage.state = .leaving ∧ u.pos.frame = .line ∧ u.pos.line = k.line ∧
      u.pos.centre = k.centre ∧ u.pos.uRef = w.par.centring ∧ u.trail = [] ∧ u.claims = x.claims
    let noDeck := w.pos.frame = .deck ∧ w.map.deck? w.pos.deckTurntable w.passage.exitArm = none
    (w.passage.state = .asked →
      (granted →
        let room (n : Nat) : Prop := w.claims.lists n = true ∨ w.claims.entries.length < 8
        (∀ n, w.map.deckSegment w.passage.turntable = some n → room n → w.line.queue.length < 8 →
          u.claims.entries = (if w.claims.lists n then w.claims.entries else w.claims.entries ++
            [{ seg := n, state := .held, purpose := .deck, wonTime := some w.ms }]) ∧
          u.claims.deckReserve = false ∧ u.passage.retryDue = none ∧
          (w.pos.frame ≠ .deck → u.passage.state = .granted ∧
            ∀ l d t e, w.order.leg? = some ⟨l, d, .turntable t e⟩ → w.order.state.active = true →
              w.order.legStop = none → w.order.aboardStart = false →
              u.order.legStop = w.deckCentreOf ⟨l, d, .turntable t e⟩) ∧
          (w.pos.frame = .deck → u.passage.state = .aboardSent ∧ u.queues (.turnAboard w.passage.turntable))) ∧
        ((∀ n, w.map.deckSegment w.passage.turntable = some n → ¬room n) → w.line.queue.length < 8 →
          u.passage.state = .none ∧ u.claims.deckReserve = false ∧ u.claims.entries = w.claims.entries ∧
          u.queues (.turnClear w.passage.turntable))) ∧
      (absent → w.line.queue.length < 8 → asks w.passage) ∧
      (¬granted → ¬absent → u = w)) ∧
    (w.passage.state = .granted →
      let served := w.order.state.active = true ∧ ∃ l d e, w.order.leg? = some ⟨l, d, .turntable w.passage.turntable e⟩ ∧
        w.map.arm? l d.atHigh = some (w.passage.turntable, w.passage.entryArm)
      (lost → u = w.takeRevoked ∧ u.passage.state = .none ∧
        u.pos.frame = (if w.pos.frame = .deck then .line else w.pos.frame) ∧ u.pos.centre = w.pos.centre ∧
        (served → u.order.legStop = none) ∧ (¬served → u.order = w.order) ∧
        (served ∧ w.backing = none → u.appr.state = .none ∧ u.appr.attempts = 0 ∧ u.env.handedOn = false) ∧
        ∀ n, w.map.deckSegment w.passage.turntable = some n → ∀ e ∈ u.claims.entries, ¬(e.seg = n ∧ e.purpose = .deck)) ∧
      (¬lost → u = w)) ∧
    (w.passage.state = .aboardSent →
      let x := w.learnAccepted
      (accepted → ¬exit → u = x) ∧
      (accepted → exit → leaves x ∧ (noDeck → u = x.countBad) ∧ (w.pos.frame ≠ .deck → u = x)) ∧
      (again → w.line.queue.length < 8 → u.passage = { w.passage with aboardTime := none } ∧
        u.queues (.turnAboard w.passage.turntable) ∧ u.claims = w.claims ∧ u.pos = w.pos ∧ u.appr = w.appr) ∧
      (lost → turnedOut → leaves x ∧ (noDeck → u = w.countBad) ∧ (w.pos.frame ≠ .deck → u = x)) ∧
      (lost → ¬turnedOut → w.line.queue.length < 8 → asks { w.passage with state := .asked }) ∧
      (¬accepted → ¬again → ¬lost → u = w) ∧
      x.passage.state = .accepted ∧ x.pos = w.pos ∧ x.trail = w.trail ∧
      (w.claims.bounded → ∀ e ∈ w.claims.entries,
        let onLine := ∃ r ∈ w.map.railStretches w.pos.line, r.seg = e.seg
        (e.state = .held → e.purpose ≠ .deck → onLine → w.released x e.seg) ∧
        (e.state ≠ .listening → ¬(e.state = .held ∧ e.purpose ≠ .deck ∧ onLine) → e ∈ x.claims.entries))) ∧
    (w.passage.state = .accepted →
      (exit → leaves w ∧ (noDeck → u = w.countBad) ∧ (w.pos.frame ≠ .deck → u = w)) ∧
      (lost → turnedOut → leaves w ∧ (noDeck → u = w.countBad) ∧ (w.pos.frame ≠ .deck → u = w)) ∧
      (lost → ¬turnedOut → w.line.queue.length < 8 → asks { w.passage with state := .asked }) ∧
      (¬exit → ¬lost → u = w))

/-- CLAIM, OBJECT, RELEASE and YIELD-ASK from a peer in its entry: the rank carried, a pending note that runs for W, the
segments released; an objected claimant loses its note; no other entry changes (R42, R43, R44). -/
def Obligations.ClaimTrafficUpdatesPeerTable : Prop :=
  ∀ (dt : Nat) (h : FrameHead) (s : State), s.hears h.src →
    let e := (s.station.peer h.src).refresh h.role (s.old dt).ms
    (∀ seg tag rank, ∃ t : State, exec (.claimReceived dt h seg tag rank) s = .next t ∧
      t.station.peer h.src = e.takeClaim s.station.map seg rank ((s.old dt).ms + s.station.par.window) ∧
      ∀ n, n ≠ h.src → t.station.peer n = s.station.peer n) ∧
    (∀ seg k rank c, ∃ t : State, exec (.objectReceived dt h seg k rank c) s = .next t ∧
      (c ≠ h.src → t.station.peer h.src =
        if k = .holds then PeerEntry.takeHolds { e with rank := rank } s.station.map seg else { e with rank := rank }) ∧
      (c ≠ h.src → c ≠ s.station.par.station → 1 ≤ c → c ≤ 29 →
        t.station.peer c = (s.station.peer c).dropNotes (· = seg)) ∧
      ∀ n, n ≠ h.src → n ≠ c → t.station.peer n = s.station.peer n) ∧
    (∀ segs, ∃ t : State, exec (.releaseReceived dt h segs) s = .next t ∧
      t.station.peer h.src = e.takeRelease segs ∧ (∀ n, n ≠ h.src → t.station.peer n = s.station.peer n) ∧
      ∀ n, n ∈ segs → n ∉ (t.station.peer h.src).held.map (·.seg)) ∧
    ∀ seg holder wait, ∃ t : State, exec (.yieldAskReceived dt h seg holder wait) s = .next t ∧
      t.station.peer h.src = { e with rank := ⟨wait, false⟩ } ∧
      ∀ n, n ≠ h.src → t.station.peer n = s.station.peer n

/-- A CLAIM for a segment that is HELD or YIELDING here draws OBJECT(HOLDS) with the wait count, courtesy clear; one for
a LISTENING segment draws OBJECT(OUTRANKS) where the own claim outranks it, and abandons the own claim where it does
not, which counts as one loss (R60, R62, R55). -/
def Obligations.ClaimMeetsOwnEntry : Prop :=
  ∀ (dt : Nat) (h : FrameHead) (seg tag : Nat) (rank : Rank) (g : SegmentSlot) (e : ClaimEntry) (s : State),
    s.hears h.src → s.station.map.segment? seg = some g → g.kind ≠ .deck → s.station.claims.entry? seg = some e →
    s.station.line.queue.length < 8 →
    let v := ((s.old dt).heard h.src h.role .claim).mapPeer h.src
      fun x => x.takeClaim s.station.map seg rank ((s.old dt).ms + s.station.par.window)
    let u := v.answerClaim h.src seg rank
    let own : Rank := ⟨s.station.claims.waitCount, e.courtesy⟩
    exec (.claimReceived dt h seg tag rank) s = .next (s.settled dt u .frame) ∧
      (e.holding = true → u.queues (.object seg .holds ⟨s.station.claims.waitCount, false⟩ h.src) ∧
        u.claims = s.station.claims) ∧
      (e.holding = false → e.drop = false → outranks own s.station.par.station rank h.src = true →
        u.queues (.object seg .outranks own h.src) ∧ u.claims = s.station.claims) ∧
      (e.holding = false → e.drop = false → outranks own s.station.par.station rank h.src = false →
        u = v.abandon e ∧ u.claims.entry? seg = none ∧ u.claims.waitCount = bump 15 s.station.claims.waitCount)

/-- OBJECT_RECEIVED for a segment of the own list. Addressed to this station: a LISTENING entry is abandoned with its
group, one loss, and a turntable asks again W later; a late HOLDS or OUTRANKS on a held segment is a double hold, and
OCCUPIED is not acted on. Addressed to another: HOLDS is a double hold, and the rest changes only the peer table. A double
hold: where both occupy, the carriage stops for CONFLICT at once and the rotating deck is in FAULT; where this one alone
does, or neither and it outranks, it keeps the segment; else it releases the segment as a lost claim, and a YIELDING one
stays. Ranks of different stations are strictly ordered (R54, R61, R62, R65, R73, R74, R75, R165). That a HOLDS addressed to
another station starts a double hold is R73 against the last sentence of R61 (log 96). -/
def Obligations.ObjectionsAndDoubleHoldsAreResolved : Prop :=
  (∀ (dt seg c : Nat) (k : Objection) (rank : Rank) (h : FrameHead) (e : ClaimEntry) (s : State), s.hears h.src →
    s.station.validSeg seg = true → s.station.claims.entry? seg = some e →
    let v := ((s.old dt).heard h.src h.role .object).peerObject h.src seg k rank c
    let u := v.takeObject h.src seg k c
    exec (.objectReceived dt h seg k rank c) s = .next (s.settled dt u .frame) ∧
    (c = s.station.par.station → e.state = .listening →
      u.claims.entries = s.station.claims.entries.filter (fun x => !e.groupedWith x) ∧
      (e.drop = false → u.claims.waitCount = bump 15 s.station.claims.waitCount ∧
        (e.asker = .turntable → u.tt.retryTime = some ((s.old dt).ms + s.station.par.window))) ∧
      (e.drop = true → u.claims.waitCount = s.station.claims.waitCount)) ∧
    (c = s.station.par.station → e.state ≠ .listening → u = if k = .occupied then v else v.doubleHold h.src seg) ∧
    (c ≠ s.station.par.station → u = if k = .holds then v.doubleHold h.src seg else v)) ∧
  (∀ (v : Station) (p seg : Nat) (e : ClaimEntry), v.claims.bounded → v.claims.entry? seg = some e →
    let u := v.doubleHold p seg
    let theirs := (v.peer p).occupies v.map seg
    (e.holding = false ∨ e.purpose = .deck → u = v) ∧
    (e.holding = true → e.purpose ≠ .deck →
      (v.ownOccupies seg = true → theirs = false → u = v) ∧
      (v.ownOccupies seg = true → theirs = true → u.claims = v.claims ∧
        (v.isCarriage = true → u.env.commanded = 0 ∧ u.env.latch = true ∧
          (v.order.state.active = true → u.order.state = .stopped) ∧
          (v.order.state.active = true → v.order.state ≠ .stopped ∨ v.order.reason = .emergency →
            u.order.reason = .conflict) ∧
          (v.order.state.active = false → u.order = v.order)) ∧
        (v.isCarriage = false →
          u = if v.tt.deck = .rotating then v.deckFault .conflict else v)) ∧
      (v.ownOccupies seg = false → theirs = false →
        outranks v.plainRank v.par.station ⟨(v.peer p).rank.wait, false⟩ p = true → u = v) ∧
      (v.ownOccupies seg = false → theirs = true ∨
          outranks v.plainRank v.par.station ⟨(v.peer p).rank.wait, false⟩ p = false →
        (e.state = .yielding → u = v) ∧
        (e.state = .held → seg < 128 → u.claims.entries = v.claims.entries.filter (·.seg ≠ seg) ∧
          u.claims.stamps[seg]? = some (some v.ms) ∧ u.claims.waitCount = bump 15 v.claims.waitCount ∧
          (u.claims.owed[seg]? = some true ∨ ∃ segs, u.queues (.release segs) ∧ seg ∈ segs))))) ∧
  (∀ (a b : Rank) (na nb : Nat), na ≠ nb → outranks a na b nb = !outranks b nb a na) ∧
  ∀ (a b c : Rank) (na nb nc : Nat), outranks a na b nb = true → outranks b nb c nc = true → outranks a na c nc = true

/-- YIELD-ASK naming this station as holder: not acted on for a segment not held, yielding or already asked for;
OUTRANKS where the asker does not outrank; OCCUPIED at a turntable, in BACKING, and for a DECK, GUARD or BACK entry; a
carriage clear of the segment yields its AHEAD or BODY entry once H has passed; one that stands in it backs where R128
lets it, and else answers OCCUPIED (R70, R71, R128, R129, R134). That a BACK entry clear of the extent is answered
OCCUPIED outside BACKING too, and that an AHEAD or BODY one is yielded in HALTED and STOPPED too, are the model's choices
(log 58), as is a backing that begins, without the line halt mark, with the line SILENT or RECOVERING too (log 103). -/
def Obligations.YieldAskIsAnswered : Prop :=
  ∀ (dt : Nat) (h : FrameHead) (seg wait : Nat) (s : State), s.hears h.src → s.station.validSeg seg = true →
    s.station.line.queue.length < 8 →
    let v := ((s.old dt).heard h.src h.role .yieldAsk).mapPeer h.src fun e => { e with rank := ⟨wait, false⟩ }
    let u := (v.takeYieldAsk h.src seg wait).1
    exec (.yieldAskReceived dt h seg s.station.par.station wait) s = .next (s.settled dt u .frame) ∧
      (s.station.claims.holds seg = false → u = v) ∧
      (∀ e, s.station.claims.entry? seg = some e → e.state = .yielding ∨ e.pendingYield ≠ none → u = v) ∧
      ∀ e, s.station.claims.entry? seg = some e → e.state = .held → e.pendingYield = none →
        (outranks ⟨wait, false⟩ h.src s.station.plainRank s.station.par.station = false →
          u.queues (.object seg .outranks s.station.plainRank h.src) ∧ u.claims = s.station.claims) ∧
        (outranks ⟨wait, false⟩ h.src s.station.plainRank s.station.par.station = true →
          (s.station.isCarriage = false ∨ s.station.order.state = .backing ∨ e.purpose = .guard ∨ e.purpose = .deck ∨
              e.purpose = .back →
            u.queues (.object seg .occupied s.station.plainRank h.src) ∧ u.claims = s.station.claims ∧
            u.order = s.station.order) ∧
          (s.station.isCarriage = true → e.purpose = .ahead ∨ e.purpose = .body → s.station.order.state ≠ .backing →
            s.station.overlaps seg = false →
            u.claims.entries = s.station.claims.entries.map fun x =>
              if x.seg = seg then
                (if s.station.holdEnd e ≤ (s.old dt).ms then { x with state := .yielding }
                 else { x with pendingYield := some h.src })
              else x) ∧
          (∀ g, s.station.isCarriage = true → e.purpose = .ahead ∨ e.purpose = .body →
            s.station.order.state ≠ .backing → s.station.overlaps seg = true →
            s.station.map.segment? seg = some g → u.claims = s.station.claims ∧
            ((s.station.canBack && s.station.aheadOfCentre g) = true → u.order.state = .backing ∧
              u.pos.dir = s.station.pos.dir.opposite ∧
              u.backing.map (fun b => (b.asker, b.seg, b.origin)) = some (h.src, seg, s.station.order.state)) ∧
            ((s.station.canBack && s.station.aheadOfCentre g) = false → u.order = s.station.order ∧
              u.queues (.object seg .occupied s.station.plainRank h.src))))

/-! ## Orders (chapter 6) -/

/-- ORDER_MOVE, ORDER_FETCH and ORDER_PLACE that pass every test of R103 are accepted: record filled, cursor 1, RUNNING,
DOCKED clear, trail stack empty, no answer in the slot. Leg 1 is begun: its stop point is the target chainage or, at a
TURNTABLE leg, the deck centre, given with its final approach not yet due; in frame DECK it is given after the EXIT transfer.
The direction of leg 1 is asked for: it stands already, or is taken at once at effective step 0, or is pending with the
command at 0 (R93, R103, R105, R109). That the order is RUNNING with the line silent too is the model's choice (log 103). -/
def Obligations.RouteOrdersAreAccepted : Prop :=
  ∀ (dt : Nat) (o : OrderHead) (r : RouteOrder) (s : State) (k : OrderKind), s.ordered o → s.station.isCarriage = true →
    s.station.refusal k r = none → ¬(o.number = s.station.order.number ∧ s.station.order.state ≠ .idle) →
    let u := ((s.old dt).heard o.src .carriage .order).accept k o r
    let c : Instr := match k with
      | .move => .orderMove dt o r
      | .fetch => .orderFetch dt o r
      | .place => .orderPlace dt o r
    ∃ t : State, exec c s = .next t ∧ t = s.settled dt u .ofOrder ∧ u.order.state = .running ∧ u.trail = [] ∧
      u.claims.deckReserve = false ∧ u.claims.entries = s.station.claims.entries ∧
      t.station.order.number = o.number ∧ t.station.order.kind = k ∧ t.station.order.target = r.target ∧
      t.station.order.route = r.legs ∧ t.station.order.origin = o.src ∧ t.station.order.cursor = 1 ∧
      (∀ line chainage, s.station.resolveTarget r.target = some (line, chainage) →
        t.station.order.line = line ∧ t.station.order.chainage = chainage) ∧
      t.station.order.answer = s.station.order.answer ∧ t.station.peers = s.station.peers ∧ u.appr.docked = false ∧
      ∀ g rest, r.legs = g :: rest →
        (s.station.pos.frame = .deck → u.order.legStop = none ∧ u.order.aboardStart = true) ∧
        (s.station.pos.frame = .line → u.order.aboardStart = false ∧ u.env.handedOn = false ∧ u.appr.state = .none ∧
          u.appr.attempts = 0 ∧
          (∀ line chainage, g.stop = .target → s.station.resolveTarget r.target = some (line, chainage) →
            u.order.legStop = some chainage) ∧
          ∀ tt e, g.stop = .turntable tt e → u.order.legStop = s.station.deckCentreOf g) ∧
        (g.dir = s.station.pos.dir ∨ s.station.effective = 0 → u.pos.dir = g.dir ∧ u.env.pendingDir = none ∧
          u.env.commanded = s.station.env.commanded) ∧
        (g.dir ≠ s.station.pos.dir → s.station.effective ≠ 0 → u.pos.dir = s.station.pos.dir ∧
          u.env.pendingDir = some g.dir ∧ u.env.commanded = 0)

/-- The same commands that fail a test: FAILED with the first failing test's reason goes to the answer slot with the leg
index, and the order record and its order stay as they were (R102, R103). -/
def Obligations.RefusedOrderFillsAnswerSlot : Prop :=
  ∀ (dt : Nat) (o : OrderHead) (r : RouteOrder) (s : State) (k : OrderKind) (x : Reason) (leg : Nat), s.ordered o →
    s.station.isCarriage = true → s.station.refusal k r = some (x, leg) →
    ¬(o.number = s.station.order.number ∧ s.station.order.state ≠ .idle) →
    let c : Instr := match k with
      | .move => .orderMove dt o r
      | .fetch => .orderFetch dt o r
      | .place => .orderPlace dt o r
    ∃ t : State, exec c s = .next t ∧
      t = s.settled dt (((s.old dt).heard o.src .carriage .order).answer o .failed x leg) .ofOrder ∧
      t.station.order.answer = some ⟨o.number, .failed, x, leg⟩ ∧
      t.station.order.target = s.station.order.target ∧ t.station.order.line = s.station.order.line ∧
      t.station.order.chainage = s.station.order.chainage ∧
      t.station.order.number = s.station.order.number ∧ t.station.order.kind = s.station.order.kind ∧
      t.station.order.route = s.station.order.route ∧ t.station.order.cursor = s.station.order.cursor ∧
      t.station.order.origin = s.station.order.origin ∧
      (s.station.order.state = .idle ∨ s.station.order.state = .done ∨ s.station.order.state = .failed ∨
        s.station.order.state = .stopped →
        t.station.order.state = s.station.order.state ∧ t.station.order.reason = s.station.order.reason)

/-- ORDER_BAD_KIND, and a route order or SET-POSITION at a turntable, to every station or without a number, are counted as
bad and not acted on (R101, R124). -/
def Obligations.OrdersNotForThisPartAreCounted : Prop :=
  ∀ (dt : Nat) (o : OrderHead) (s : State), s.station.onLine = true → s.station.par.station ≤ 29 →
    o.src = 30 ∨ o.src = 31 → o.target = s.station.par.station ∨ o.target = 0 →
    (∀ kind, badKind o kind = true → ∃ t : State, exec (.orderBadKind dt o kind) s = .next t ∧
      t = s.settled dt ((s.old dt).heard o.src .carriage .order).countBad .ofOrder ∧
      t.station.line.badCount = min 255 (s.station.line.badCount + 1) ∧ t.station.peers = s.station.peers) ∧
    (s.station.isCarriage = false ∨ o.target = 0 ∨ o.number = 0 → ∀ c : Instr,
      (∃ r, c = .orderMove dt o r ∨ c = .orderFetch dt o r ∨ c = .orderPlace dt o r) ∨
        (∃ l x n, c = .orderSetPosition dt o l x n) →
      ∃ t : State, exec c s = .next t ∧
        t = s.settled dt ((s.old dt).heard o.src .carriage .order).countBad .ofOrder ∧
        t.station.line.badCount = min 255 (s.station.line.badCount + 1) ∧ t.station.peers = s.station.peers)

/-- ORDER_HALT to this station or to all: an order in RUNNING, WAITING, LOADING or BACKING becomes HALTED with the
operator mark, its state kept to resume, and the carriage's command is 0; a turntable sets its grant hold (R117, R124,
R167). -/
def Obligations.HaltStopsTheOrder : Prop :=
  ∀ (dt : Nat) (o : OrderHead) (s : State), s.orderedToAny o →
    (s.station.isCarriage = true →
      let u := ((s.old dt).heard o.src .carriage .order).takeHalt
      ∃ t : State, exec (.orderHalt dt o) s = .next t ∧ t = s.settled dt u .ofOrder ∧
        (s.station.order.state = .running ∨ s.station.order.state = .waiting ∨ s.station.order.state = .loading ∨
          s.station.order.state = .backing →
          u.order.state = .halted ∧ u.order.haltOperator = true ∧ u.order.resume = some s.station.order.state ∧
          t.station.env.commanded = 0 ∧
          (t.station.order.state = .halted ∨
            (t.station.order.state = .stopped ∧ t.station.order.reason = .emergency))) ∧
        (s.station.order.state.resting = true ∨ s.station.order.state = .stopped →
          t.station.order.state = s.station.order.state ∧ t.station.order.reason = s.station.order.reason)) ∧
    (s.station.isCarriage = false →
      ∃ t : State, exec (.orderHalt dt o) s = .next t ∧ t.station.tt.grantHold = true ∧
        t.station.peers = s.station.peers)

/-- ORDER_RESUME to this station or to all: a HALTED order returns to its resume state when the line mark is clear, and
stays HALTED with LINE while it is set; a STOPPED order runs again, or fails with ROUTE off its leg's line; with FAULT
set nothing is resumed. A turntable clears its grant hold; in READY and FAULT with an arm reported and ROTATION-FAULT
inactive it takes that arm, asks every guard back and leaves FAULT by the table of R166, to IDLE, AWAIT-EXIT with the EXIT to
make, ABOARD or AWAIT-ENTRY with the entry timer, or stays with NO-ARM; in any other case the deck stays as it is (R119, R124,
R166, R167, R192). That guard release pending waits for a RELEASE to come is the model's choice (log 13), and so is that an
order that runs again with the line silent is not halted (log 103) and that a turntable acts with FAULT set (log 104). -/
def Obligations.ResumeReturnsTheOrder : Prop :=
  ∀ (dt : Nat) (o : OrderHead) (s : State), s.orderedToAny o →
    (s.station.isCarriage = true → s.station.line.fault = false →
      let u := ((s.old dt).heard o.src .carriage .order).takeResume
      ∃ t : State, exec (.orderResume dt o) s = .next t ∧ t = s.settled dt u .ofOrder ∧
        (∀ st, s.station.order.state = .halted → s.station.order.haltLine = false → s.station.order.resume = some st →
          u.order.state = st ∧ u.order.reason = .none ∧ u.order.haltOperator = false) ∧
        (s.station.order.state = .halted → s.station.order.haltLine = true →
          u.order.state = .halted ∧ u.order.reason = .line ∧ u.order.haltOperator = false) ∧
        (s.station.order.state = .stopped → s.station.order.resume = some .running ∨ s.station.order.resume = some .waiting →
          s.station.legOnLine = true → u.order.state = .running ∧ u.order.reason = .none) ∧
        (s.station.order.state = .stopped → s.station.legOnLine = false →
          t.station.order.state = .failed ∧ t.station.order.reason = .route)) ∧
    (s.station.isCarriage = true → s.station.line.fault = true →
      ∃ t : State, exec (.orderResume dt o) s = .next t ∧
        t = s.settled dt ((s.old dt).heard o.src .carriage .order) .ofOrder) ∧
    (s.station.isCarriage = false →
      ∃ t : State, exec (.orderResume dt o) s = .next t ∧
        t = s.settled dt ((s.old dt).heard o.src .carriage .order).ttResume .ofOrder ∧ t.station.tt.grantHold = false) ∧
    (s.station.isCarriage = false →
      let v := (s.old dt).heard o.src .carriage .order
      let u := v.ttResume
      (s.station.tt.deck ≠ .fault ∨ s.station.start.phase ≠ .ready ∨ s.station.inputs.armAligned = none ∨
          s.station.inputs.rotationFault = true →
        u.tt = { s.station.tt with grantHold := false } ∧ u.claims = s.station.claims) ∧
      (∀ a, s.station.tt.deck = .fault → s.station.start.phase = .ready → s.station.inputs.armAligned = some a →
        s.station.inputs.rotationFault = false →
        u.tt.aligned = a ∧ u.tt.target = none ∧ u.tt.purpose = .none ∧ u.tt.queue = s.station.tt.queue ∧
        u.tt.holder = s.station.tt.holder ∧
        (s.station.claims.bounded → ∀ e ∈ s.station.claims.entries, e.purpose = .guard → e.state = .held →
          v.released u e.seg ∧ (e.seg ∈ s.station.guards → e.seg < 128 → u.tt.releasePending = true)) ∧
        (s.station.tt.holder = none → u.tt.deck = .idle ∧ u.tt.reason = .none) ∧
        (∀ x, s.station.tt.holder = some x →
          (s.station.tt.aboard = true → a = x.exitArm →
            u.tt.deck = .awaitExit ∧ u.tt.exitOwed = .toMake ∧ u.tt.aboard = true ∧ u.tt.reason = .none) ∧
          (s.station.tt.aboard = true → a ≠ x.exitArm →
            u.tt.deck = .aboard ∧ u.tt.aboard = true ∧ u.tt.reason = .none) ∧
          (s.station.tt.aboard = false → a = x.entryArm →
            u.tt.deck = .awaitEntry ∧ u.tt.aboard = false ∧ u.tt.reason = .none ∧
            u.tt.entryTimer = some ((s.old dt).ms + s.station.par.entryTimeout * 1000)) ∧
          (s.station.tt.aboard = false → a ≠ x.entryArm → u.tt.deck = .fault ∧ u.tt.reason = .noArm))))

/-- ORDER_CANCEL to this station or to all: an active order whose lift rests is FAILED with CANCELLED at once; with the
lift off its rests the order is LOADING, shows CANCELLED, and the lift turns back to the rest it started from; an inactive
order is left alone. At a turntable it is taken and has no effect (R101, R120, R124, R148). That a HALTED order is LOADING
again, without the line halt mark, with the line SILENT or RECOVERING too is the model's choice (log 103). A second CANCEL
while the lift returns (log 76) is no part of this statement. -/
def Obligations.CancelFailsTheOrder : Prop :=
  ∀ (dt : Nat) (o : OrderHead) (s : State), s.orderedToAny o →
    (s.station.isCarriage = false →
      exec (.orderCancel dt o) s = .next (s.settled dt ((s.old dt).heard o.src .carriage .order) .ofOrder)) ∧
    (s.station.isCarriage = true →
    let u := ((s.old dt).heard o.src .carriage .order).takeCancel
    ∃ t : State, exec (.orderCancel dt o) s = .next t ∧ t = s.settled dt u .ofOrder ∧
      t.station.order.number = s.station.order.number ∧ t.station.order.answer = s.station.order.answer ∧
      (s.station.order.state.active = true → s.station.lift.state.atRest = true →
        t.station.order.state = .failed ∧ t.station.order.reason = .cancelled ∧ u.claims.waitCount = 0 ∧
        u.order.haltOperator = false ∧ u.order.haltLine = false ∧ u.claims.deckReserve = false) ∧
      (s.station.order.state.active = true → s.station.lift.returning = false →
        s.station.lift.state = .raising ∨ s.station.lift.state = .lowering ∨ s.station.lift.state = .stoppedMid →
        u.order.state = .loading ∧ u.order.reason = .cancelled ∧ u.lift.returning = true ∧
        u.lift.travelDir = (if s.station.lift.startRaised then .up else .down)) ∧
      (s.station.order.state.active = false →
        t.station.order.state = s.station.order.state ∧ t.station.order.reason = s.station.order.reason))

/-- ORDER_SET_POSITION: accepted, the centre is the chainage given with DOUBT set and U within 10–2000; a WAITING or
HALTED order is STOPPED with POSITION, one already STOPPED takes POSITION in place of EMERGENCY or CONFLICT, a resting one
stays; refused, only the answer slot takes it. The HELD AHEAD and BODY entries that the new extent does not overlap are
released, off the trail stack, and no other entry goes. The segments of the new extent not yet in the list are asked for as
one BODY group under one tag, or as a single claim: none where a test of R57 fails, or where the queue has no room, and else
each is LISTENING with its CLAIM queued (R34, R57, R63, R106, R121). The model's choices (log 18): what is owed until won, to be
asked again, is these segments and those that an earlier SET-POSITION still listens for under the new extent, and a DECK
segment is not asked for. -/
def Obligations.SetPositionPlacesTheCarriage : Prop :=
  ∀ (dt : Nat) (o : OrderHead) (line n : Nat) (x : Chainage) (s : State), s.ordered o → s.station.isCarriage = true →
    (s.station.setRefusal line x = none →
      let u := (((s.old dt).heard o.src .carriage .order).setPosition line x n).answer o .done .none 0
      ∃ t : State, exec (.orderSetPosition dt o line x n) s = .next t ∧ t = s.settled dt u .ofOrder ∧
        u.pos.frame = .line ∧ t.station.pos.line = line ∧ t.station.pos.centre = x ∧ t.station.pos.acc = x * 1000 ∧
        t.station.pos.travel = 0 ∧ t.station.pos.u = min 2000 (max 10 n) ∧ t.station.pos.doubt = true ∧
        u.trail = [] ∧ t.station.order.answer = some ⟨o.number, .done, .none, 0⟩ ∧
        (s.station.claims.bounded → ∀ e ∈ s.station.claims.entries,
          if e.state = .held ∧ (e.purpose = .ahead ∨ e.purpose = .body) ∧ u.overlaps e.seg = false then
            (s.old dt).released u e.seg
          else e ∈ u.claims.entries) ∧
        (let y := ((s.old dt).heard o.src .carriage .order).placeAt line x n
         let wanted := (u.touched.filter fun b => b.kind ≠ .deck && !y.claims.lists b.seg).map (·.seg)
         u.order.bodyOwed =
            wanted ++ s.station.order.bodyOwed.filter (fun m => y.claims.listens m && u.overlaps m) ∧
          (wanted = [] ∨ (∃ m ∈ wanted, y.claimTest m wanted.length ≠ none) → u.claims = y.claims) ∧
          (s.station.claims.bounded → 1 ≤ s.station.claims.nextTag → 8 < y.line.queue.length + wanted.length →
            u.claims.entries = y.claims.entries) ∧
          (wanted ≠ [] → 1 ≤ s.station.claims.nextTag → y.line.queue.length + wanted.length ≤ 8 →
            (∀ m ∈ wanted, y.claimTest m wanted.length = none) →
            u.claims.entries.length = y.claims.entries.length + wanted.length ∧
            (∀ e ∈ y.claims.entries, e ∈ u.claims.entries) ∧
            ∃ tag, (tag = 0 ↔ wanted.length = 1) ∧ ∀ m ∈ wanted,
              let r : Rank := ⟨s.station.claims.waitCount, y.wouldBeCourteous m⟩
              u.queues (.claim m tag r) ∧
              { seg := m, purpose := .body, asker := .setPosition, tag := tag, courtesy := r.courtesy } ∈
                u.claims.entries)) ∧
        (s.station.order.state = .waiting ∨ s.station.order.state = .halted →
          t.station.order.state = .stopped ∧ t.station.order.reason = .position) ∧
        (s.station.order.state = .stopped → t.station.order.state = .stopped ∧ t.station.order.reason =
          if s.station.order.reason = .emergency ∨ s.station.order.reason = .conflict then .position
          else s.station.order.reason) ∧
        (s.station.order.state.resting = true →
          t.station.order.state = s.station.order.state ∧ t.station.order.reason = s.station.order.reason)) ∧
    ∀ y, s.station.setRefusal line x = some y →
      ∃ t : State, exec (.orderSetPosition dt o line x n) s = .next t ∧
        t = s.settled dt (((s.old dt).heard o.src .carriage .order).answer o .failed y 0) .ofOrder ∧
        t.station.order.answer = some ⟨o.number, .failed, y, 0⟩ ∧ t.station.pos.line = s.station.pos.line ∧
        t.station.pos.centre = s.station.pos.centre ∧ t.station.pos.u = s.station.pos.u ∧
        t.station.pos.doubt = s.station.pos.doubt

/-- ORDER_CLEAR_PEER empties the entry of the station named, but for the own number; the answer slot takes DONE when the
order names this station; a number outside 1–29 is counted; a turntable removes the station from its queue (R122, R47,
R156). -/
def Obligations.ClearPeerEmptiesTheEntry : Prop :=
  ∀ (dt p : Nat) (o : OrderHead) (s : State), s.station.onLine = true → s.station.par.station ≤ 29 →
    o.src = 30 ∨ o.src = 31 → o.number ≠ 0 → o.target = s.station.par.station ∨ o.target = 0 →
    (1 ≤ p → p ≤ 29 → ∃ t : State, exec (.orderClearPeer dt o p) s = .next t ∧
      (p ≠ s.station.par.station → t.station.peer p = {}) ∧ (p = s.station.par.station → t.station.peers = s.station.peers) ∧
      (∀ n, n ≠ p → t.station.peer n = s.station.peer n) ∧
      (s.station.isCarriage = true → t.station.order.answer =
        if o.target = 0 then s.station.order.answer else some ⟨o.number, .done, .none, 0⟩) ∧
      t.station.line.badCount = s.station.line.badCount) ∧
    (p = 0 ∨ 29 < p → ∃ t : State, exec (.orderClearPeer dt o p) s = .next t ∧ t.station.peers = s.station.peers ∧
      t.station.line.badCount = min 255 (s.station.line.badCount + 1) ∧
      t.station.order.answer = s.station.order.answer) ∧
    (1 ≤ p → p ≤ 29 → s.station.isCarriage = false →
      exec (.orderClearPeer dt o p) s =
        .next (s.settled dt ((((s.old dt).heard o.src .carriage .order).clearPeer p).unqueue p) .ofOrder))

/-! ## Passage over a turntable (chapter 9) -/

/-- TURN-ASK, TURN-ABOARD and TURN-CLEAR at the turntable they name: the sender joins the queue at its tail, keeps its
place with new arms, or is answered; the holder comes aboard over a centred deck; a grant given up over a clear deck
leaves it IDLE; a queued sender leaves the queue (R155, R156, R161, R162, R164). -/
def Obligations.PassageFramesMoveTheDeck : Prop :=
  ∀ (dt : Nat) (h : FrameHead) (s : State), s.hears h.src → s.station.isCarriage = false →
    s.station.line.queue.length < 8 →
    (∀ a e, s.station.start.phase = .ready → h.role = .carriage → s.station.armPresent a = true →
      s.station.armPresent e = true → a ≠ e → (∀ x, s.station.tt.holder = some x → x.station ≠ h.src) →
      let u := ((s.old dt).heard h.src h.role .turnAsk).takeAskFrame h.src h.role a e
      exec (.turnAskReceived dt h s.station.par.turntable a e) s = .next (s.settled dt u .frame) ∧
      (h.src ∉ s.station.tt.queue.map (·.station) → s.station.tt.deck ≠ .fault → s.station.line.fault = false →
        (s.station.tt.queue.length < 8 → u.tt.queue = s.station.tt.queue ++ [⟨h.src, a, e, (s.old dt).ms⟩]) ∧
        (8 ≤ s.station.tt.queue.length → u.tt.queue = s.station.tt.queue ∧
          u.queues (.turnAnswer h.src .refusedFull s.station.tt.aligned))) ∧
      (h.src ∉ s.station.tt.queue.map (·.station) → s.station.tt.deck = .fault ∨ s.station.line.fault = true →
        u.tt.queue = s.station.tt.queue ∧
        u.queues (.turnAnswer h.src .fault s.station.tt.aligned)) ∧
      (h.src ∈ s.station.tt.queue.map (·.station) →
        u.tt.queue = s.station.tt.queue.map fun r =>
          if r.station = h.src then { r with entryArm := a, exitArm := e } else r)) ∧
    (let u := ((s.old dt).heard h.src h.role .turnAboard).takeAboardFrame h.src;
      exec (.turnAboardReceived dt h s.station.par.turntable) s = .next (s.settled dt u .frame) ∧
      (∀ x, s.station.tt.holder = some x → x.station = h.src → s.station.tt.deck = .awaitEntry →
        (s.station.inputs.deckCentred = true → u.tt.aboard = true ∧ u.tt.deck = .aboard ∧ u.tt.entryTimer = none ∧
          u.line.queue = s.station.line.queue) ∧
        (s.station.inputs.deckCentred = false → u.tt = s.station.tt ∧
          u.queues (.turnAnswer h.src .notCentred x.entryArm))) ∧
      ((∀ x, s.station.tt.holder = some x → x.station ≠ h.src) → u.tt = s.station.tt ∧
        u.queues (.turnAnswer h.src .revoked s.station.tt.aligned))) ∧
    (let u := ((s.old dt).heard h.src h.role .turnClear).takeClearFrame h.src;
      exec (.turnClearReceived dt h s.station.par.turntable) s = .next (s.settled dt u .frame) ∧
      (∀ x, s.station.tt.holder = some x → x.station = h.src →
        (s.station.tt.deck = .awaitEntry → s.station.inputs.deckClear = true →
          u.tt.deck = .idle ∧ u.tt.holder = none ∧ u.tt.entryTimer = none ∧ u.tt.clearHeard = true) ∧
        (s.station.tt.deck = .awaitEntry → s.station.inputs.deckClear = false →
          u.tt.deck = .awaitExit ∧ u.tt.clearHeard = true ∧
          u.tt.exitTimer = some ((s.old dt).ms + s.station.par.exitTimeout * 1000)) ∧
        (s.station.tt.deck = .awaitExit → u.tt.clearHeard = true ∧ u.tt.deck = .awaitExit) ∧
        (s.station.tt.deck = .fault → u.tt.clearHeard = true ∧ u.tt.deck = .fault ∧
          u.tt.holder = if !s.station.tt.aboard && s.station.inputs.deckClear then none else some x) ∧
        (s.station.tt.deck = .aboard ∨ s.station.tt.deck = .claiming ∨ s.station.tt.deck = .rotating →
          u.tt = s.station.tt)) ∧
      ((∀ x, s.station.tt.holder = some x → x.station ≠ h.src) →
        u.tt.queue = s.station.tt.queue.filter (·.station ≠ h.src) ∧ u.tt.deck = s.station.tt.deck))

/-- TURN_ANSWER_GRANT in ASKED, for the arm held and from a server of the passage's turntable: the DECK entry is made,
HELD and won now, or stays where it is listed, and the passage is GRANTED, or ABOARD-SENT with TURN-ABOARD sent where
the carriage stands aboard; a TURNTABLE leg whose stop point REVOKED took away has the deck centre again, and under a
backing the approach in hand stays; without room the carriage answers TURN-CLEAR and asks again; a GRANT not wanted
draws TURN-CLEAR and changes nothing of the own (R169, R76, R85, R109, R170). To which turntable that TURN-CLEAR goes (log
32), and that a GRANT taken under a backing gives the stop point for the time after it and leaves approach and envelope as
they are (log 29), are the model's choices. -/
def Obligations.GrantOpensThePassage : Prop :=
  ∀ (dt arm : Nat) (h : FrameHead) (s : State), s.hears h.src → s.station.isCarriage = true →
    s.station.line.queue.length < 8 →
    let v := (s.old dt).heard h.src h.role .turnAnswer
    (s.station.passage.state = .asked → arm = s.station.passage.entryArm → v.servesPassage h.src = true →
      exec (.turnAnswerGrant dt h s.station.par.station arm) s = .next (s.settled dt v.takeGrant .frame) ∧
      ∀ n, s.station.map.deckSegment s.station.passage.turntable = some n →
        (s.station.claims.lists n = true → v.takeGrant.claims.entries = s.station.claims.entries) ∧
        (s.station.claims.lists n = false → s.station.claims.entries.length < 8 →
          v.takeGrant.claims.entries = s.station.claims.entries ++
            [{ seg := n, state := .held, purpose := .deck, wonTime := some (s.old dt).ms }]) ∧
        (s.station.claims.lists n = true ∨ s.station.claims.entries.length < 8 →
          v.takeGrant.claims.deckReserve = false ∧ v.takeGrant.passage.retryDue = none ∧
          (s.station.pos.frame ≠ .deck → v.takeGrant.passage.state = .granted ∧
            ∀ l d t e, s.station.order.leg? = some ⟨l, d, .turntable t e⟩ → s.station.order.state.active = true →
              s.station.order.legStop = none → s.station.order.aboardStart = false →
              v.takeGrant.order.legStop = s.station.deckCentreOf ⟨l, d, .turntable t e⟩ ∧
              (s.station.backing = none → v.takeGrant.appr = {} ∧ v.takeGrant.env.handedOn = false) ∧
              (s.station.backing ≠ none → v.takeGrant.appr = s.station.appr ∧ v.takeGrant.env = s.station.env)) ∧
          (s.station.pos.frame = .deck → v.takeGrant.passage.state = .aboardSent ∧
            v.takeGrant.queues (.turnAboard s.station.passage.turntable))) ∧
        (8 ≤ s.station.claims.entries.length → s.station.claims.lists n = false →
          v.takeGrant.passage.state = .none ∧ v.takeGrant.queues (.turnClear s.station.passage.turntable) ∧
          v.takeGrant.claims.entries = s.station.claims.entries)) ∧
    (s.station.passage.state ≠ .asked ∨ arm ≠ s.station.passage.entryArm ∨ v.servesPassage h.src = false →
      let u := v.clearTo (v.peer h.src).turntableId
      exec (.turnAnswerGrant dt h s.station.par.station arm) s = .next (s.settled dt u .frame) ∧
      u.queues (.turnClear (v.peer h.src).turntableId) ∧ u.passage = s.station.passage ∧ u.claims = s.station.claims)

/-- TURN_ANSWER_EXIT in ABOARD-SENT or ACCEPTED aboard a deck: the position goes to the exit line at its deck centre, U
anew from the centring tolerance, direction off the deck unless the next leg asks for the other one, trail stack empty,
passage LEAVING; one whose arm the deck lookup does not give is counted and changes nothing else, as is one in NONE or
ASKED (R33, R125, R169, R171). That the arm is not compared with the one asked for, nor the sender with the serving
station, is the model's choice (log 43). -/
def Obligations.ExitPlacesCarriageOnExitLine : Prop :=
  ∀ (dt arm : Nat) (h : FrameHead) (s : State), s.hears h.src → s.station.isCarriage = true →
    let v := (s.old dt).heard h.src h.role .turnAnswer
    (∀ k, s.station.passage.state = .accepted ∨ s.station.passage.state = .aboardSent → s.station.pos.frame = .deck →
      s.station.map.deck? s.station.pos.deckTurntable arm = some k →
      let w := if s.station.passage.state = .accepted then v else v.learnAccepted
      let u := w.doExit arm
      ∃ t : State, exec (.turnAnswerExit dt h s.station.par.station arm) s = .next t ∧ t = s.settled dt u .frame ∧
        u.pos.frame = .line ∧ u.trail = [] ∧ u.passage.state = .leaving ∧ u.claims.entries = w.claims.entries ∧
        t.station.pos.line = k.line ∧ t.station.pos.centre = k.centre ∧ t.station.pos.travel = 0 ∧
        t.station.pos.uRef = s.station.par.centring ∧ t.station.pos.u = min 2000 s.station.par.centring ∧
        t.station.pos.doubt = s.station.pos.doubt ∧
        ((∀ g, u.order.leg? = some g → g.dir = k.off) → u.pos.dir = k.off) ∧
        (s.station.order.state.active = false → u.pos.dir = k.off ∧ t.station.order.cursor = s.station.order.cursor)) ∧
    (s.station.passage.state = .none ∨ s.station.passage.state = .asked ∨
      ((s.station.passage.state = .accepted ∨ s.station.passage.state = .aboardSent) ∧ s.station.pos.frame = .deck ∧
        s.station.map.deck? s.station.pos.deckTurntable arm = none) →
      ∃ t : State, exec (.turnAnswerExit dt h s.station.par.station arm) s = .next t ∧
        t = s.settled dt v.countBad .frame ∧
        t.station.line.badCount = min 255 (s.station.line.badCount + 1) ∧ t.station.pos.line = s.station.pos.line ∧
        t.station.pos.centre = s.station.pos.centre)

/-- The other answers. TURN_ANSWER_REFUSED_FULL and TURN_ANSWER_FAULT in ASKED: the next TURN-ASK is due one announced
period of the serving station later; in any other passage state they change nothing of the own. TURN_ANSWER_REVOKED in
GRANTED or ABOARD-SENT: the position goes from DECK to LINE, the DECK entry goes, the passage is NONE, and so do the
stop point and the approach of the leg that the passage serves. TURN_ANSWER_NOT_CENTRED in ABOARD-SENT: the position
goes from DECK to LINE, the passage is GRANTED, and an approach in ABOARD-ASKED has failed one attempt. Both are counted
in NONE and ASKED (R32, R85, R109, R141, R169, R170). The model's choices: REVOKED withdraws the stop point in both
states (log 29) and drops the approach in GRANTED too (log 60), but leaves those of another leg and of a backing (log
78), no order is left to end after a third failure once it has ended (log 28), and the sender need not be the serving
station (log 43). The demand of an attempt given up before REVOKED stays until the carriage stands (R142). -/
def Obligations.OtherTurnAnswersAreTaken : Prop :=
  ∀ (dt arm : Nat) (h : FrameHead) (s : State), s.hears h.src → s.station.isCarriage = true →
    let v := (s.old dt).heard h.src h.role .turnAnswer
    let back (f : Frame) : Frame := if f = .deck then .line else f
    (∀ c : Instr, c = .turnAnswerRefusedFull dt h s.station.par.station arm ∨
        c = .turnAnswerFault dt h s.station.par.station arm →
      (∀ p, s.station.passage.state = .asked → v.servingStation s.station.passage.turntable = some p →
        ∃ t : State, exec c s = .next t ∧ t = s.settled dt (v.withPassage { s.station.passage with
          retryDue := some ((s.old dt).ms + (v.peer p).agePeriod) }) .frame ∧
          t.station.pos.centre = s.station.pos.centre) ∧
      (s.station.passage.state ≠ .asked → ∃ t : State, exec c s = .next t ∧ t = s.settled dt v .frame ∧
        t.station.line.badCount = s.station.line.badCount)) ∧
    (s.station.passage.state = .granted ∨ s.station.passage.state = .aboardSent →
      let u := v.takeRevoked
      let served := s.station.order.state.active = true ∧
        ∃ l d e, s.station.order.leg? = some ⟨l, d, .turntable s.station.passage.turntable e⟩ ∧
          s.station.map.arm? l d.atHigh = some (s.station.passage.turntable, s.station.passage.entryArm)
      exec (.turnAnswerRevoked dt h s.station.par.station arm) s = .next (s.settled dt u .frame) ∧
      u.passage.state = .none ∧ u.pos.frame = back s.station.pos.frame ∧ u.pos.centre = s.station.pos.centre ∧
      (served → u.order.legStop = none) ∧ (¬served → u.order = s.station.order) ∧
      (s.station.appr.state = .aboardAsked ∨ (served ∧ s.station.backing = none) →
        u.appr.state = .none ∧ u.appr.attempts = 0 ∧ u.env.handedOn = false ∧
        u.env.finalStop = (if s.station.appr.state = .attempt then none else s.station.env.finalStop)) ∧
      (s.station.appr.state ≠ .aboardAsked → ¬(served ∧ s.station.backing = none) →
        u.appr = s.station.appr ∧ u.env = s.station.env) ∧
      ∀ n, s.station.map.deckSegment s.station.passage.turntable = some n →
        ∀ e ∈ u.claims.entries, ¬(e.seg = n ∧ e.purpose = .deck)) ∧
    (s.station.passage.state = .aboardSent →
      let u := v.takeNotCentred
      exec (.turnAnswerNotCentred dt h s.station.par.station arm) s = .next (s.settled dt u .frame) ∧
      u.passage.state = .granted ∧ u.pos.frame = back s.station.pos.frame ∧ u.pos.centre = s.station.pos.centre ∧
      (s.station.appr.state = .aboardAsked → s.station.appr.attempts < 3 →
        u.appr.state = .attempt ∧ u.appr.attempts = s.station.appr.attempts + 1 ∧
        u.env.finalStop = some s.station.appr.stop) ∧
      (s.station.appr.state = .aboardAsked → 3 ≤ s.station.appr.attempts →
        u.appr.state = .none ∧ u.appr.attempts = 0 ∧
        (s.station.appr.kind = .deck → s.station.order.state.active = true →
          u.order.state = .failed ∧ u.order.reason = .turntable)) ∧
      (s.station.appr.state ≠ .aboardAsked → u.appr = s.station.appr ∧ u.order = s.station.order)) ∧
    (s.station.passage.state = .none ∨ s.station.passage.state = .asked →
      ∀ c : Instr, c = .turnAnswerRevoked dt h s.station.par.station arm ∨
        c = .turnAnswerNotCentred dt h s.station.par.station arm →
      ∃ t : State, exec c s = .next t ∧ t = s.settled dt v.countBad .frame ∧
        t.station.line.badCount = min 255 (s.station.line.badCount + 1))

/-! ## The line (chapter 10) -/

/-- SEND_POINT_REACHED at a send point of the head: the head is in flight, its bytes go out, the line is not quiet; a
ROUTINE frame turns the courtesy flag over and a PROMPT one leaves it; a resend is counted, and a beacon empties the
answer slot. The body of a beacon shows the station as it stands: place by frame, steps, flags, the answer slot, the body
claim retry or the order record, the held list in rising segment number, or the deck, its holder and its queue. At any other
moment nothing is sent (R19, R69, R102, R153, R175, R179, R180, R183, R185, R187, R193). The model's choices: a send point is
one exact µs (log 9), the slot empties when the beacon is built (log 36), goes before the retry (log 80) and is shown in
LISTEN-IN too (log 106), the retry goes before the reason DUPLICATE (log 94), and a resent beacon counts its own resend (log
86). -/
def Obligations.SendPointSendsTheHead : Prop :=
  ∀ (dt : Nat) (x : QueueItem) (rest : List QueueItem) (s : State), s.station.onLine = true →
    s.station.line.queue = x :: rest →
    ((s.old dt).atSendPoint x = true →
      ∃ t : State, exec (.sendPointReached dt) s = .next t ∧ t = s.settled dt (s.old dt).sendHead {} ∧
        (s.old dt).sendHead.line.queue = { x with sends := x.sends + 1, inFlight := true } :: rest ∧
        t.station.line.sending.isSome = true ∧
        (x.frame ≠ .beacon → t.station.line.sending = some ((s.old dt).bytesOf x.frame)) ∧
        t.station.inputs.quietSince = none ∧
        t.station.line.courtesy = (if x.frame.prompt then s.station.line.courtesy else !s.station.line.courtesy) ∧
        t.station.line.resendCount =
          (if 0 < x.sends then min 255 (s.station.line.resendCount + 1) else s.station.line.resendCount) ∧
        t.station.order.answer = (if x.frame = .beacon then none else s.station.order.answer) ∧
        t.station.line.sentRecovered = (decide (x.frame = .beacon) && s.station.line.recovered) ∧
        (x.frame = .beacon → s.station.isCarriage = true → ∃ b : CarriageBeacon,
          t.station.line.sending = some (WireFrame.encode
            ⟨s.station.par.station, Role.code s.station.par.role, .carriageBeacon b⟩) ∧
          b.period = s.station.line.period ∧ b.u = s.station.pos.u ∧ b.halfLength = s.station.par.len / 2 ∧
          b.dir = s.station.pos.dir ∧ b.doubt = s.station.pos.doubt ∧ b.home = s.station.home.getD 255 ∧
          (s.station.pos.frame = .line → b.line = s.station.pos.line ∧ b.centre = s.station.pos.centre) ∧
          (s.station.pos.frame = .unknown → b.line = 254 ∧ b.centre = 0 ∧ b.home = 255) ∧
          (∀ k, s.station.pos.frame = .deck →
            s.station.map.deck? s.station.pos.deckTurntable s.station.pos.entryArm = some k →
            b.line = 255 ∧ b.deckTurntable = s.station.pos.deckTurntable ∧ b.centre = s.station.pos.centre - k.centre) ∧
          b.commanded = s.station.env.commanded ∧ b.effective = s.station.effective ∧
          b.loaded = decide (s.station.lift.load = .loaded) ∧ b.clamped = s.station.start.clamped ∧
          b.recovered = s.station.line.recovered ∧ b.fault = s.station.line.fault ∧ b.wait = s.station.claims.waitCount ∧
          (∀ a, s.station.order.answer = some a → b.orderNumber = a.number ∧ b.orderCode = a.state.code ∧
            b.reason = a.reason.code ∧ b.cursor = a.leg) ∧
          (s.station.order.answer = none → s.station.start.retryMark = true → b.orderNumber = 0 ∧
            b.orderCode = OrderState.waiting.code ∧ b.reason = Reason.none.code) ∧
          (s.station.order.answer = none → s.station.start.retryMark = false →
            b.orderNumber = s.station.order.number ∧ b.reason = s.station.order.reason.code ∧
            b.cursor = s.station.order.cursor ∧
            b.orderCode = (if s.station.order.state = .waiting ∧ s.station.order.blocked = true then blockedCode
              else s.station.order.state.code)) ∧
          b.held.Pairwise (fun g h => g.seg ≤ h.seg) ∧
          b.held.Perm ((s.station.claims.entries.filter fun e => e.state = .held || e.state = .yielding).map fun e =>
            ⟨e.seg, decide (e.state = .yielding)⟩) ∧
          b.badCount = s.station.line.badCount ∧ b.resendCount = t.station.line.resendCount) ∧
        (x.frame = .beacon → s.station.isCarriage = false → ∃ b : TurntableBeacon,
          t.station.line.sending = some (WireFrame.encode
            ⟨s.station.par.station, Role.code s.station.par.role, .turntableBeacon b⟩) ∧
          b.period = s.station.line.period ∧ b.turntable = s.station.par.turntable ∧
          b.aligned = s.station.tt.aligned ∧ b.deck = s.station.tt.deck.code ∧ b.reason = s.station.tt.reason.code ∧
          (s.station.tt.holder = none → b.holder = 0) ∧
          (∀ y, s.station.tt.holder = some y → b.holder = y.station) ∧
          b.faultExit = s.station.tt.faultExit ∧ b.clamped = s.station.start.clamped ∧ b.fault = s.station.line.fault ∧
          b.queue = s.station.tt.queue.map (·.station) ∧
          b.held.Pairwise (fun g h => g.seg ≤ h.seg) ∧
          b.held.Perm ((s.station.claims.entries.filter fun e => e.state = .held || e.state = .yielding).map fun e =>
            ⟨e.seg, decide (e.state = .yielding)⟩) ∧
          b.badCount = s.station.line.badCount ∧ b.resendCount = t.station.line.resendCount)) ∧
    ((s.old dt).atSendPoint x = false →
      exec (.sendPointReached dt) s = .next (s.settled dt (s.old dt) {}))

/-- ECHO_GOOD takes the frame in flight out and reports it SENT: a CLAIM's window opens for W, the time of a TURN-ASK or
TURN-ABOARD is set, LINE-RECOVERED clears when the beacon carried it, a line HEARD restarts the silence timer of a carriage
and a silent one is RECOVERING for B. ECHO_FAILED keeps it for a resend, and takes it out after the fourth sending: a CLAIM's
entry goes with its group without a loss, its maker told NOT-NOW, and a TURN-CLEAR is owed again (R58, R63, R168, R170, R182,
R185, R187). The model's choices: such a TURN-CLEAR is kept outside the passage (log 17); an echo judged ends the carrier, so
that the line is quiet from now and the gaps of R179 run (log 9); with the entries go the waiting CLAIM frames for their
segments, an orphan's among them (log 72). -/
def Obligations.EchoesAreJudged : Prop :=
  ∀ (dt : Nat) (x : QueueItem) (b : List Byte) (s : State), s.station.onLine = true →
    s.station.line.sending = some b → inFlight? s.station.line.queue = some x →
    (∃ t : State, exec (.echoGood dt) s = .next t ∧ t = s.settled dt ((s.old dt).goodEcho x) {} ∧
      ((s.old dt).goodEcho x).line.queue = withoutInFlight s.station.line.queue ∧
      t.station.line.sending = none ∧ t.station.inputs.quietSince = some (s.old dt).now ∧
      t.station.line.badCount = s.station.line.badCount ∧
      (s.station.line.state = .silent → t.station.line.state = .recovering ∧
        t.station.line.recoveryTimer = some ((s.old dt).ms + s.station.par.beacon)) ∧
      (∀ seg tag r, x.frame = .claim seg tag r → x.orphan = false →
        ((s.old dt).goodEcho x).claims.entries = s.station.claims.entries.map fun e =>
          if e.seg = seg ∧ e.state = .listening ∧ e.windowEnd = none then
            { e with windowEnd := some ((s.old dt).ms + s.station.par.window) }
          else e) ∧
      ((∀ seg tag r, x.frame ≠ .claim seg tag r) → ((s.old dt).goodEcho x).claims = s.station.claims) ∧
      ((s.old dt).goodEcho x).passage = { s.station.passage with
        askTime := if x.frame.kind = .turnAsk then some (s.old dt).ms else s.station.passage.askTime
        aboardTime := if x.frame.kind = .turnAboard then some (s.old dt).ms else s.station.passage.aboardTime } ∧
      t.station.line.recovered = (s.station.line.recovered && !s.station.line.sentRecovered) ∧
      t.station.line.sentRecovered = false ∧
      (s.station.line.state = .heard → t.station.line.state = .heard ∧
        t.station.line.silenceTimer = if s.station.isCarriage then some ((s.old dt).ms + 3 * s.station.line.period)
          else s.station.line.silenceTimer) ∧
      (s.station.line.state = .recovering → t.station.line.state = .recovering ∧
        t.station.line.recoveryTimer = s.station.line.recoveryTimer)) ∧
    ∃ t : State, exec (.echoFailed dt) s = .next t ∧ t = s.settled dt ((s.old dt).failedEcho x) {} ∧
      (x.sends < 4 → ((s.old dt).failedEcho x).line.queue =
        s.station.line.queue.map fun y => if y.inFlight then { y with inFlight := false } else y) ∧
      (4 ≤ x.sends → (∀ seg tag r, x.frame ≠ .claim seg tag r) →
        ((s.old dt).failedEcho x).line.queue = withoutInFlight s.station.line.queue) ∧
      (∀ seg tag r e, 4 ≤ x.sends → x.frame = .claim seg tag r → x.orphan = false →
        s.station.claims.entry? seg = some e → e.state = .listening → e.windowEnd = none →
        let group (y : ClaimEntry) : Bool := y.seg = seg || (e.tag ≠ 0 && y.tag = e.tag && y.state = .listening)
        let u := (s.old dt).failedEcho x
        u.claims.entries = s.station.claims.entries.filter (fun y => !group y) ∧
        u.claims.waitCount = s.station.claims.waitCount ∧
        u.line.queue = (withoutInFlight s.station.line.queue).filter (fun y =>
          !(y.frame.claims ((s.station.claims.entries.filter group).map (·.seg)))) ∧
        (e.asker = .startup → s.station.start.phase = .bodyClaim → s.station.line.fault = false →
          u.start.retryMark = true ∧ u.start.retryAt = some ((s.old dt).ms + s.station.par.beacon))) ∧
      (∀ n, 4 ≤ x.sends → x.frame = .turnClear n → n ∈ ((s.old dt).failedEcho x).passage.clearsOwed) ∧
      (x.sends < 4 → ((s.old dt).failedEcho x).claims = s.station.claims) ∧
      t.station.line.recovered = s.station.line.recovered ∧ t.station.line.sending = none ∧
      t.station.inputs.quietSince = some (s.old dt).now ∧
      t.station.line.badCount = s.station.line.badCount ∧
      (s.station.line.state = .recovering → t.station.line.state = .silent ∧ t.station.line.recoveryTimer = none)

/-- BEACON_TIMER_EXPIRY makes a beacon due and restarts the timer with the announced period; SILENCE_TIMER_EXPIRY makes
the line SILENT, halts the order with LINE and holds the command at 0; RECOVERY_TIMER_EXPIRY makes it HEARD, sets
LINE-RECOVERED and lets the order go on (R118, R186, R187). A frame offered to a queue of fewer than 8 goes behind its class,
PROMPT before ROUTINE; to a full one a ROUTINE frame is refused, and a PROMPT one takes the place of the last ROUTINE frame not
in flight, whose maker is told: an unsent entry goes with its group without a loss, a RELEASE is owed again, a TURN-ASK, a
TURN-CLEAR or a YIELD-ASK is to be made again; with no such frame it is refused (R58, R67, R181, R182). A due beacon is
queued, takes the place of one not in flight, or waits for one in flight or for a place, and none waits longer than that
(R183). The segments owed a RELEASE, up to 8, are merged into one not yet sent up to its 8 places, and the rest is a new
RELEASE or stays owed (R67, R184). The announced period is 4B while the station is parked and B else; as it ceases to be parked
with more than B to go, a beacon is due at once and the timer starts with B (R186). The model's choices: a ROUTINE frame in
flight stands first of its class only, so that a PROMPT one goes before it (log 110), what a displaced frame's maker does (logs
15 and 17), an orphan CLAIM displaced has no maker, and one goes with a claim for its segment (logs 33 and 72), a beacon that
takes a place leaves none due (log 85), and the moment within a command at which period and due beacon are looked at (log 3). -/
def Obligations.LineTimersRunOut : Prop :=
  (∀ (dt : Nat) (s : State), s.station.onLine = true →
    (dueAt s.station.line.beaconTimer (s.old dt).ms = true →
      let u := (s.old dt).beaconExpired
      exec (.beaconTimerExpiry dt) s = .next (s.settled dt u {}) ∧
        u.line.beaconTimer = some ((s.old dt).ms + s.station.line.period) ∧
        (u.line.beaconDue = true ∨ u.queues .beacon)) ∧
    (dueAt s.station.line.silenceTimer (s.old dt).ms = true → s.station.isCarriage = true →
      s.station.line.state = .heard →
      let u := (s.old dt).lineSilent
      ∃ t : State, exec (.silenceTimerExpiry dt) s = .next t ∧ t = s.settled dt u {} ∧
        t.station.line.state = .silent ∧ t.station.line.silenceTimer = none ∧ t.station.env.commanded = 0 ∧
        u.claims = s.station.claims ∧
        (s.station.order.state = .running ∨ s.station.order.state = .waiting ∨ s.station.order.state = .loading ∨
          s.station.order.state = .backing →
          u.order.state = .halted ∧ u.order.haltLine = true ∧ u.order.reason = .line ∧
          u.order.resume = some s.station.order.state)) ∧
    (dueAt s.station.line.recoveryTimer (s.old dt).ms = true → s.station.isCarriage = true →
      s.station.line.state = .recovering →
      let u := (s.old dt).lineRecover
      ∃ t : State, exec (.recoveryTimerExpiry dt) s = .next t ∧ t = s.settled dt u {} ∧
        t.station.line.state = .heard ∧ t.station.line.recovered = true ∧ t.station.line.recoveryTimer = none ∧
        t.station.line.silenceTimer = some ((s.old dt).ms + 3 * s.station.line.period) ∧
        (∀ st, s.station.order.state = .halted → s.station.order.haltLine = true →
          s.station.order.resume = some st →
          if s.station.order.haltOperator then u.order.state = .halted ∧ u.order.reason = .none
          else u.order.state = st ∧ u.order.reason = .none))) ∧
  (∀ (v : Station) (f : OutFrame),
    let q := v.line.queue
    let u := (v.offer f).1
    let placed (l : List QueueItem) : List QueueItem :=
      if f.prompt then l.filter (·.prompt) ++ { frame := f } :: l.filter (fun y => !y.prompt) else l ++ [{ frame := f }]
    (q.length < 8 → v.offer f = (v.withLine { v.line with queue := placed q }, true)) ∧
    (8 ≤ q.length → f.prompt = false ∨ (∀ y ∈ q, y.prompt = true ∨ y.inFlight = true) → v.offer f = (v, false)) ∧
    ∀ a x b, 8 ≤ q.length → f.prompt = true → q = a ++ x :: b → x.prompt = false → x.inFlight = false →
      (∀ y ∈ b, y.prompt = true ∨ y.inFlight = true) →
      let w := v.withLine { v.line with queue := placed (a ++ b) }
      (v.offer f).2 = true ∧
      (∀ seg tag r e, x.frame = .claim seg tag r → x.orphan = false → v.claims.entry? seg = some e →
        e.state = .listening → e.windowEnd = none →
        let group (z : ClaimEntry) : Bool := z.seg = seg || (e.tag ≠ 0 && z.tag = e.tag && z.state = .listening)
        u.claims.entries = v.claims.entries.filter (fun z => !group z) ∧ u.claims.waitCount = v.claims.waitCount ∧
        u.line.queue = takeBack (OutFrame.claims ((v.claims.entries.filter group).map (·.seg))) (placed (a ++ b))) ∧
      (∀ seg tag r, x.frame = .claim seg tag r → x.orphan = true → u = w) ∧
      (∀ segs, x.frame = .release segs → u.line = w.line ∧ u.claims.entries = v.claims.entries ∧
        ∀ n, n < 128 → u.claims.owed[n]? = if n ∈ segs then some true else v.claims.owed[n]?) ∧
      (∀ seg h c, x.frame = .yieldAsk seg h c → u.line = w.line ∧
        ∀ n, n < 128 → u.order.askTimes[n]? = if n = seg then some none else v.order.askTimes[n]?) ∧
      (∀ t c d, x.frame = .turnAsk t c d → u = w.withPassage { v.passage with askOwed := true }) ∧
      (∀ t, x.frame = .turnClear t → u.line = w.line ∧ t ∈ u.passage.clearsOwed) ∧
      (∀ t, x.frame = .turnAboard t → u = w)) ∧
  (∀ v : Station,
    let q := v.line.queue
    let u := v.beaconFallsDue
    ((∀ y ∈ q, y.frame ≠ .beacon) → q.length < 8 → u = v.withLine { v.line with
      beaconDue := false, queue := q.filter (·.prompt) ++ { frame := .beacon } :: q.filter (fun y => !y.prompt) }) ∧
    ((∀ y ∈ q, y.frame ≠ .beacon) → 8 ≤ q.length → (∀ y ∈ q, y.prompt = true ∨ y.inFlight = true) →
      u = v.withLine { v.line with beaconDue := true }) ∧
    ((∀ y ∈ q, y.frame ≠ .beacon) → 8 ≤ q.length → (∃ y ∈ q, y.prompt = false ∧ y.inFlight = false) →
      let w := (v.offer .beacon).1
      u = w.withLine { w.line with beaconDue := false }) ∧
    (∀ a x b, q = a ++ x :: b → x.frame = .beacon → (∀ y ∈ a ++ b, y.frame ≠ .beacon) →
      u.line = if x.inFlight then { v.line with beaconDue := true }
        else { v.line with beaconDue := false, queue := a ++ { x with sends := 0 } :: b })) ∧
  (∀ v : Station,
    let q := v.line.queue
    let u := v.offerReleases
    let new := ((List.range 128).filter fun n => v.claims.owed[n]? = some true).take 8
    let unsent (y : QueueItem) : Prop := y.sends = 0 ∧ y.inFlight = false ∧ ∃ l, y.frame = .release l ∧ l.length < 8
    (new = [] → u = v) ∧
    (new ≠ [] → (∀ y ∈ q, ¬unsent y) →
      (q.length < 8 → u.line = { v.line with queue := q ++ [{ frame := .release new }] } ∧
        u.claims.entries = v.claims.entries ∧
        ∀ n, n < 128 → u.claims.owed[n]? = if n ∈ new then some false else v.claims.owed[n]?) ∧
      (8 ≤ q.length → u = v)) ∧
    ∀ a x b segs, new ≠ [] → q = a ++ x :: b → (∀ y ∈ a, ¬unsent y) → unsent x → x.frame = .release segs →
      let fresh := new.filter fun n => !segs.contains n
      let rest := fresh.drop (8 - segs.length)
      ∃ l, l.Perm (segs ++ fresh.take (8 - segs.length)) ∧ l.Pairwise (· ≤ ·) ∧
        let merged := a ++ { x with frame := .release l } :: b
        u.claims.entries = v.claims.entries ∧
        (rest = [] → u.line = { v.line with queue := merged }) ∧
        (rest ≠ [] → u.line = { v.line with
          queue := if q.length < 8 then merged ++ [{ frame := .release rest }] else merged }) ∧
        ∀ n, n < 128 → u.claims.owed[n]? =
          if n ∈ new ∧ (q.length < 8 ∨ n ∉ rest) then some false else v.claims.owed[n]?) ∧
  (∀ v : Station, 1 ≤ v.par.beacon →
    (v.parked = true → v.line.period = v.par.beacon ∨ v.line.period = 4 * v.par.beacon →
      v.periodEval = v.withLine { v.line with period := 4 * v.par.beacon }) ∧
    (v.parked = false → v.line.period = v.par.beacon → v.periodEval = v) ∧
    (v.parked = false → v.line.period = 4 * v.par.beacon →
      let far := ∃ e, v.line.beaconTimer = some e ∧ v.ms + v.par.beacon < e
      (¬far → v.periodEval = v.withLine { v.line with period := v.par.beacon }) ∧
      (far → v.periodEval = (v.withLine { v.line with
        period := v.par.beacon, beaconTimer := some (v.ms + v.par.beacon) }).beaconFallsDue))) ∧
  ∀ (c : Instr) (s t : State), exec c s = .next t → t.station.onLine = true →
    (t.station.line.beaconDue = true → (∃ y ∈ t.station.line.queue, y.frame = .beacon) ∨
      (8 ≤ t.station.line.queue.length ∧ ∀ y ∈ t.station.line.queue, y.prompt = true ∨ y.inFlight = true)) ∧
    (t.station.start.phase ≠ .ready → t.station.line.period = t.station.par.beacon) ∧
    (s.station.start.phase = .ready ∨ t.station.line.fault = false → t.station.start.phase = .ready →
      t.station.line.period =
        if (if t.station.isCarriage then t.station.order.state.resting = true ∧ t.station.inputs.confirmed = 0
          else t.station.tt.deck = .idle ∧ t.station.tt.holder = none ∧ t.station.tt.queue = []) then
          4 * t.station.par.beacon
        else t.station.par.beacon)

/-- CARRIER_HEARD ends the quiet; CONFIRMED_STEP_CHANGE and DECK_SENSOR_CHANGE take the levels reported;
STEP_DWELL_END changes nothing by itself but is an evaluation of the envelope (R91, R92, R154, R179). -/
def Obligations.InputsTakeReportedLevels : Prop :=
  ∀ (dt : Nat) (s : State),
    (∃ t : State, exec (.carrierHeard dt) s = .next t ∧ t.station.inputs = { s.station.inputs with quietSince := none } ∧
      t.station.peers = s.station.peers) ∧
    (∀ k, k ≤ 7 → ∃ t : State, exec (.confirmedStepChange dt k) s = .next t ∧
      t = s.settled dt ((s.old dt).withInputs { s.station.inputs with confirmed := k }) { env := true } ∧
      t.station.inputs = { s.station.inputs with confirmed := k } ∧ t.station.pos.centre = s.station.pos.centre ∧
      t.station.effective = max t.station.env.commanded k) ∧
    (∀ a b c, ∃ t : State, exec (.deckSensorChange dt a b c) s = .next t ∧
      t = s.settled dt ((s.old dt).withInputs
        { s.station.inputs with deckOccupied := a, deckCentred := b, deckClear := c }) { tt := true } ∧
      t.station.inputs = { s.station.inputs with deckOccupied := a, deckCentred := b, deckClear := c }) ∧
    ∀ r, s.station.onLine = true → s.station.env.lastRaise = some r → r + s.station.par.dwell ≤ (s.old dt).ms →
      ∃ t : State, exec (.stepDwellEnd dt) s = .next t ∧ t = s.settled dt (s.old dt) { env := true } ∧
        t.station.inputs = s.station.inputs ∧ t.station.pos.centre = s.station.pos.centre

/-! ## Times of the claims, the peers, the order and the turntable -/

/-- LISTEN_WINDOW_END: when the last window of a claim or its group has ended, every member is HELD with one won time; under
the drop mark every member is then released at once, out of the list with its stamp set and its RELEASE owed or queued, while
what was held before stays; a guard claim so won sets the wait count to 0 either way. Before that end nothing changes (R55,
R59, R64, R66, R67, R68). -/
def Obligations.WindowEndWinsTheClaim : Prop :=
  ∀ (dt seg : Nat) (e : ClaimEntry) (s : State), s.station.onLine = true → s.station.claims.entry? seg = some e →
    e.state = .listening →
    ((s.old dt).windowOver e = true → e.drop = false →
      let u := (s.old dt).endWindow seg
      ∃ t : State, exec (.listenWindowEnd dt seg) s = .next t ∧ t = s.settled dt u {} ∧
        (u.claims.entries = s.station.claims.entries.map fun x =>
          if e.groupedWith x then { x with state := .held, wonTime := some ((s.old dt).lastWindowEnd e) } else x) ∧
        u.claims.holds seg = true ∧ (e.asker = .startup → s.station.start.phase = .bodyClaim → u.start.phase = .ready) ∧
        u.claims.waitCount = (if e.purpose = .guard then 0 else s.station.claims.waitCount) ∧
        t.station.peers = s.station.peers ∧ t.station.pos.centre = s.station.pos.centre) ∧
    ((s.old dt).windowOver e = true → e.drop = true →
      let u := (s.old dt).endWindow seg
      ∃ t : State, exec (.listenWindowEnd dt seg) s = .next t ∧ t = s.settled dt u {} ∧
        (s.station.claims.bounded → ∀ x ∈ s.station.claims.entries,
          (e.groupedWith x = true → x.purpose ≠ .deck → (s.old dt).released u x.seg) ∧
          (e.groupedWith x = false → x.state ≠ .listening → x ∈ u.claims.entries)) ∧
        u.claims.waitCount = (if e.purpose = .guard then 0 else s.station.claims.waitCount) ∧
        t.station.peers = s.station.peers ∧ t.station.pos.centre = s.station.pos.centre) ∧
    ((s.old dt).windowOver e = false → exec (.listenWindowEnd dt seg) s = .next (s.settled dt (s.old dt) {}))

/-- HOLD_LIMIT_REACHED: a HELD entry with a pending yield is YIELDING, or, where the extent has come to overlap it, stays
HELD and its asker is told OCCUPIED; before the limit nothing changes (R71). -/
def Obligations.HoldLimitYieldsTheEntry : Prop :=
  ∀ (dt seg p : Nat) (e : ClaimEntry) (s : State), s.station.onLine = true → s.station.claims.entry? seg = some e →
    e.state = .held → e.pendingYield = some p →
    let u := (s.old dt).holdLimit seg
    exec (.holdLimitReached dt seg) s = .next (s.settled dt u {}) ∧
    (s.station.holdEnd e ≤ (s.old dt).ms → s.station.overlaps seg = false →
      u.claims.entries = s.station.claims.entries.map fun x =>
        if x.seg = seg then { x with state := .yielding, pendingYield := none } else x) ∧
    (s.station.holdEnd e ≤ (s.old dt).ms → s.station.overlaps seg = true → s.station.line.queue.length < 8 →
      u.queues (.object seg .occupied s.station.plainRank p) ∧
      u.claims.entries = s.station.claims.entries.map fun x =>
        if x.seg = seg then { x with pendingYield := none } else x) ∧
    ((s.old dt).ms < s.station.holdEnd e → u = s.old dt)

/-- PENDING_NOTE_EXPIRY takes the expired notes for the segment out; PEER_STALE and PEER_LOST move an entry on 3 and 20 of
its periods after it was last heard, and not before; no other entry changes (R42, R45). -/
def Obligations.PeerEntriesAge : Prop :=
  ∀ (dt n seg : Nat) (s : State), s.station.onLine = true → 1 ≤ n → n ≤ 29 →
    let e := s.station.peer n
    let now := (s.old dt).ms
    (∃ t : State, exec (.pendingNoteExpiry dt n seg) s = .next t ∧
      t.station.peer n = { e with notes := e.notes.filter fun x => !(x.seg = seg && x.expiry ≤ now) } ∧
      ∀ m, m ≠ n → t.station.peer m = s.station.peer m) ∧
    (∃ t : State, exec (.peerStale dt n) s = .next t ∧
      t.station.peer n = (if e.state = .fresh ∧ e.lastHeard + 3 * e.agePeriod ≤ now then { e with state := .stale } else e) ∧
      ∀ m, m ≠ n → t.station.peer m = s.station.peer m) ∧
    ∃ t : State, exec (.peerLost dt n) s = .next t ∧
      t.station.peer n = (if e.state = .stale ∧ e.lastHeard + 20 * e.agePeriod ≤ now then { e with state := .lost } else e) ∧
      ∀ m, m ≠ n → t.station.peer m = s.station.peer m

/-- ORDER_EVALUATION_TIMER restarts with B and evaluates the order unit; BLOCK_TIME_EXPIRY makes a WAITING order show
BLOCKED; PASSAGE_RETRY_DUE sends TURN-ASK again with the arms held. What the passage side does at an evaluation with no
TURN-CLEAR owed: in NONE a TURNTABLE leg near its line end sends TURN-ASK, with the arms and the deck reserve set; in
ASKED, GRANTED and LEAVING the passage is given up with TURN-CLEAR and its DECK entry removed once R171 or R172 says so;
in ABOARD-SENT and ACCEPTED it stands (R102, R107, R114, R168, R169, R171, R172). What the body claim of SET-POSITION
still owes is asked for again once every B until it is won (R121); that ORDER_EVALUATION_TIMER is the moment, before the
evaluation, is the model's choice (log 18). That the retry due is none after the repeat is
the model's choice too (log 92). -/
def Obligations.OrderTimersAndPassageAct : Prop :=
  ∀ (dt : Nat) (s : State), s.station.onLine = true → s.station.isCarriage = true →
    (dueAt s.station.order.evalTimer (s.old dt).ms = true →
      let v := (s.old dt).withOrder { s.station.order with evalTimer := some ((s.old dt).ms + s.station.par.beacon) }
      ∃ t : State, exec (.orderEvaluationTimer dt) s = .next t ∧ t = s.settled dt v.retryBody { order := true } ∧
        t.station.order.evalTimer = some ((s.old dt).ms + s.station.par.beacon) ∧
        t.station.order.number = s.station.order.number) ∧
    (∀ w, s.station.order.state = .waiting → s.station.order.waitStart = some w →
      w + s.station.par.blockTime * 1000 ≤ (s.old dt).ms →
      let u := (s.old dt).withOrder { s.station.order with blocked := true }
      ∃ t : State, exec (.blockTimeExpiry dt) s = .next t ∧ t = s.settled dt u { order := true } ∧
        u.order.shownState = 9 ∧ t.station.order.number = s.station.order.number) ∧
    (s.station.passage.state = .asked → dueAt s.station.passage.retryDue (s.old dt).ms = true →
      s.station.line.queue.length < 8 →
      let u := (s.old dt).askAgain
      ∃ t : State, exec (.passageRetryDue dt) s = .next t ∧ t = s.settled dt u {} ∧
        u.queues (.turnAsk s.station.passage.turntable s.station.passage.entryArm s.station.passage.exitArm) ∧
        u.passage.retryDue = none ∧ u.passage.state = .asked ∧ t.station.peers = s.station.peers) ∧
    ∀ v : Station, v.passage.clearsOwed = [] →
      let u := v.passageEval
      let givenUp := u.passage = {} ∧ u.claims.deckReserve = false ∧ u.queues (.turnClear v.passage.turntable) ∧
        ∀ n, v.map.deckSegment v.passage.turntable = some n → ∀ e ∈ u.claims.entries, ¬(e.seg = n ∧ e.purpose = .deck)
      let keeps := v.order.state.active = true ∧ ∃ l d e, v.order.leg? = some ⟨l, d, .turntable v.passage.turntable e⟩ ∧
        v.map.arm? l d.atHigh = some (v.passage.turntable, v.passage.entryArm)
      (∀ l d t e x k a, v.passage.state = .none → v.order.leg? = some ⟨l, d, .turntable t e⟩ → v.map.line? l = some x →
        v.map.arm? l d.atHigh = some (k, a) →
        let far : Int := (v.d 7 + v.par.margin : Nat)
        let wanted := (v.order.state = .running ∨ v.order.state = .waiting) ∧ v.pos.frame = .line ∧
          if d = .up then x.high ≤ v.guardedFront + far else v.guardedFront - far ≤ x.low
        (wanted → v.line.queue.length < 8 →
          u.passage = { state := .asked, turntable := t, entryArm := a, exitArm := e } ∧ u.claims.deckReserve = true ∧
          u.queues (.turnAsk t a e)) ∧
        (¬wanted → u = v)) ∧
      (v.passage.state = .none → (∀ l d t e, v.order.leg? ≠ some ⟨l, d, .turntable t e⟩) → u = v) ∧
      (v.passage.state = .asked → v.pos.frame ≠ .deck → ¬keeps → v.line.queue.length < 8 → givenUp) ∧
      (v.passage.state = .asked → v.pos.frame = .deck ∨ keeps → v.passage.askOwed = false →
        v.servingStation v.passage.turntable ≠ none → u = v) ∧
      (v.passage.state = .granted → ¬keeps → v.onPassageDeck = false → v.line.queue.length < 8 → givenUp) ∧
      (v.passage.state = .granted → keeps ∨ v.onPassageDeck = true → u = v) ∧
      (v.passage.state = .leaving → v.pos.frame = .line → v.onPassageDeck = false → v.line.queue.length < 8 → givenUp) ∧
      (v.passage.state = .leaving → v.pos.frame ≠ .line ∨ v.onPassageDeck = true → u = v) ∧
      (v.passage.state = .aboardSent ∨ v.passage.state = .accepted → u = v)

/-- The turntable's five times: the evaluation timer restarts with B; the guard retry time ends; a grant not taken up is
revoked, or its timer starts again while the holder is on its way; FAULT-EXIT is set; a rotation out of time is FAULT
with TIMEOUT, its holder and queue kept (R157, R158, R162, R164, R165). -/
def Obligations.TurntableTimersRunOut : Prop :=
  ∀ (dt : Nat) (s : State), s.station.onLine = true →
    (dueAt s.station.tt.evalTimer (s.old dt).ms = true →
      ∃ t : State, exec (.turntableEvaluationTimer dt) s = .next t ∧
        t.station.tt.evalTimer = some ((s.old dt).ms + s.station.par.beacon) ∧
        t.station.tt.grantHold = s.station.tt.grantHold) ∧
    (dueAt s.station.tt.retryTime (s.old dt).ms = true →
      exec (.guardRetryTime dt) s =
        .next (s.settled dt ((s.old dt).withTt { s.station.tt with retryTime := none }) { tt := true })) ∧
    (∀ h k, dueAt s.station.tt.entryTimer (s.old dt).ms = true → s.station.tt.deck = .awaitEntry →
      s.station.tt.holder = some h → s.station.map.deck? s.station.par.turntable h.entryArm = some k →
      let u := (s.old dt).entryExpired
      exec (.entryTimerExpiry dt) s = .next (s.settled dt u { tt := true }) ∧
      (s.station.inputs.deckOccupied = true ∨ s.station.holderIn (s.station.map.deckSegment s.station.par.turntable) = true ∨
          s.station.holderIn k.guardSegment = true →
        u.tt = { s.station.tt with entryTimer := some ((s.old dt).ms + s.station.par.entryTimeout * 1000) }) ∧
      (s.station.inputs.deckOccupied = false → s.station.holderIn (s.station.map.deckSegment s.station.par.turntable) = false →
        s.station.holderIn k.guardSegment = false → s.station.line.queue.length < 8 →
        u.tt.deck = .idle ∧ u.tt.holder = none ∧ u.queues (.turnAnswer h.station .revoked h.entryArm))) ∧
    (dueAt s.station.tt.exitTimer (s.old dt).ms = true → s.station.tt.deck = .awaitExit →
      exec (.exitTimerExpiry dt) s =
        .next (s.settled dt ((s.old dt).withTt { s.station.tt with faultExit := true, exitTimer := none }) { tt := true })) ∧
    (dueAt s.station.tt.rotationTimer (s.old dt).ms = true → s.station.tt.deck = .rotating →
      let u := (s.old dt).deckFault .timeout
      exec (.rotationTimerExpiry dt) s = .next (s.settled dt u { tt := true }) ∧
      u.tt = { s.station.tt with
        deck := .fault, reason := .timeout, entryTimer := none, exitTimer := none, rotationTimer := none } ∧
      u.rotationOutput = none ∧ u.claims = s.station.claims)

/-- What one evaluation of the turntable unit does. In IDLE the queue head over the aligned arm is granted, one over
another arm begins a rotation once the deck is clear, and nothing is served under the grant hold, FAULT or guard release
pending; in CLAIMING the missing guards are asked for as a group, and with every guard HELD here, listed by no peer, and the
deck sensor right the rotation starts, or is FAULT with DRIVE; a peer of any freshness that lists a guard keeps the deck in
CLAIMING; in ABOARD the exit rotation begins. In AWAIT-EXIT a deck that is clear and left, by
TURN-CLEAR or by the holder's place, is IDLE with no holder and no exit timer, however its EXIT stands; one that is not stays,
and its EXIT goes out once guard release pending has cleared, an EXIT that found no room being offered again. In AWAIT-ENTRY
a GRANT that found no room is offered again. In FAULT, NO-ARM without a holder clears itself at a reported arm, and any other
fault stays. The evaluation timer is such an evaluation (R46, R157, R158, R159, R160, R163, R164, R165, R166, R167). The
model's choices: a peer's hold is looked at with the guards won too (log 56); CLAIMING goes on while a guard request cannot be
met or waits for the retry time (log 11), and while a guard listens under the drop mark (log 108); guard release pending waits
for a RELEASE to come (log 13); the evaluation that returns the deck to IDLE serves no head (log 79); ROTATION-FAULT is judged
once all else lets the rotation start (log 97). -/
def Obligations.TurntableServesItsQueue : Prop :=
  (∀ (dt : Nat) (s : State), s.station.onLine = true → dueAt s.station.tt.evalTimer (s.old dt).ms = true →
    exec (.turntableEvaluationTimer dt) s = .next (s.settled dt ((s.old dt).withTt
      { s.station.tt with evalTimer := some ((s.old dt).ms + s.station.par.beacon) }) { tt := true })) ∧
  ∀ v : Station, v.turning = true →
    let u := v.ttEval
    let missing := v.guards.filter fun n => !v.claims.isHeld n
    let listed := ∃ n ∈ v.guards, ∃ p ∈ trackStations, (v.peer p).state ≠ .absent ∧ n ∈ (v.peer p).held.map (·.seg)
    (v.tt.deck = .idle → v.tt.releasePending = false →
      (v.tt.queue = [] ∨ v.tt.grantHold = true ∨ v.line.fault = true → u = v) ∧
      (∀ r rest, v.tt.queue = r :: rest → v.tt.grantHold = false → v.line.fault = false →
        (r.entryArm = v.tt.aligned → u.tt.deck = .awaitEntry ∧ u.tt.holder = some ⟨r.station, r.entryArm, r.exitArm⟩ ∧
          u.tt.queue = rest ∧ u.tt.aboard = false ∧ u.tt.clearHeard = false ∧
          u.tt.entryTimer = some (v.ms + v.par.entryTimeout * 1000) ∧
          (u.tt.grantOwed = true ∨ u.queues (.turnAnswer r.station .grant r.entryArm)) ∧
          (v.line.queue.length < 8 → u.tt.grantOwed = false)) ∧
        (r.entryArm ≠ v.tt.aligned → v.inputs.deckClear = false → u = v) ∧
        (r.entryArm ≠ v.tt.aligned → v.inputs.deckClear = true → u = v.beginClaim r.entryArm .entry ∧
          u.tt.target = some r.entryArm ∧ u.tt.purpose = .entry ∧ u.tt.queue = v.tt.queue ∧
          (missing ≠ [] ∨ listed → u.tt.deck = .claiming)))) ∧
    (v.tt.deck = .idle → v.tt.releasePending = true → v.guardReleaseOpen = true → u = v) ∧
    (v.tt.deck = .claiming → v.tt.releasePending = false →
      (missing = [] → ¬listed → (v.tt.purpose = .entry ∧ v.inputs.deckClear = true) ∨
          (v.tt.purpose = .exit ∧ v.inputs.deckCentred = true) →
        if v.inputs.rotationFault then u = v.deckFault .drive
        else u = v.withTt { v.tt with deck := .rotating, rotationTimer := some (v.ms + v.par.rotationTimeout * 1000) } ∧
          u.rotationOutput = v.tt.target) ∧
      (missing = [] → listed ∨ (v.tt.purpose = .entry ∧ v.inputs.deckClear = false) ∨
          (v.tt.purpose = .exit ∧ v.inputs.deckCentred = false) → u = v) ∧
      (missing ≠ [] → (∃ e ∈ v.claims.entries, e.purpose = .guard ∧ e.state = .listening) ∨
          (∃ t, v.tt.retryTime = some t ∧ v.ms < t) → u = v) ∧
      (missing ≠ [] → (∀ e ∈ v.claims.entries, ¬(e.purpose = .guard ∧ e.state = .listening)) →
          (∀ t, v.tt.retryTime = some t → t ≤ v.ms) →
        u = ((v.withTt { v.tt with retryTime := none }).claimGroup missing .guard .turntable).1)) ∧
    (∀ x, v.tt.deck = .aboard → v.tt.releasePending = false → v.tt.holder = some x →
      (v.line.fault = true → u = v) ∧
      (v.line.fault = false → u = v.beginClaim x.exitArm .exit ∧ u.tt.target = some x.exitArm ∧ u.tt.purpose = .exit ∧
        u.tt.holder = some x ∧ (missing ≠ [] ∨ listed → u.tt.deck = .claiming))) ∧
    (∀ x, v.tt.deck = .awaitExit → v.tt.holder = some x →
      let onDeck := ∃ n, v.map.deckSegment v.par.turntable = some n ∧ (v.peer x.station).occupies v.map n = true
      (v.inputs.deckClear = true → v.tt.clearHeard = true ∨ ¬onDeck →
        u.tt.deck = .idle ∧ u.tt.holder = none ∧ u.tt.aboard = false ∧ u.tt.clearHeard = false ∧ u.tt.exitTimer = none ∧
        u.tt.faultExit = false ∧ u.tt.aligned = v.tt.aligned ∧ u.tt.queue = v.tt.queue) ∧
      (v.inputs.deckClear = false ∨ (v.tt.clearHeard = false ∧ onDeck) →
        u.tt.deck = .awaitExit ∧ u.tt.holder = some x ∧ u.tt.clearHeard = v.tt.clearHeard ∧
        u.tt.faultExit = v.tt.faultExit ∧
        (v.tt.exitOwed = .toMake → v.tt.releasePending = true → v.guardReleaseOpen = true → u = v) ∧
        (v.tt.exitOwed = .toMake → v.tt.releasePending = false → v.line.queue.length < 8 →
          u.queues (.turnAnswer x.station .exit x.exitArm) ∧ u.tt.exitOwed = .none ∧
          u.tt.exitTimer = some (v.ms + v.par.exitTimeout * 1000)) ∧
        (v.tt.exitOwed = .toOffer → v.tt.clearHeard = false → u.tt.exitTimer = v.tt.exitTimer ∧
          (v.line.queue.length < 8 →
            u.queues (.turnAnswer x.station .exit x.exitArm) ∧ u.tt.exitOwed = .none) ∧
          (8 ≤ v.line.queue.length → (∀ y ∈ v.line.queue, y.frame.prompt = true) →
            u.tt.exitOwed = .toOffer ∧ u.line = v.line)) ∧
        (v.tt.exitOwed = .toOffer → v.tt.clearHeard = true → v.tt.releasePending = false → u = v) ∧
        (v.tt.exitOwed = .none → v.tt.releasePending = false → u = v))) ∧
    (∀ x, v.tt.deck = .awaitEntry → v.tt.holder = some x → u.tt.deck = .awaitEntry ∧ u.tt.holder = some x ∧
      u.tt.entryTimer = v.tt.entryTimer ∧
      (v.tt.grantOwed = true → v.tt.aboard = false → v.line.queue.length < 8 →
        u.queues (.turnAnswer x.station .grant x.entryArm) ∧ u.tt.grantOwed = false) ∧
      (v.tt.grantOwed = false → v.tt.releasePending = false → u = v)) ∧
    (v.tt.deck = .fault →
      (∀ a, v.tt.reason = .noArm → v.tt.holder = none → v.inputs.rotationFault = false → v.inputs.armAligned = some a →
        u.tt.deck ≠ .fault ∧ u.tt.aligned = a ∧ u.tt.reason = .none ∧
        (v.tt.queue = [] → u.tt.deck = .idle ∧ u.tt.holder = none ∧ u.tt.target = none ∧ u.tt.purpose = .none ∧
          (v.claims.bounded → ∀ e ∈ v.claims.entries, e.purpose = .guard → e.state = .held → v.released u e.seg))) ∧
      (v.tt.reason ≠ .noArm ∨ v.tt.holder ≠ none ∨ v.inputs.rotationFault = true ∨ v.inputs.armAligned = none →
        u.tt.deck = .fault ∧ u.tt.reason = v.tt.reason ∧ (v.tt.releasePending = false → u = v)))

/-! ## Evaluations of the order unit (chapters 5, 6, 7) -/

/-- The order unit's claims. Ahead: the nearest wanted segment not held is asked for as AHEAD, one claim ahead in flight
at a time; one that a peer holds is asked to be yielded, where the peer is not LOST, not every holder is yielding, this
station outranks it and H has passed since the last ask. Behind: the HELD AHEAD and BODY entries wholly behind the
guarded rear are released and go onto the trail stack in the order left, each once, on a deck by the entry line. A
RUNNING order at rest with no attempt in progress waits while the claim term is 0 and the nearest wanted segment is
neither held nor listened for, or while a GRANT or an EXIT is awaited, and runs again at the first evaluation that finds
neither. The envelope releases every YIELDING entry once it can stop within its held track with M to spare, and none
before (R96, R107, R111, R112, R113, R115, R126). That an order that wants nothing unheld runs again is R113 read word
for word (log 34); that one does whose nearest segment is only listened for is the model's choice (log 107), and so is where
backing and the passage side stand among the tasks of R107 (log 63). -/
def Obligations.OrderUnitClaimsReleasesAndWaits : Prop :=
  ∀ v : Station, v.bounded →
    (∀ seg, v.nearestUnheld = some seg →
      let own : Rank := ⟨v.claims.waitCount, v.wouldBeCourteous seg⟩
      ((∃ e ∈ v.claims.entries, e.state = .listening ∧ (e.seg = seg ∨ e.purpose = .ahead)) → v.claimAhead = v) ∧
      ((∀ e ∈ v.claims.entries, ¬(e.state = .listening ∧ (e.seg = seg ∨ e.purpose = .ahead))) →
        (v.claimTest seg 1 = none → v.line.queue.length < 8 →
          v.claimAhead.claims.entries = v.claims.entries ++
            [{ seg := seg, purpose := .ahead, asker := .order, courtesy := own.courtesy }] ∧
          v.claimAhead.queues (.claim seg 0 own)) ∧
        (∀ a, v.claimTest seg 1 = some a → (∀ p, a ≠ .heldBy p) → v.claimAhead = v) ∧
        (∀ p, v.claimTest seg 1 = some (.heldBy p) →
          let asks := (v.peer p).state ≠ .lost ∧
            (∃ n ∈ v.holders seg, ∀ x ∈ (v.peer n).held, x.seg = seg → x.yielding = false) ∧
            outranks v.plainRank v.par.station ⟨(v.peer p).rank.wait, false⟩ p = true ∧
            ∀ t, v.order.askTimes[seg]? = some (some t) → t + v.par.hold * 1000 ≤ v.ms
          (asks → v.line.queue.length < 8 → v.claimAhead.claims = v.claims ∧
            v.claimAhead.queues (.yieldAsk seg p v.claims.waitCount) ∧
            (seg < 128 → v.claimAhead.order.askTimes[seg]? = some (some v.ms))) ∧
          (¬asks → v.claimAhead = v)))) ∧
    (v.nearestUnheld = none → v.claimAhead = v) ∧
    (∀ g, v.order.leg? = some g →
      (v.order.state = .backing ∨ v.pos.dir ≠ g.dir ∨ v.pos.frame = .unknown → v.releaseBehind = v) ∧
      (v.order.state ≠ .backing → v.pos.dir = g.dir → v.pos.frame ≠ .unknown →
        v.releaseBehind.claims.entries = v.claims.entries.filter (fun e => !v.behindSegs.contains e.seg) ∧
        v.releaseBehind.trail = (v.behindSegs.reverse ++ v.trail).take 8)) ∧
    (∃ l : List Stretch, v.behindSegs = l.map (·.seg) ∧
      l.Pairwise (fun a b => if v.pos.dir = .up then a.stop ≤ b.stop else b.base ≤ a.base) ∧
      l.Perm ((v.map.railStretches v.pos.line).filter fun b =>
        (if v.pos.dir = .up then decide (b.stop ≤ v.guardedRear) else decide (v.guardedRear < b.base)) &&
        v.claims.entries.any fun e => e.seg = b.seg && e.state = .held && (e.purpose = .ahead || e.purpose = .body))) ∧
    (((v.map.railStretches v.pos.line).map (·.seg)).Nodup → v.behindSegs.Nodup) ∧
    (let stuck := (v.pClaim = 0 ∧ ∃ n, v.nearestUnheld = some n ∧ v.claims.listens n = false) ∨
        v.passage.state = .asked ∨ v.passage.state = .aboardSent ∨ v.passage.state = .accepted ∨ v.askWanted ≠ none;
      (v.order.state = .running → v.effective = 0 → v.appr.state ≠ .attempt → stuck →
        v.waitingTest = v.withOrder { v.order with state := .waiting, waitStart := some v.ms }) ∧
      (v.order.state = .running → v.effective ≠ 0 ∨ v.appr.state = .attempt ∨ ¬stuck → v.waitingTest = v) ∧
      (v.order.state = .waiting → stuck → v.waitingTest = v) ∧
      (v.order.state = .waiting → ¬stuck →
        v.waitingTest = v.withOrder { v.order with state := .running, blocked := false, waitStart := none }) ∧
      (v.order.state ≠ .running → v.order.state ≠ .waiting → v.waitingTest = v)) ∧
    (v.driving = true →
      let w := v.backingEval.releaseBehind.passageEval
      v.orderEval = if w.order.state = .running ∨ w.order.state = .waiting then w.claimAhead.waitingTest else w) ∧
    (v.pos.frame ≠ .unknown → ((v.dEff + v.par.margin : Nat) : Int) ≤ v.dClaim →
      v.releaseTest.claims.entries = v.claims.entries.filter (·.state ≠ .yielding)) ∧
    (v.pos.frame = .unknown ∨ v.dClaim < ((v.dEff + v.par.margin : Nat) : Int) → v.releaseTest = v)

/-- A backing under way. The asked segment is released, its RELEASE owed or queued, once the guarded end has cleared it
by M, in BACKING, HALTED and STOPPED alike; popped segments that the extent overlaps are marked entered, but for those
lost before. One evaluation in BACKING, with no release to make and its marks up to date, acts on the first case that
applies: failure after a lost claim or entry, covered run, a window awaited, a claim made again, an empty stack, the top
popped and claimed as BACK. A failure unwinds the record: entered BACK entries become BODY, the others are released and
pushed back. An arrival ends it with the asked segment released, the BACK entries under the extent BODY and those beyond
it released, or fails where the extent still overlaps it (R130, R131, R132, R133, R135). That the rule waits while the
emergency latch is set and a popped segment's claim or entry has been lost, and that the marks stay, is the model's
reading of R136 (log 44); that a claim answered HELD BY or CLAIMED BY fails the backing is R130's (log 57). The model's
choices: a YIELDING asked segment counts as released when the test of R131 is met or at arrival, and stays in the list (log
82); a failed backing releases the HELD BACK entry of a segment popped twice, once listed before (log 75); LISTED fails the
backing (log 81); the test of R131 asks for frame LINE alone, whatever the line (log 105). -/
def Obligations.BackingAdvancesAndEnds : Prop :=
  ∀ (v : Station) (b : Backing), v.claims.bounded → v.backing = some b →
    (∀ g e, b.released = false → v.claims.entry? b.seg = some e → v.map.segment? b.seg = some g →
      let u := v.backingRelease
      ((v.pos.frame = .line ∧ (b.forward = .up → v.guardedHi ≤ g.base - v.par.margin) ∧
          (b.forward = .down → g.stop + v.par.margin ≤ v.guardedLo) →
        u.backing = some { b with released := true } ∧
        (e.state = .held → e.purpose ≠ .deck → v.released u b.seg)) ∧
      (v.pos.frame ≠ .line ∨ (b.forward = .up ∧ g.base - v.par.margin < v.guardedHi) ∨
        (b.forward = .down ∧ v.guardedLo < g.stop + v.par.margin) → u = v))) ∧
    (v.order.state = .stopped → v.markEntered = v) ∧
    (v.order.state ≠ .stopped → v.markEntered.backing = some { b with
      popped := b.popped.map fun p =>
        if v.overlaps p.seg = true ∧ ¬(p.entered = false ∧ (p.claimed = true ∨ p.listedBefore = true) ∧
            v.claims.lists p.seg = false) then { p with entered := true }
        else p }) ∧
    (v.order.state = .backing → v.backingRelease = v → v.markEntered = v →
      let u := v.backingEval
      let gone := ∃ p ∈ b.popped, p.entered = false ∧ (p.claimed = true ∨ p.listedBefore = true) ∧
        v.claims.lists p.seg = false
      let held := v.env.latch = true ∧ ∃ p ∈ b.popped, p.lost = true ∨
        ((p.claimed = true ∨ p.listedBefore = true) ∧ v.claims.lists p.seg = false)
      (held → u = v) ∧
      (¬held → (∃ p ∈ b.popped, p.lost = true) ∨ gone → u = v.failBacking b) ∧
      (¬held → (∀ p ∈ b.popped, p.lost = false) → ¬gone →
        ((∀ n ∈ v.wantedBack b, v.claims.holds n = true) → u = v) ∧
        ((∃ n ∈ v.wantedBack b, v.claims.holds n = false) →
          ((∃ p ∈ b.popped, v.claims.listens p.seg = true) → u = v) ∧
          ((∀ p ∈ b.popped, v.claims.listens p.seg = false) →
            (∀ p, (b.popped.find? fun x => !x.claimed && !x.listedBefore) = some p → u = v.askBack b p.seg) ∧
            ((∀ p ∈ b.popped, p.claimed = true ∨ p.listedBefore = true) →
              (v.trail = [] → u = v.failBacking b) ∧
              (∀ top rest, v.trail = top :: rest → v.claims.lists top = false → top ∉ v.wantedBack b →
                u.backing = none ∧ u.order.state = b.origin) ∧
              (∀ top rest, v.trail = top :: rest → v.claims.lists top = false →
                (∀ p ∈ b.popped, p.seg ≠ top) → top ∈ v.wantedBack b → v.claimTest top 1 = none → v.line.queue.length < 8 →
                u.trail = rest ∧
                u.backing = some { b with popped := b.popped ++
                  [{ seg := top, claimed := true, entered := v.overlaps top }] } ∧
                u.claims.entries = v.claims.entries ++ [{ seg := top, purpose := .back, asker := .backing,
                                                          courtesy := v.wouldBeCourteous top }] ∧
                u.queues (.claim top 0 ⟨v.claims.waitCount, v.wouldBeCourteous top⟩))))))) ∧
    (let u := v.failBacking b;
      u.backing = none ∧ u.order.state = b.origin ∧
      (∀ e ∈ v.claims.entries, e.purpose = .back → e.holding = true →
        (∃ p ∈ b.popped, p.seg = e.seg ∧ p.entered = true) → { e with purpose := .body } ∈ u.claims.entries) ∧
      (∀ e ∈ v.claims.entries, e.purpose = .back → e.state = .held →
        (∃ p ∈ b.popped, p.seg = e.seg ∧ p.listedBefore = false) → (∀ p ∈ b.popped, p.seg = e.seg → p.entered = false) →
        v.released u e.seg) ∧
      (∀ e ∈ v.claims.entries, e.purpose ≠ .back → e.holding = true → e ∈ u.claims.entries) ∧
      u.trail = (((b.popped.filter fun p => !p.entered).map (·.seg)) ++ v.trail).take 8 ∧
      (v.effective = 0 → u.pos.dir = b.forward) ∧
      (b.released = false → v.line.queue.length < 8 → u.queues (.object b.seg .occupied v.plainRank b.asker))) ∧
    (let u := v.arriveBacking;
      (b.released = false → v.overlaps b.seg = true → u = v.failBacking b) ∧
      (b.released = false → v.overlaps b.seg = false → ∀ e, v.claims.entry? b.seg = some e → e.state = .held →
        e.purpose ≠ .deck → v.released u b.seg) ∧
      (b.released = true ∨ v.overlaps b.seg = false →
        u.backing = none ∧ u.order.state = b.origin ∧ (v.effective = 0 → u.pos.dir = b.forward) ∧
        (∀ e ∈ v.claims.entries, e.holding = true → e.seg ≠ b.seg ∨ b.released = true →
          (e.purpose = .back → v.overlaps e.seg = true → { e with purpose := .body } ∈ u.claims.entries) ∧
          (e.purpose = .back → v.overlaps e.seg = false → e.state = .held → v.released u e.seg) ∧
          (e.purpose ≠ .back → e ∈ u.claims.entries)) ∧
        u.trail = (((b.popped.filter fun p => !v.overlaps p.seg).map (·.seg)) ++ v.trail).take 8))

/-! ## The vehicle-side ports (chapters 2, 5, 8, 9) -/

/-- ARM_ALIGNED_CHANGE ends a rotation at its target arm, is FAULT with NO-ARM when the deck has moved without a
command, and changes nothing of the deck in FAULT; ROTATION_FAULT_CHANGE in ROTATING is FAULT with DRIVE (R154, R159,
R165). That a rotation for EXIT leaves the deck in AWAIT-EXIT at once, before guard release pending has cleared, is
the model's choice (log 12). -/
def Obligations.TurntablePortIsRead : Prop :=
  ∀ (dt : Nat) (s : State), s.station.turning = true →
    (∀ arm, let v := (s.old dt).withInputs { s.station.inputs with armAligned := arm }
      ∃ t : State, exec (.armAlignedChange dt arm) s = .next t ∧ t = s.settled dt (v.armReport arm) { tt := true } ∧
        t.station.inputs.armAligned = arm ∧
        (∀ a, s.station.tt.deck = .rotating → arm = some a → s.station.tt.target = some a →
          (v.armReport arm).tt.aligned = a ∧ (v.armReport arm).tt.target = none ∧
          (v.armReport arm).tt.rotationTimer = none ∧ (v.armReport arm).rotationOutput = none ∧
          (v.armReport arm).tt.deck = if s.station.tt.purpose = .exit then .awaitExit else .idle) ∧
        (s.station.tt.deck = .rotating → arm = none ∨ arm ≠ s.station.tt.target → v.armReport arm = v) ∧
        (s.station.tt.deck = .fault → v.armReport arm = v) ∧
        (s.station.tt.deck ≠ .rotating → s.station.tt.deck ≠ .fault →
          (arm = some s.station.tt.aligned → v.armReport arm = v) ∧
          (arm ≠ some s.station.tt.aligned → v.armReport arm = v.deckFault .noArm))) ∧
    ∀ active, let v := (s.old dt).withInputs { s.station.inputs with rotationFault := active }
      ∃ t : State, exec (.rotationFaultChange dt active) s = .next t ∧ t.station.inputs.rotationFault = active ∧
        t = s.settled dt (if active = true ∧ s.station.tt.deck = .rotating then v.deckFault .drive else v) { tt := true }

/-- COUNT_REPORT with a known position: accumulator, centre, travel and U as R21 and R23 give, without sign for the
travel; past the position range the accumulator is held, DOUBT is set, U stays and an active order is STOPPED; with no
position the report is discarded (R21, R22, R23, R29). -/
def Obligations.CountReportMovesTheCentre : Prop :=
  ∀ (dt : Nat) (counts : Int) (s : State), s.station.onLine = true → s.station.isCarriage = true →
    let move : Int := counts * s.station.par.scale
    let acc : Int := if s.station.pos.dir = .up then s.station.pos.acc + move else s.station.pos.acc - move
    ∃ t : State, exec (.countReport dt counts) s = .next t ∧ t.pending = s.pending ∧
      (s.station.pos.frame ≠ .unknown → -100000000 ≤ acc → acc ≤ 4100000000 →
        t.station.pos.acc = acc ∧ t.station.pos.centre = acc / 1000 ∧
        t.station.pos.travelAcc = min 2000000000 (s.station.pos.travelAcc + move.natAbs) ∧
        t.station.pos.travel = t.station.pos.travelAcc / 1000 ∧ t.station.pos.uRef = s.station.pos.uRef ∧
        t.station.pos.u = min 2000 (s.station.pos.uRef + (t.station.pos.travel * s.station.par.drift + 999) / 1000) ∧
        t.station.pos.doubt = s.station.pos.doubt) ∧
      (s.station.pos.frame ≠ .unknown → acc < -100000000 ∨ 4100000000 < acc →
        t.station.pos.acc = (if acc < -100000000 then -100000000 else 4100000000) ∧
        t.station.pos.centre = t.station.pos.acc / 1000 ∧ t.station.pos.doubt = true ∧
        t.station.pos.u = s.station.pos.u ∧ t.station.pos.uRef = s.station.pos.uRef ∧
        t.station.pos.travel = s.station.pos.travel ∧ t.station.env.commanded = 0 ∧
        (s.station.order.state.active = true → t.station.order.state = .stopped) ∧
        (s.station.order.state.resting = true → t.station.order.state = s.station.order.state)) ∧
      (s.station.pos.frame = .unknown → t.station.pos.acc = s.station.pos.acc ∧
        t.station.pos.centre = s.station.pos.centre ∧ t.station.pos.travelAcc = s.station.pos.travelAcc)

/-- DRIVE_FAULT_CHANGE to active: command 0, an active order STOPPED, with DRIVE unless it was STOPPED for POSITION or
CONFLICT; a resting order keeps state and reason; to inactive, only the level changes (R98, R106). -/
def Obligations.DriveFaultStopsTheOrder : Prop :=
  ∀ (dt : Nat) (s : State), s.station.onLine = true → s.station.isCarriage = true →
    (s.station.inputs.driveFault = false → ∃ t : State, exec (.driveFaultChange dt true) s = .next t ∧
      t.station.inputs.driveFault = true ∧ t.station.env.commanded = 0 ∧
      (s.station.order.state.active = true → t.station.order.state = .stopped) ∧
      (s.station.order.state.active = true → s.station.order.state ≠ .stopped → t.station.order.reason = .drive) ∧
      (s.station.order.state = .stopped → s.station.order.reason = .emergency → t.station.order.reason = .drive) ∧
      (s.station.order.state = .stopped → s.station.order.reason = .position ∨ s.station.order.reason = .conflict →
        t.station.order.reason = s.station.order.reason) ∧
      (s.station.order.state.resting = true → t.station.order.state = s.station.order.state ∧
        t.station.order.reason = s.station.order.reason)) ∧
    ∃ t : State, exec (.driveFaultChange dt false) s = .next t ∧
      t = s.settled dt ((s.old dt).withInputs { s.station.inputs with driveFault := false }) { env := true } ∧
      t.station.inputs.driveFault = false

/-- IN_POSITION_ACTIVE during an attempt withdraws the final-position demand, brings the approach to CHECKING and is
evaluated by the envelope before the check; with no attempt in progress it is not acted on. The approach itself: a stop
point within d_1 is handed on once and starts attempt 1 toward it; the check passes by stop kind, and a check that fails
starts the next attempt, or after the third fails the order with DOCK or TURNTABLE (R85, R99, R138, R140, R141). That the
check of every stop kind waits while the docking index settles is the model's choice (log 101), and so is that an error of 0
asks for no direction (log 89). -/
def Obligations.InPositionEndsTheAttempt : Prop :=
  (∀ (dt : Nat) (s : State), s.station.onLine = true → s.station.isCarriage = true →
    let u := if s.station.appr.state = .attempt then
        (((s.old dt).withEnv { s.station.env with finalStop := none }).withAppr
          { s.station.appr with state := .checking }).envEval
      else s.old dt
    ∃ t : State, exec (.inPositionActive dt) s = .next t ∧ t = s.settled dt u { env := true } ∧
      t.station.pos.centre = s.station.pos.centre ∧ t.station.index = s.station.index) ∧
  (∀ (v : Station) (x : Chainage), v.stopPoint = some x → v.env.handedOn = false → v.pos.frame ≠ .unknown →
    let u := v.handOver
    ((x - v.pos.centre).natAbs ≤ v.d 1 → u.env.handedOn = true ∧ u.env.finalStop = some x ∧
      u.appr.state = .attempt ∧ u.appr.attempts = v.appr.attempts + 1 ∧ u.appr.stop = x ∧ u.appr.docked = false ∧
      (v.order.state = .backing → u.appr.kind = .back) ∧
      (v.order.state = .running → ∀ l d t e, v.order.leg? = some ⟨l, d, .turntable t e⟩ →
        u.appr.kind = .deck ∧ u.appr.tolerance = v.par.centring) ∧
      (v.order.state = .running → ∀ l d n p, v.order.leg? = some ⟨l, d, .target⟩ → v.order.target = .pad n →
        v.map.pad? n = some p → u.appr.kind = .pad ∧ u.appr.tolerance = p.tolerance) ∧
      (v.order.state = .running → ∀ l d a b, v.order.leg? = some ⟨l, d, .target⟩ → v.order.target = .point a b →
        u.appr.kind = .point ∧ u.appr.tolerance = 10) ∧
      (v.effective = 0 → u.pos.dir = if v.pos.centre < x then .up else if x < v.pos.centre then .down else v.pos.dir)) ∧
    (v.d 1 < (x - v.pos.centre).natAbs → u = v)) ∧
  ∀ v : Station,
    (v.appr.state ≠ .checking ∨ v.inputs.confirmed ≠ 0 ∨ v.index.reading = .settling → v.approachCheck = v) ∧
    (v.appr.state = .checking → v.inputs.confirmed = 0 → v.index.reading ≠ .settling →
      let off := (v.appr.stop - v.pos.centre).natAbs
      let u := v.approachCheck
      (v.order.state ≠ .running → v.order.state ≠ .backing → u = v) ∧
      (v.order.state = .running →
        (v.appr.kind = .pad → off ≤ v.appr.tolerance → v.index.reading = .active →
          u.appr.state = .reached ∧ u.appr.docked = true ∧
          (∀ n, v.order.target = .pad n → u.appr.dockedPad = some n) ∧
          (v.order.kind = .move → u.order.state = .done ∧ u.order.reason = .none) ∧
          (v.order.kind = .fetch → u.order.state = .loading ∧ u.lift.operation = .fetch ∧ u.lift.travelDir = .up) ∧
          (v.order.kind = .place → u.order.state = .loading ∧ u.lift.operation = .place ∧ u.lift.travelDir = .down)) ∧
        (v.appr.kind = .pad → v.appr.tolerance < off ∨ v.index.reading = .inactive → u = v.failAttempt) ∧
        (v.appr.kind = .point → off ≤ 10 → v.order.kind = .move → u.appr.state = .reached ∧ u.order.state = .done) ∧
        (v.appr.kind = .point → 10 < off → u = v.failAttempt) ∧
        (v.appr.kind = .deck → off ≤ v.par.centring → v.line.queue.length < 8 →
          u.appr.state = .aboardAsked ∧ u.passage.state = .aboardSent ∧ u.pos.frame = .deck ∧
          u.pos.deckTurntable = v.passage.turntable ∧ u.queues (.turnAboard v.passage.turntable)) ∧
        (v.appr.kind = .deck → v.par.centring < off → u = v.failAttempt)) ∧
      (v.order.state = .backing → v.appr.kind = .back →
        u = (v.withAppr { v.appr with state := .reached }).arriveBacking)) ∧
    (v.appr.attempts < 3 → v.failAttempt.appr.state = .attempt ∧
      v.failAttempt.appr.attempts = v.appr.attempts + 1 ∧ v.failAttempt.env.finalStop = some v.appr.stop) ∧
    (3 ≤ v.appr.attempts → v.order.state.active = true →
      v.failAttempt.appr.state = .none ∧ v.failAttempt.appr.attempts = 0 ∧ v.failAttempt.order.state = .failed ∧
      v.failAttempt.order.reason = if v.appr.kind = .deck then .turntable else .dock)

/-- The two debounced inputs. DOCKING_INDEX_CHANGE and DOCKING_DEBOUNCE_EXPIRY: a change settles for the debounce time,
or is the reading at once when that is 0; when the timer runs out the reading follows the raw input. MARKER_PRESENT_CHANGE
moves the latch, and MARKER_DEBOUNCE_EXPIRY takes one report: a marker within U re-references and clears DOUBT; one beyond
U or on another line sets the position to it, sets DOUBT and stops an active order; one the part cannot use is counted
(R25, R26, R27, R28, R139). -/
def Obligations.IndexAndMarkerAreRead : Prop :=
  ∀ (dt : Nat) (s : State), s.station.onLine = true → s.station.isCarriage = true →
    (∀ active, ∃ t : State, exec (.dockingIndexChange dt active) s = .next t ∧ t.station.inputs.dockRaw = active ∧
      t.station.index = if active = s.station.inputs.dockRaw then s.station.index
        else if s.station.par.debounce = 0 then ⟨if active then .active else .inactive, none⟩
        else ⟨.settling, some ((s.old dt).ms + s.station.par.debounce)⟩) ∧
    (∃ t : State, exec (.dockingDebounceExpiry dt) s = .next t ∧
      t.station.index =
        if s.station.index.reading = .settling ∧ dueAt s.station.index.timer (s.old dt).ms = true then
          ⟨if s.station.inputs.dockRaw then .active else .inactive, none⟩
        else s.station.index) ∧
    (∀ n, s.station.pos.latch = .idle → s.station.par.debounce ≠ 0 →
      ∃ t : State, exec (.markerPresentChange dt true n) s = .next t ∧
        t.station.pos.latch = .settling n ((s.old dt).ms + s.station.par.debounce) ∧
        t.station.pos.centre = s.station.pos.centre ∧ t.station.line.badCount = s.station.line.badCount) ∧
    (∀ n m d, s.station.pos.latch = .settling m d →
      ∃ t : State, exec (.markerPresentChange dt false n) s = .next t ∧ t.station.pos.latch = .idle ∧
        t.station.pos.centre = s.station.pos.centre) ∧
    (∀ n d, s.station.pos.latch = .taken d →
      ∃ t : State, exec (.markerPresentChange dt true n) s = .next t ∧ t.station.pos.latch = .taken none ∧
        t.station.pos.centre = s.station.pos.centre) ∧
    ∀ n d, s.station.pos.latch = .settling n d → d ≤ (s.old dt).ms →
      ∃ t : State, exec (.markerDebounceExpiry dt) s = .next t ∧ t.station.pos.latch = .taken none ∧
        (s.station.pos.frame ≠ .line ∨ s.station.map.marker? n = none →
          t.station.line.badCount = min 255 (s.station.line.badCount + 1) ∧
          t.station.pos.centre = s.station.pos.centre ∧ t.station.pos.doubt = s.station.pos.doubt) ∧
        ∀ k, s.station.pos.frame = .line → s.station.map.marker? n = some k →
          t.station.pos.line = k.line ∧ t.station.pos.centre = k.chainage ∧ t.station.pos.acc = k.chainage * 1000 ∧
          t.station.pos.uRef = 10 ∧ t.station.pos.u = 10 ∧ t.station.pos.travel = 0 ∧
          t.station.line.badCount = s.station.line.badCount ∧
          (k.line = s.station.pos.line → (k.chainage - s.station.pos.centre).natAbs ≤ s.station.pos.u →
            t.station.pos.doubt = false) ∧
          (k.line ≠ s.station.pos.line ∨ s.station.pos.u < (k.chainage - s.station.pos.centre).natAbs →
            t.station.pos.doubt = true ∧ t.station.env.commanded = 0 ∧
            (s.station.order.state.active = true → t.station.order.state = .stopped))

/-- A passed check of a FETCH or PLACE makes it LOADING with its operation, start rest and direction. While it is LOADING
and the interlock holds, docked with the drive at step 0 and the brake set, a lift at rest or stopped midway travels in its
direction under a new timer; a lift in travel becomes STOPPED-MID when the interlock fails or the order leaves LOADING.
AT_TOP_CHANGE ends a raise and AT_BOTTOM_CHANGE a lowering: the lift is RAISED, or LOWERED, its timer stopped and its
operation none; the load state follows LOAD-SENSED where the operation succeeds, and the order is DONE, or FAILED with
NO-LOAD or LIFT; a returning lift ends CANCELLED with the load as it was (R144, R145, R146, R147, R148, R150). -/
def Obligations.LiftEndsJudgeFetchAndPlace : Prop :=
  (∀ (dt : Nat) (sensed : Bool) (s : State), s.station.onLine = true → s.station.isCarriage = true →
    (s.station.lift.state = .raising → s.station.inputs.atTop = false → s.station.inputs.atBottom = false →
      let u := ((s.old dt).withInputs { s.station.inputs with atTop := true, loadSensed := sensed }).reachTop
      ∃ t : State, exec (.atTopChange dt true sensed) s = .next t ∧ t = s.settled dt u {} ∧
        t.station.inputs.atTop = true ∧
        (s.station.lift.returning = false ∨ s.station.lift.startRaised = true →
          u.lift.state = .raised ∧ u.lift.timer = none ∧ u.lift.operation = .none ∧ u.lift.returning = false) ∧
        (s.station.lift.returning = false →
          t.station.order.state = (if sensed then .done else .failed) ∧
          t.station.order.reason = (if sensed then .none else .noLoad) ∧
          t.station.lift.load = if sensed then .loaded else s.station.lift.load) ∧
        (s.station.lift.returning = true → s.station.lift.startRaised = true →
          t.station.order.state = .failed ∧ t.station.order.reason = .cancelled ∧
          t.station.lift.load = s.station.lift.load)) ∧
    (s.station.lift.state = .lowering → s.station.inputs.atTop = false → s.station.inputs.atBottom = false →
      let u := ((s.old dt).withInputs { s.station.inputs with atBottom := true, loadSensed := sensed }).reachBottom
      ∃ t : State, exec (.atBottomChange dt true sensed) s = .next t ∧ t = s.settled dt u {} ∧
        t.station.inputs.atBottom = true ∧
        (s.station.lift.returning = false ∨ s.station.lift.startRaised = false →
          u.lift.state = .lowered ∧ u.lift.timer = none ∧ u.lift.operation = .none ∧ u.lift.returning = false) ∧
        (s.station.lift.returning = false →
          t.station.order.state = (if sensed then .failed else .done) ∧
          t.station.order.reason = (if sensed then .lift else .none) ∧
          t.station.lift.load = if sensed then s.station.lift.load else .empty) ∧
        (s.station.lift.returning = true → s.station.lift.startRaised = false →
          t.station.order.state = .failed ∧ t.station.order.reason = .cancelled ∧
          t.station.lift.load = s.station.lift.load))) ∧
  ∀ v : Station, v.driving = true →
    let interlock := v.appr.docked = true ∧ v.inputs.confirmed = 0 ∧ v.env.commanded = 0
    let u := v.liftEval
    (v.order.state = .loading → interlock → v.lift.operation ≠ .none →
      v.lift.state = .lowered ∨ v.lift.state = .raised ∨ v.lift.state = .stoppedMid →
      u = v.withLift { v.lift with
        state := if v.lift.travelDir = .up then .raising else .lowering
        timer := some (v.ms + v.par.liftTimeout * 1000) } ∧
      u.liftOutput = if v.lift.travelDir = .up then .raise else .lower) ∧
    (v.order.state = .loading → interlock → v.lift.state = .raising ∨ v.lift.state = .lowering → u = v) ∧
    (v.order.state ≠ .loading ∨ ¬interlock →
      (v.lift.state = .raising ∨ v.lift.state = .lowering →
        u = v.withLift { v.lift with state := .stoppedMid, timer := none } ∧ u.liftOutput = .stop) ∧
      (v.lift.state ≠ .raising → v.lift.state ≠ .lowering → u = v)) ∧
    (v.order.state = .loading → v.lift.state = .raising ∨ v.lift.state = .lowering →
      v.haltForLine.lift = { v.lift with state := .stoppedMid, timer := none } ∧
      ∀ r, (v.stopOrder r).lift = { v.lift with state := .stoppedMid, timer := none }) ∧
    (v.order.kind = .fetch → v.endTargetLeg.order.state = .loading ∧ v.endTargetLeg.lift = { v.lift with
      operation := .fetch, startRaised := decide (v.lift.state = .raised), travelDir := .up, returning := false }) ∧
    (v.order.kind = .place → v.endTargetLeg.order.state = .loading ∧ v.endTargetLeg.lift = { v.lift with
      operation := .place, startRaised := decide (v.lift.state = .raised), travelDir := .down, returning := false })

/-- LIFT_FAULT_CHANGE to active, LIFT_TIMEOUT in travel, and an end input that makes both ends active are lift faults: the
lift is in FAULT, an active order FAILED with LIFT, a resting one as it was, the load state as it was, the command 0. A
lift in FAULT returns, at a change of one of the three inputs, to the rest that exactly one end input shows while
LIFT-FAULT is inactive, and else stays in FAULT; load state, order and operation are left alone (R149). The model's
choices: an end input that ends a travel with the other still active is the fault alone (log 88), and a fault cuts a
backing short (log 27) and clears the returning mark (log 66). -/
def Obligations.LiftFaultsBeginAndEnd : Prop :=
  (∀ (dt : Nat) (sensed : Bool) (c : Instr) (i : Inputs) (s : State), s.station.onLine = true →
    s.station.isCarriage = true → s.station.lift.state ≠ .fault →
    (c = .liftFaultChange dt true ∧ s.station.inputs.liftFault = false ∧
        i = { s.station.inputs with liftFault := true }) ∨
      (c = .liftTimeout dt ∧ dueAt s.station.lift.timer (s.old dt).ms = true ∧
        s.station.lift.state.travelling = true ∧ i = s.station.inputs) ∨
      (c = .atTopChange dt true sensed ∧ s.station.inputs.atBottom = true ∧
        i = { s.station.inputs with atTop := true, loadSensed := sensed }) ∨
      (c = .atBottomChange dt true sensed ∧ s.station.inputs.atTop = true ∧
        i = { s.station.inputs with atBottom := true, loadSensed := sensed }) →
    let u := ((s.old dt).withInputs i).faultLift
    ∃ t : State, exec c s = .next t ∧ t = s.settled dt u {} ∧
      u.lift.state = .fault ∧ u.lift.timer = none ∧ u.lift.operation = .none ∧
      t.station.lift.load = s.station.lift.load ∧ t.station.inputs = i ∧ t.station.env.commanded = 0 ∧
      (s.station.order.state.active = true → t.station.order.state = .failed ∧ t.station.order.reason = .lift) ∧
      (s.station.order.state.active = false → t.station.order.state = s.station.order.state ∧
        t.station.order.reason = s.station.order.reason)) ∧
  ∀ (dt : Nat) (a l : Bool) (c : Instr) (i : Inputs) (s : State), s.station.onLine = true →
    s.station.isCarriage = true → s.station.lift.state = .fault →
    (c = .liftFaultChange dt a ∧ i = { s.station.inputs with liftFault := a }) ∨
      (c = .atTopChange dt a l ∧ i = { s.station.inputs with atTop := a, loadSensed := l }) ∨
      (c = .atBottomChange dt a l ∧ i = { s.station.inputs with atBottom := a, loadSensed := l }) →
    let rest : LiftState := if i.liftFault then .fault else
      match i.atTop, i.atBottom with
      | true, false => .raised
      | false, true => .lowered
      | _, _ => .fault
    ∃ t : State, exec c s = .next t ∧
      t = s.settled dt (((s.old dt).withInputs i).withLift { s.station.lift with state := rest }) {} ∧
      t.station.inputs = i ∧ t.station.lift.load = s.station.lift.load ∧
      (s.station.order.state.resting = true →
        t.station.order.state = s.station.order.state ∧ t.station.order.reason = s.station.order.reason)

/-- The ending of an order on a line, the end of a backing that leaves it at rest, and a position change at rest make a valid
record due; it is requested at the first evaluation with the order at rest, step 0 and frame LINE. The first raise from step 0
after it requests an invalid one and clears DOCKED. A request begins as a write when none is in flight, and else takes the
place of the pending one. PARK_WRITE_COMPLETE: byte 0 of the record is CLOSED; a pending request begins as the next write,
byte 0 OPEN again; with no write in flight nothing changes. A record written in full is accepted at the next start when it is valid and on
the map, and no other; one whose bytes stand in the memory with byte 0 still OPEN is not accepted (R35, R151, R152, R191).
The model's choices: bytes 1 to 9 stand in the memory, and byte 0 is OPEN, from the beginning of a write on (log 21), an
invalid record carries the present place (log 22), a position change counts in IDLE too (log 68), and the fields are those of
the request (log 84). -/
def Obligations.ParkRecordIsWrittenAndReadBack : Prop :=
  (∀ (dt : Nat) (s : State),
    let u := (s.old dt).writeComplete
    exec (.parkWriteComplete dt) s = .next (s.settled dt u {}) ∧
    (∀ r, s.station.park.inFlight = some r → s.station.park.waiting = none →
      u.park.inFlight = none ∧ u.bootMem = s.station.bootMem.write parkBase 2#8 ∧ u.bootMem.read parkBase = some 2#8) ∧
    (∀ r q, s.station.park.inFlight = some r → s.station.park.waiting = some q →
      u.park.inFlight = some q ∧ u.park.waiting = none ∧ u.bootMem.read parkBase = some 1#8) ∧
    (s.station.park.inFlight = none → u = s.old dt)) ∧
  (∀ (r : ParkRecord) (mem : Memory) (m : TrackMap) (x : LineSlot), r.line < 256 →
    -8388608 ≤ r.centre → r.centre < 8388608 → m.line? r.line = some x →
    let cut := mem.writeAll parkBase (1#8 :: r.bytes)
    let done := cut.write parkBase 2#8
    (done.readAll parkBase 10).bind (acceptedPark m) =
      (if r.valid ∧ x.low ≤ r.centre ∧ r.centre ≤ x.high then some (r.line, r.centre) else none) ∧
    (cut.readAll parkBase 10).bind (acceptedPark m) = none) ∧
  ∀ v : Station,
    let record (valid : Bool) : ParkRecord :=
      ⟨valid, v.pos.line, v.pos.centre, if v.appr.docked then v.appr.dockedPad else none, v.lift.load⟩
    let asked (u : Station) (r : ParkRecord) : Prop :=
      (v.park.inFlight = none → u.park.inFlight = some r ∧ u.park.waiting = v.park.waiting ∧
        u.bootMem = v.bootMem.writeAll parkBase (1#8 :: r.bytes)) ∧
      (∀ q, v.park.inFlight = some q → u.park.inFlight = some q ∧ u.park.waiting = some r ∧ u.bootMem = v.bootMem)
    let due := v.park.due = true ∧ v.park.restOpen = true ∧
      (v.order.state = .idle ∨ v.order.state = .done ∨ v.order.state = .failed) ∧ v.inputs.confirmed = 0 ∧
      v.pos.frame = .line
    (due → asked v.parkEval (record true) ∧ v.parkEval.park.due = false ∧ v.parkEval.park.validOut = true) ∧
    (¬due → v.parkEval = v) ∧
    (v.movedOff.park.restOpen = false ∧ v.movedOff.park.due = false ∧ v.movedOff.park.validOut = false ∧
      v.movedOff.appr.docked = false ∧ v.movedOff.appr.dockedPad = none ∧
      (v.park.validOut = true → asked v.movedOff (record false)) ∧
      (v.park.validOut = false → v.movedOff.bootMem = v.bootMem ∧ v.movedOff.park.inFlight = v.park.inFlight ∧
        v.movedOff.park.waiting = v.park.waiting)) ∧
    (v.env.commanded = 0 → v.raiseTest.env.commanded ≠ 0 → v.raiseTest.park = v.movedOff.park) ∧
    (∀ st r, (v.endOrder st r).park.restOpen = true ∧ (v.endOrder st r).park.due = decide (v.pos.frame = .line)) ∧
    (∀ b, b.origin.resting = true → (v.leaveBacking b).park.restOpen = true ∧
      (v.leaveBacking b).park.due = decide (v.pos.frame = .line)) ∧
    (v.park.restOpen = true → v.inputs.confirmed = 0 → v.touchPark.park = { v.park with due := true }) ∧
    (v.park.restOpen = false ∨ v.inputs.confirmed ≠ 0 → v.touchPark = v)

/-! ## What holds of every step -/

/-- No step takes a list or a count past its size: 8 claim entries and no segment twice, 8 places of a peer's lists, of
the transmit queue, of the trail stack and of the request queue, 15 for the wait count, 255 for the counts; PROMPT frames
stand before ROUTINE ones in the queue, with one beacon at most (R37, R51, R55, R125, R155, R173, R181, R183). With them it
keeps that the model's own list of what SET-POSITION owes (log 18) names no segment
twice, from which the claim of R121 is made. -/
def Obligations.StepKeepsSizes : Prop :=
  ∀ s t : State, s.station.bounded → step s = .next t → t.station.bounded

/-- No step takes a figure out of its range: U and U_ref stay within 10–2000 mm, U is 2000 mm while the frame is UNKNOWN,
the centring tolerance stays within 10–1000 mm, and neither stopping table falls with the step (R18, R23, R33, R82,
R190). After a reset and in START-FAULT the centring tolerance is its lower limit, which is the model's choice (log 4). -/
def Obligations.StepKeepsFigures : Prop :=
  ∀ s t : State, s.station.figures → step s = .next t → t.station.figures

/-- The rotation drive of a turntable runs only while every GUARD segment of that turntable is HELD in its own list: no
step breaks it (R159). A step that starts a rotation leaves no peer, FRESH, STALE or LOST, listed as a holder of one of them
(R46, R158); that this holds with the guards won before too is log 56. -/
def Obligations.StepKeepsRotationGuarded : Prop :=
  (∀ s t : State, s.station.bounded → s.station.turnSafe → step s = .next t →
    t.station.turnSafe ∧ (t.station.rotationOutput ≠ none → t.station.guardsHeld = true)) ∧
  ∀ s t : State, step s = .next t → s.station.tt.deck ≠ .rotating → t.station.tt.deck = .rotating →
    ∀ n ∈ t.station.guards, ∀ p ∈ trackStations, (t.station.peer p).state ≠ .absent →
      n ∉ (t.station.peer p).held.map (·.seg)

/-- The bytes of the park record, 3133 to 3142, are the only bytes of the boot memory that a step changes, and the memory
keeps its canonical form (R191, 11.2). -/
def Obligations.StepWritesOnlyTheParkRecord : Prop :=
  ∀ s t : State, s.station.bootMem.wf = true → step s = .next t →
    t.station.bootMem.wf = true ∧
    ∀ a, a < 3133 ∨ 3142 < a → t.station.bootMem.read a = s.station.bootMem.read a

/-- The state after reset is safe: every size kept, U, U_ref, the centring tolerance and the stopping tables in their
ranges, at rest, the deck not turning. That the centring tolerance stands at its lower limit is the model's choice (log
4). -/
def Obligations.ResetStateIsSafe : Prop := State.reset.safe

/-- A carriage commanded to move stands on track it holds, in frame LINE, under an order that runs or backs, with no
latch and no turn pending, within its permitted step, and at creep near a turntable, in DOUBT or at U_max: after every
command, in every state whose stopping tables do not fall with the step, as no run's do (R82, R86, R88, R90, R93, R95). The
emergency test: an evaluation that finds the effective step above 0, the frame known and d_eff above D_hold sets the command
to 0, the latch and the emergency demand. The latch stays, with the command at 0, until an evaluation finds the confirmed
step 0: there it clears, the brake stands, an active order not yet STOPPED is STOPPED with EMERGENCY, and any other keeps
state and reason. Else no evaluation sets it (R92, R94, R95). Where direction and hand-over stand beside the test, and the
clearing beside the drop, is the model's choice (log 74). -/
def Obligations.MovingMeansHeldTrack : Prop :=
  (∀ (c : Instr) (s t : State), s.station.env.tablesRise → exec c s = .next t → 0 < t.station.env.commanded →
    t.station.moveSafe ∧ t.station.pos.frame = .line ∧
    (∀ b ∈ t.station.touched, t.station.claims.holds b.seg = true) ∧
    (t.station.order.state = .running ∨ t.station.order.state = .backing) ∧ t.station.lift.state.atRest = true ∧
    t.station.inputs.driveFault = false ∧ t.station.line.fault = false ∧ t.station.silent = false ∧
    (t.station.pos.doubt = true ∨ t.station.pos.u = 2000 ∨ (∃ b ∈ t.station.touched, b.kind ≠ .plain) →
      t.station.env.commanded = 1) ∧
    ((t.station.d t.station.env.commanded + t.station.par.margin : Nat) : Int) ≤ t.station.dClaim) ∧
  ∀ v : Station, v.driving = true →
    let w := v.applyPending.handOver
    let short := 0 < max w.env.commanded w.inputs.confirmed ∧ w.pos.frame ≠ .unknown ∧ w.dHold < (w.dEff : Int)
    let u := v.envEval
    (short ∨ v.env.latch = true → u.env.commanded = 0 ∧
      (v.inputs.confirmed ≠ 0 → u.env.latch = true ∧ u.tractionOutputs.emergency = true ∧
        u.order.state = v.order.state ∧ u.order.reason = v.order.reason) ∧
      (v.inputs.confirmed = 0 → u.env.latch = false ∧ u.tractionOutputs.emergency = false ∧
        u.tractionOutputs.brake = true ∧
        (v.order.state.active = true → v.order.state ≠ .stopped →
          u.order.state = .stopped ∧ u.order.reason = .emergency) ∧
        (v.order.state.active = false ∨ v.order.state = .stopped →
          u.order.state = v.order.state ∧ u.order.reason = v.order.reason))) ∧
    (¬short → v.env.latch = false → u.env.latch = false ∧ u.tractionOutputs.emergency = false ∧
      u.order.state = v.order.state ∧ u.order.reason = v.order.reason)

/-- One command raises the commanded step by one at most, from a step that the drive has confirmed. The direction changes
at confirmed step 0 alone, but for a reset, the end of BOOT-READ and the EXIT transfer, which set it themselves (R20, R33,
R91, R93). -/
def Obligations.StepsRiseByOneAndTurnsWaitForRest : Prop :=
  (∀ (c : Instr) (s t : State), 1 ≤ s.station.par.dwell → exec c s = .next t →
    s.station.env.commanded < t.station.env.commanded →
    t.station.env.commanded = s.station.env.commanded + 1 ∧ t.station.inputs.confirmed = s.station.env.commanded ∧
    t.station.env.lastRaise = some t.station.ms) ∧
  ∀ (c : Instr) (s t : State), (∀ dt, c ≠ .resetAsserted dt) → (∀ dt i l, c ≠ .bootReadComplete dt i l) →
    (∀ dt h a b, c ≠ .turnAnswerExit dt h a b) → (∀ dt p b, c ≠ .turntableBeaconReceived dt p b) →
    exec c s = .next t → t.station.pos.dir ≠ s.station.pos.dir → t.station.inputs.confirmed = 0

/-- Between resets: map, parameters, stopping tables and CLAMPED stay; FAULT stays set; the load state changes at the
ends of lift travel alone; DOUBT is set by a count report, a marker and SET-POSITION alone and cleared by a marker alone
(R1, R30, R82, R150, R178, R190). -/
def Obligations.FixedUntilReset : Prop :=
  ∀ (c : Instr) (s t : State), (∀ dt, c ≠ .resetAsserted dt) → (∀ dt i l, c ≠ .bootReadComplete dt i l) →
    exec c s = .next t →
    t.station.map = s.station.map ∧ t.station.par = s.station.par ∧
    t.station.env.emptyTable = s.station.env.emptyTable ∧ t.station.env.loadedTable = s.station.env.loadedTable ∧
    t.station.start.clamped = s.station.start.clamped ∧
    (s.station.line.fault = true → t.station.line.fault = true) ∧
    (t.station.lift.load ≠ s.station.lift.load →
      (∃ dt a l, c = .atTopChange dt a l) ∨ ∃ dt a l, c = .atBottomChange dt a l) ∧
    (t.station.pos.doubt = true → s.station.pos.doubt = false →
      (∃ dt n, c = .countReport dt n) ∨ (∃ dt p n, c = .markerPresentChange dt p n) ∨
      (∃ dt, c = .markerDebounceExpiry dt) ∨ ∃ dt o l x n, c = .orderSetPosition dt o l x n) ∧
    (t.station.pos.doubt = false → s.station.pos.doubt = true →
      (∃ dt p n, c = .markerPresentChange dt p n) ∨ ∃ dt, c = .markerDebounceExpiry dt)

/-! ## Figures and layouts -/

/-- The stopping tables of every boot record: each entry as the two quotients rounded up, d_0 = 0, non-decreasing, none
above 161 250 mm (R80, R82). -/
def Obligations.StoppingTablesRise : Prop :=
  ∀ (l : List Byte) (a : Nat), let p := (rawParams l).ordered
    a = p.aEmpty ∨ a = p.aLoaded →
    (stoppingTable p.ladder p.tr a)[0] = 0 ∧
    (∀ i : Fin 8, (stoppingTable p.ladder p.tr a)[i] =
      (p.ladder[i] * p.tr + 999) / 1000 + (p.ladder[i] * p.ladder[i] + (2 * a - 1)) / (2 * a)) ∧
    (∀ i j : Fin 8, i ≤ j → (stoppingTable p.ladder p.tr a)[i] ≤ (stoppingTable p.ladder p.tr a)[j]) ∧
    ∀ i : Fin 8, (stoppingTable p.ladder p.tr a)[i] ≤ 161250

/-- The claim term and the stop term: the highest step whose stopping distance, with M for the claim term, fits; 0 over
unheld track and off frame LINE; 1 during an attempt and 0 after one (R86, R87). -/
def Obligations.ClaimAndStopTerms : Prop :=
  ∀ s : Station,
    (s.unheldBelow = true ∨ s.pos.frame ≠ .line → s.pClaim = 0) ∧
    (s.unheldBelow = false → s.pos.frame = .line →
      s.pClaim ≤ 7 ∧ (∀ k, k ≤ 7 → ((s.d k + s.par.margin : Nat) : Int) ≤ s.dClaim → k ≤ s.pClaim) ∧
      (0 < s.pClaim → ((s.d s.pClaim + s.par.margin : Nat) : Int) ≤ s.dClaim)) ∧
    (s.dStop = none → s.pStop = 0) ∧
    (∀ x, s.dStop = some x → s.env.handedOn = false →
      s.pStop ≤ 7 ∧ (∀ k, k ≤ 7 → s.d k ≤ x → k ≤ s.pStop) ∧ (0 < s.pStop → s.d s.pStop ≤ x)) ∧
    ∀ x, s.dStop = some x → s.env.handedOn = true → s.pStop = if s.appr.state = .attempt then 1 else 0

/-- The cap term is the lowest of the values that apply (R88). -/
def Obligations.CapTermIsLowestThatApplies : Prop :=
  ∀ s : Station,
    let rows : List (Bool × Nat) :=
      [(s.order.state != OrderState.running && s.order.state != OrderState.backing, 0),
       (s.lift.state != LiftState.lowered && s.lift.state != LiftState.raised, 0),
       (s.inputs.driveFault, 0),
       (s.line.state == LineState.silent || s.line.state == LineState.recovering, 0),
       (s.line.fault, 0), (s.pos.doubt, 1), (s.pos.u == 2000, 1),
       (s.touched.any fun b => b.kind == SegKind.guard || b.kind == SegKind.deck, 1)]
    s.pCap = ((rows.filter (·.1)).map (·.2)).foldr min 7

/-- Every frame that its layout can hold is read back from its bytes, field for field, and passes every test of R176; and
frames of every kind, no two fields of one of them alike or, for marks, over two of them, are the bytes that the layout tables
of R175 give, with the header and the check of R174 (R174, R175, R176). -/
def Obligations.FramesDecodeAsEncoded : Prop :=
  (∀ f : WireFrame, f.fits = true → WireFrame.decode f.encode = some f) ∧
  ∀ p ∈ ([
      (⟨7, 0, .carriageBeacon {
          period := 1234, line := 5, deckTurntable := 2, centre := -123456, u := 345, halfLength := 6001, commanded := 5,
          effective := 6, dir := .down, loaded := false, doubt := true, clamped := true, recovered := false,
          fault := false, wait := 11, orderCode := 9, reason := 12, orderNumber := 43981, cursor := 3,
          held := [⟨17, true⟩, ⟨100, false⟩], home := 93, badCount := 200, resendCount := 57 }⟩,
        [56, 16, 28, 4, 210, 5, 2, 254, 29, 192, 1, 89, 23, 113, 186, 203, 156, 171, 205, 50, 35, 200, 0, 0, 0, 0, 0, 0, 93,
        200, 57, 238, 240]),
      (⟨28, 0, .carriageBeacon {
          period := 8000, line := 254, deckTurntable := 1, centre := 1193046, u := 2000, halfLength := 7500,
          commanded := 1, effective := 4, dir := .up, loaded := true, doubt := true, clamped := false, recovered := true,
          fault := false, wait := 2, orderCode := 1, reason := 13, orderNumber := 258, cursor := 8, held := [],
          home := 255, badCount := 1, resendCount := 254 }⟩,
        [224, 16, 28, 31, 64, 254, 1, 18, 52, 86, 7, 208, 29, 76, 49, 162, 29, 1, 2, 128, 0, 0, 0, 0, 0, 0, 0, 0, 255, 1,
        254, 218, 21]),
      (⟨20, 1, .turntableBeacon {
          period := 500, turntable := 1, aligned := 2, deck := 5, holder := 9, clamped := true, fault := true,
          faultExit := false, reason := 3, queue := [4, 29], held := [⟨33, false⟩, ⟨34, true⟩, ⟨90, false⟩],
          badCount := 6, resendCount := 7 }⟩,
        [162, 16, 24, 1, 244, 101, 72, 195, 35, 4, 29, 0, 0, 0, 0, 0, 0, 66, 69, 180, 0, 0, 0, 0, 0, 6, 7, 167, 241]),
      (⟨21, 1, .turntableBeacon {
          period := 4000, turntable := 3, aligned := 0, deck := 6, holder := 0, clamped := true, fault := false,
          faultExit := true, reason := 2, queue := [], held := [], badCount := 0, resendCount := 255 }⟩,
        [170, 16, 24, 15, 160, 198, 0, 162, 0, 0, 0, 0, 0, 0, 0, 0, 0, 0, 0, 0, 0, 0, 0, 0, 0, 0, 255, 92, 153]),
      (⟨3, 0, .claim 77 250 ⟨9, true⟩⟩,
        [24, 32, 3, 77, 250, 152, 105, 120]),
      (⟨4, 1, .object 12 .holds ⟨5, false⟩ 22⟩,
        [34, 48, 4, 12, 1, 80, 22, 233, 149]),
      (⟨4, 1, .object 12 .outranks ⟨1, true⟩ 22⟩,
        [34, 48, 4, 12, 2, 24, 22, 217, 172]),
      (⟨4, 1, .object 12 .occupied ⟨15, false⟩ 22⟩,
        [34, 48, 4, 12, 3, 240, 22, 169, 180]),
      (⟨5, 0, .release [3, 64, 127]⟩,
        [40, 64, 4, 3, 3, 64, 127, 206, 31]),
      (⟨6, 0, .yieldAsk 44 27 13⟩,
        [48, 80, 3, 44, 27, 208, 127, 251]),
      (⟨30, 2, .order 8 515 (.route .move ⟨.point 6 (-2), [⟨4, .down, .turntable 3 2⟩, ⟨1, .up, .target⟩]⟩)⟩,
        [244, 96, 13, 8, 2, 3, 1, 134, 255, 255, 254, 2, 155, 2, 32, 0, 99, 220]),
      (⟨31, 2, .order 9 500 (.route .fetch ⟨.pad 37, [⟨2, .down, .target⟩]⟩)⟩,
        [252, 96, 11, 9, 1, 244, 2, 37, 0, 0, 0, 1, 80, 0, 217, 244]),
      (⟨31, 2, .order 10 7 (.route .place ⟨.pad 63, []⟩)⟩,
        [252, 96, 9, 10, 0, 7, 3, 63, 0, 0, 0, 0, 46, 94]),
      (⟨30, 2, .order 0 4660 .halt⟩,
        [244, 96, 4, 0, 18, 52, 4, 155, 182]),
      (⟨30, 2, .order 0 4660 .resume⟩,
        [244, 96, 4, 0, 18, 52, 5, 27, 179]),
      (⟨30, 2, .order 0 4660 .cancel⟩,
        [244, 96, 4, 0, 18, 52, 6, 27, 185]),
      (⟨30, 2, .order 12 1 (.setPosition 3 70000 1999)⟩,
        [244, 96, 10, 12, 0, 1, 7, 3, 1, 17, 112, 7, 207, 219, 39]),
      (⟨30, 2, .order 12 2 (.clearPeer 19)⟩,
        [244, 96, 5, 12, 0, 2, 8, 19, 140, 174]),
      (⟨9, 0, .turnAsk 2 3 1⟩,
        [72, 112, 3, 2, 3, 1, 96, 59]),
      (⟨20, 1, .turnAnswer 13 .grant 2⟩,
        [162, 128, 3, 13, 1, 2, 118, 153]),
      (⟨20, 1, .turnAnswer 13 .exit 2⟩,
        [162, 128, 3, 13, 2, 2, 124, 153]),
      (⟨20, 1, .turnAnswer 13 .refusedFull 2⟩,
        [162, 128, 3, 13, 3, 2, 250, 154]),
      (⟨20, 1, .turnAnswer 13 .revoked 2⟩,
        [162, 128, 3, 13, 4, 2, 104, 153]),
      (⟨20, 1, .turnAnswer 13 .notCentred 2⟩,
        [162, 128, 3, 13, 5, 2, 238, 154]),
      (⟨20, 1, .turnAnswer 13 .fault 2⟩,
        [162, 128, 3, 13, 6, 2, 228, 154]),
      (⟨9, 0, .turnAboard 2⟩,
        [72, 144, 1, 2, 173, 118]),
      (⟨9, 0, .turnClear 3⟩,
        [72, 160, 1, 3, 46, 179])] : List (WireFrame × List Nat)), p.1.encode = p.2.map byteOf
end

