-- ==== Sys2Proof/Laws/State.lean ====
section
/-! SUPPORT. What each named update of `Station` sets and what it leaves alone: one lemma per field per update. -/

namespace Sys2Proof.Machine

@[simp] theorem Station.withNow_now (s : Station) (x : Nat) : (s.withNow x).now = x := rfl
@[simp] theorem Station.withNow_inputs (s : Station) (x : Nat) : (s.withNow x).inputs = s.inputs := rfl
@[simp] theorem Station.withNow_bootMem (s : Station) (x : Nat) : (s.withNow x).bootMem = s.bootMem := rfl
@[simp] theorem Station.withNow_start (s : Station) (x : Nat) : (s.withNow x).start = s.start := rfl
@[simp] theorem Station.withNow_par (s : Station) (x : Nat) : (s.withNow x).par = s.par := rfl
@[simp] theorem Station.withNow_map (s : Station) (x : Nat) : (s.withNow x).map = s.map := rfl
@[simp] theorem Station.withNow_pos (s : Station) (x : Nat) : (s.withNow x).pos = s.pos := rfl
@[simp] theorem Station.withNow_peers (s : Station) (x : Nat) : (s.withNow x).peers = s.peers := rfl
@[simp] theorem Station.withNow_claims (s : Station) (x : Nat) : (s.withNow x).claims = s.claims := rfl
@[simp] theorem Station.withNow_env (s : Station) (x : Nat) : (s.withNow x).env = s.env := rfl
@[simp] theorem Station.withNow_order (s : Station) (x : Nat) : (s.withNow x).order = s.order := rfl
@[simp] theorem Station.withNow_trail (s : Station) (x : Nat) : (s.withNow x).trail = s.trail := rfl
@[simp] theorem Station.withNow_backing (s : Station) (x : Nat) : (s.withNow x).backing = s.backing := rfl
@[simp] theorem Station.withNow_appr (s : Station) (x : Nat) : (s.withNow x).appr = s.appr := rfl
@[simp] theorem Station.withNow_index (s : Station) (x : Nat) : (s.withNow x).index = s.index := rfl
@[simp] theorem Station.withNow_lift (s : Station) (x : Nat) : (s.withNow x).lift = s.lift := rfl
@[simp] theorem Station.withNow_park (s : Station) (x : Nat) : (s.withNow x).park = s.park := rfl
@[simp] theorem Station.withNow_tt (s : Station) (x : Nat) : (s.withNow x).tt = s.tt := rfl
@[simp] theorem Station.withNow_passage (s : Station) (x : Nat) : (s.withNow x).passage = s.passage := rfl
@[simp] theorem Station.withNow_line (s : Station) (x : Nat) : (s.withNow x).line = s.line := rfl

@[simp] theorem Station.withInputs_now (s : Station) (x : Inputs) : (s.withInputs x).now = s.now := rfl
@[simp] theorem Station.withInputs_inputs (s : Station) (x : Inputs) : (s.withInputs x).inputs = x := rfl
@[simp] theorem Station.withInputs_bootMem (s : Station) (x : Inputs) : (s.withInputs x).bootMem = s.bootMem := rfl
@[simp] theorem Station.withInputs_start (s : Station) (x : Inputs) : (s.withInputs x).start = s.start := rfl
@[simp] theorem Station.withInputs_par (s : Station) (x : Inputs) : (s.withInputs x).par = s.par := rfl
@[simp] theorem Station.withInputs_map (s : Station) (x : Inputs) : (s.withInputs x).map = s.map := rfl
@[simp] theorem Station.withInputs_pos (s : Station) (x : Inputs) : (s.withInputs x).pos = s.pos := rfl
@[simp] theorem Station.withInputs_peers (s : Station) (x : Inputs) : (s.withInputs x).peers = s.peers := rfl
@[simp] theorem Station.withInputs_claims (s : Station) (x : Inputs) : (s.withInputs x).claims = s.claims := rfl
@[simp] theorem Station.withInputs_env (s : Station) (x : Inputs) : (s.withInputs x).env = s.env := rfl
@[simp] theorem Station.withInputs_order (s : Station) (x : Inputs) : (s.withInputs x).order = s.order := rfl
@[simp] theorem Station.withInputs_trail (s : Station) (x : Inputs) : (s.withInputs x).trail = s.trail := rfl
@[simp] theorem Station.withInputs_backing (s : Station) (x : Inputs) : (s.withInputs x).backing = s.backing := rfl
@[simp] theorem Station.withInputs_appr (s : Station) (x : Inputs) : (s.withInputs x).appr = s.appr := rfl
@[simp] theorem Station.withInputs_index (s : Station) (x : Inputs) : (s.withInputs x).index = s.index := rfl
@[simp] theorem Station.withInputs_lift (s : Station) (x : Inputs) : (s.withInputs x).lift = s.lift := rfl
@[simp] theorem Station.withInputs_park (s : Station) (x : Inputs) : (s.withInputs x).park = s.park := rfl
@[simp] theorem Station.withInputs_tt (s : Station) (x : Inputs) : (s.withInputs x).tt = s.tt := rfl
@[simp] theorem Station.withInputs_passage (s : Station) (x : Inputs) : (s.withInputs x).passage = s.passage := rfl
@[simp] theorem Station.withInputs_line (s : Station) (x : Inputs) : (s.withInputs x).line = s.line := rfl

@[simp] theorem Station.withBootMem_now (s : Station) (x : Memory) : (s.withBootMem x).now = s.now := rfl
@[simp] theorem Station.withBootMem_inputs (s : Station) (x : Memory) : (s.withBootMem x).inputs = s.inputs := rfl
@[simp] theorem Station.withBootMem_bootMem (s : Station) (x : Memory) : (s.withBootMem x).bootMem = x := rfl
@[simp] theorem Station.withBootMem_start (s : Station) (x : Memory) : (s.withBootMem x).start = s.start := rfl
@[simp] theorem Station.withBootMem_par (s : Station) (x : Memory) : (s.withBootMem x).par = s.par := rfl
@[simp] theorem Station.withBootMem_map (s : Station) (x : Memory) : (s.withBootMem x).map = s.map := rfl
@[simp] theorem Station.withBootMem_pos (s : Station) (x : Memory) : (s.withBootMem x).pos = s.pos := rfl
@[simp] theorem Station.withBootMem_peers (s : Station) (x : Memory) : (s.withBootMem x).peers = s.peers := rfl
@[simp] theorem Station.withBootMem_claims (s : Station) (x : Memory) : (s.withBootMem x).claims = s.claims := rfl
@[simp] theorem Station.withBootMem_env (s : Station) (x : Memory) : (s.withBootMem x).env = s.env := rfl
@[simp] theorem Station.withBootMem_order (s : Station) (x : Memory) : (s.withBootMem x).order = s.order := rfl
@[simp] theorem Station.withBootMem_trail (s : Station) (x : Memory) : (s.withBootMem x).trail = s.trail := rfl
@[simp] theorem Station.withBootMem_backing (s : Station) (x : Memory) : (s.withBootMem x).backing = s.backing := rfl
@[simp] theorem Station.withBootMem_appr (s : Station) (x : Memory) : (s.withBootMem x).appr = s.appr := rfl
@[simp] theorem Station.withBootMem_index (s : Station) (x : Memory) : (s.withBootMem x).index = s.index := rfl
@[simp] theorem Station.withBootMem_lift (s : Station) (x : Memory) : (s.withBootMem x).lift = s.lift := rfl
@[simp] theorem Station.withBootMem_park (s : Station) (x : Memory) : (s.withBootMem x).park = s.park := rfl
@[simp] theorem Station.withBootMem_tt (s : Station) (x : Memory) : (s.withBootMem x).tt = s.tt := rfl
@[simp] theorem Station.withBootMem_passage (s : Station) (x : Memory) : (s.withBootMem x).passage = s.passage := rfl
@[simp] theorem Station.withBootMem_line (s : Station) (x : Memory) : (s.withBootMem x).line = s.line := rfl

@[simp] theorem Station.withStart_now (s : Station) (x : Startup) : (s.withStart x).now = s.now := rfl
@[simp] theorem Station.withStart_inputs (s : Station) (x : Startup) : (s.withStart x).inputs = s.inputs := rfl
@[simp] theorem Station.withStart_bootMem (s : Station) (x : Startup) : (s.withStart x).bootMem = s.bootMem := rfl
@[simp] theorem Station.withStart_start (s : Station) (x : Startup) : (s.withStart x).start = x := rfl
@[simp] theorem Station.withStart_par (s : Station) (x : Startup) : (s.withStart x).par = s.par := rfl
@[simp] theorem Station.withStart_map (s : Station) (x : Startup) : (s.withStart x).map = s.map := rfl
@[simp] theorem Station.withStart_pos (s : Station) (x : Startup) : (s.withStart x).pos = s.pos := rfl
@[simp] theorem Station.withStart_peers (s : Station) (x : Startup) : (s.withStart x).peers = s.peers := rfl
@[simp] theorem Station.withStart_claims (s : Station) (x : Startup) : (s.withStart x).claims = s.claims := rfl
@[simp] theorem Station.withStart_env (s : Station) (x : Startup) : (s.withStart x).env = s.env := rfl
@[simp] theorem Station.withStart_order (s : Station) (x : Startup) : (s.withStart x).order = s.order := rfl
@[simp] theorem Station.withStart_trail (s : Station) (x : Startup) : (s.withStart x).trail = s.trail := rfl
@[simp] theorem Station.withStart_backing (s : Station) (x : Startup) : (s.withStart x).backing = s.backing := rfl
@[simp] theorem Station.withStart_appr (s : Station) (x : Startup) : (s.withStart x).appr = s.appr := rfl
@[simp] theorem Station.withStart_index (s : Station) (x : Startup) : (s.withStart x).index = s.index := rfl
@[simp] theorem Station.withStart_lift (s : Station) (x : Startup) : (s.withStart x).lift = s.lift := rfl
@[simp] theorem Station.withStart_park (s : Station) (x : Startup) : (s.withStart x).park = s.park := rfl
@[simp] theorem Station.withStart_tt (s : Station) (x : Startup) : (s.withStart x).tt = s.tt := rfl
@[simp] theorem Station.withStart_passage (s : Station) (x : Startup) : (s.withStart x).passage = s.passage := rfl
@[simp] theorem Station.withStart_line (s : Station) (x : Startup) : (s.withStart x).line = s.line := rfl

@[simp] theorem Station.withPar_now (s : Station) (x : Params) : (s.withPar x).now = s.now := rfl
@[simp] theorem Station.withPar_inputs (s : Station) (x : Params) : (s.withPar x).inputs = s.inputs := rfl
@[simp] theorem Station.withPar_bootMem (s : Station) (x : Params) : (s.withPar x).bootMem = s.bootMem := rfl
@[simp] theorem Station.withPar_start (s : Station) (x : Params) : (s.withPar x).start = s.start := rfl
@[simp] theorem Station.withPar_par (s : Station) (x : Params) : (s.withPar x).par = x := rfl
@[simp] theorem Station.withPar_map (s : Station) (x : Params) : (s.withPar x).map = s.map := rfl
@[simp] theorem Station.withPar_pos (s : Station) (x : Params) : (s.withPar x).pos = s.pos := rfl
@[simp] theorem Station.withPar_peers (s : Station) (x : Params) : (s.withPar x).peers = s.peers := rfl
@[simp] theorem Station.withPar_claims (s : Station) (x : Params) : (s.withPar x).claims = s.claims := rfl
@[simp] theorem Station.withPar_env (s : Station) (x : Params) : (s.withPar x).env = s.env := rfl
@[simp] theorem Station.withPar_order (s : Station) (x : Params) : (s.withPar x).order = s.order := rfl
@[simp] theorem Station.withPar_trail (s : Station) (x : Params) : (s.withPar x).trail = s.trail := rfl
@[simp] theorem Station.withPar_backing (s : Station) (x : Params) : (s.withPar x).backing = s.backing := rfl
@[simp] theorem Station.withPar_appr (s : Station) (x : Params) : (s.withPar x).appr = s.appr := rfl
@[simp] theorem Station.withPar_index (s : Station) (x : Params) : (s.withPar x).index = s.index := rfl
@[simp] theorem Station.withPar_lift (s : Station) (x : Params) : (s.withPar x).lift = s.lift := rfl
@[simp] theorem Station.withPar_park (s : Station) (x : Params) : (s.withPar x).park = s.park := rfl
@[simp] theorem Station.withPar_tt (s : Station) (x : Params) : (s.withPar x).tt = s.tt := rfl
@[simp] theorem Station.withPar_passage (s : Station) (x : Params) : (s.withPar x).passage = s.passage := rfl
@[simp] theorem Station.withPar_line (s : Station) (x : Params) : (s.withPar x).line = s.line := rfl

@[simp] theorem Station.withMap_now (s : Station) (x : TrackMap) : (s.withMap x).now = s.now := rfl
@[simp] theorem Station.withMap_inputs (s : Station) (x : TrackMap) : (s.withMap x).inputs = s.inputs := rfl
@[simp] theorem Station.withMap_bootMem (s : Station) (x : TrackMap) : (s.withMap x).bootMem = s.bootMem := rfl
@[simp] theorem Station.withMap_start (s : Station) (x : TrackMap) : (s.withMap x).start = s.start := rfl
@[simp] theorem Station.withMap_par (s : Station) (x : TrackMap) : (s.withMap x).par = s.par := rfl
@[simp] theorem Station.withMap_map (s : Station) (x : TrackMap) : (s.withMap x).map = x := rfl
@[simp] theorem Station.withMap_pos (s : Station) (x : TrackMap) : (s.withMap x).pos = s.pos := rfl
@[simp] theorem Station.withMap_peers (s : Station) (x : TrackMap) : (s.withMap x).peers = s.peers := rfl
@[simp] theorem Station.withMap_claims (s : Station) (x : TrackMap) : (s.withMap x).claims = s.claims := rfl
@[simp] theorem Station.withMap_env (s : Station) (x : TrackMap) : (s.withMap x).env = s.env := rfl
@[simp] theorem Station.withMap_order (s : Station) (x : TrackMap) : (s.withMap x).order = s.order := rfl
@[simp] theorem Station.withMap_trail (s : Station) (x : TrackMap) : (s.withMap x).trail = s.trail := rfl
@[simp] theorem Station.withMap_backing (s : Station) (x : TrackMap) : (s.withMap x).backing = s.backing := rfl
@[simp] theorem Station.withMap_appr (s : Station) (x : TrackMap) : (s.withMap x).appr = s.appr := rfl
@[simp] theorem Station.withMap_index (s : Station) (x : TrackMap) : (s.withMap x).index = s.index := rfl
@[simp] theorem Station.withMap_lift (s : Station) (x : TrackMap) : (s.withMap x).lift = s.lift := rfl
@[simp] theorem Station.withMap_park (s : Station) (x : TrackMap) : (s.withMap x).park = s.park := rfl
@[simp] theorem Station.withMap_tt (s : Station) (x : TrackMap) : (s.withMap x).tt = s.tt := rfl
@[simp] theorem Station.withMap_passage (s : Station) (x : TrackMap) : (s.withMap x).passage = s.passage := rfl
@[simp] theorem Station.withMap_line (s : Station) (x : TrackMap) : (s.withMap x).line = s.line := rfl

@[simp] theorem Station.withPos_now (s : Station) (x : Position) : (s.withPos x).now = s.now := rfl
@[simp] theorem Station.withPos_inputs (s : Station) (x : Position) : (s.withPos x).inputs = s.inputs := rfl
@[simp] theorem Station.withPos_bootMem (s : Station) (x : Position) : (s.withPos x).bootMem = s.bootMem := rfl
@[simp] theorem Station.withPos_start (s : Station) (x : Position) : (s.withPos x).start = s.start := rfl
@[simp] theorem Station.withPos_par (s : Station) (x : Position) : (s.withPos x).par = s.par := rfl
@[simp] theorem Station.withPos_map (s : Station) (x : Position) : (s.withPos x).map = s.map := rfl
@[simp] theorem Station.withPos_pos (s : Station) (x : Position) : (s.withPos x).pos = x := rfl
@[simp] theorem Station.withPos_peers (s : Station) (x : Position) : (s.withPos x).peers = s.peers := rfl
@[simp] theorem Station.withPos_claims (s : Station) (x : Position) : (s.withPos x).claims = s.claims := rfl
@[simp] theorem Station.withPos_env (s : Station) (x : Position) : (s.withPos x).env = s.env := rfl
@[simp] theorem Station.withPos_order (s : Station) (x : Position) : (s.withPos x).order = s.order := rfl
@[simp] theorem Station.withPos_trail (s : Station) (x : Position) : (s.withPos x).trail = s.trail := rfl
@[simp] theorem Station.withPos_backing (s : Station) (x : Position) : (s.withPos x).backing = s.backing := rfl
@[simp] theorem Station.withPos_appr (s : Station) (x : Position) : (s.withPos x).appr = s.appr := rfl
@[simp] theorem Station.withPos_index (s : Station) (x : Position) : (s.withPos x).index = s.index := rfl
@[simp] theorem Station.withPos_lift (s : Station) (x : Position) : (s.withPos x).lift = s.lift := rfl
@[simp] theorem Station.withPos_park (s : Station) (x : Position) : (s.withPos x).park = s.park := rfl
@[simp] theorem Station.withPos_tt (s : Station) (x : Position) : (s.withPos x).tt = s.tt := rfl
@[simp] theorem Station.withPos_passage (s : Station) (x : Position) : (s.withPos x).passage = s.passage := rfl
@[simp] theorem Station.withPos_line (s : Station) (x : Position) : (s.withPos x).line = s.line := rfl

@[simp] theorem Station.withPeers_now (s : Station) (x : Vector PeerEntry 29) : (s.withPeers x).now = s.now := rfl
@[simp] theorem Station.withPeers_inputs (s : Station) (x : Vector PeerEntry 29) : (s.withPeers x).inputs = s.inputs := rfl
@[simp] theorem Station.withPeers_bootMem (s : Station) (x : Vector PeerEntry 29) : (s.withPeers x).bootMem = s.bootMem := rfl
@[simp] theorem Station.withPeers_start (s : Station) (x : Vector PeerEntry 29) : (s.withPeers x).start = s.start := rfl
@[simp] theorem Station.withPeers_par (s : Station) (x : Vector PeerEntry 29) : (s.withPeers x).par = s.par := rfl
@[simp] theorem Station.withPeers_map (s : Station) (x : Vector PeerEntry 29) : (s.withPeers x).map = s.map := rfl
@[simp] theorem Station.withPeers_pos (s : Station) (x : Vector PeerEntry 29) : (s.withPeers x).pos = s.pos := rfl
@[simp] theorem Station.withPeers_peers (s : Station) (x : Vector PeerEntry 29) : (s.withPeers x).peers = x := rfl
@[simp] theorem Station.withPeers_claims (s : Station) (x : Vector PeerEntry 29) : (s.withPeers x).claims = s.claims := rfl
@[simp] theorem Station.withPeers_env (s : Station) (x : Vector PeerEntry 29) : (s.withPeers x).env = s.env := rfl
@[simp] theorem Station.withPeers_order (s : Station) (x : Vector PeerEntry 29) : (s.withPeers x).order = s.order := rfl
@[simp] theorem Station.withPeers_trail (s : Station) (x : Vector PeerEntry 29) : (s.withPeers x).trail = s.trail := rfl
@[simp] theorem Station.withPeers_backing (s : Station) (x : Vector PeerEntry 29) : (s.withPeers x).backing = s.backing := rfl
@[simp] theorem Station.withPeers_appr (s : Station) (x : Vector PeerEntry 29) : (s.withPeers x).appr = s.appr := rfl
@[simp] theorem Station.withPeers_index (s : Station) (x : Vector PeerEntry 29) : (s.withPeers x).index = s.index := rfl
@[simp] theorem Station.withPeers_lift (s : Station) (x : Vector PeerEntry 29) : (s.withPeers x).lift = s.lift := rfl
@[simp] theorem Station.withPeers_park (s : Station) (x : Vector PeerEntry 29) : (s.withPeers x).park = s.park := rfl
@[simp] theorem Station.withPeers_tt (s : Station) (x : Vector PeerEntry 29) : (s.withPeers x).tt = s.tt := rfl
@[simp] theorem Station.withPeers_passage (s : Station) (x : Vector PeerEntry 29) : (s.withPeers x).passage = s.passage := rfl
@[simp] theorem Station.withPeers_line (s : Station) (x : Vector PeerEntry 29) : (s.withPeers x).line = s.line := rfl

@[simp] theorem Station.withClaims_now (s : Station) (x : ClaimBlock) : (s.withClaims x).now = s.now := rfl
@[simp] theorem Station.withClaims_inputs (s : Station) (x : ClaimBlock) : (s.withClaims x).inputs = s.inputs := rfl
@[simp] theorem Station.withClaims_bootMem (s : Station) (x : ClaimBlock) : (s.withClaims x).bootMem = s.bootMem := rfl
@[simp] theorem Station.withClaims_start (s : Station) (x : ClaimBlock) : (s.withClaims x).start = s.start := rfl
@[simp] theorem Station.withClaims_par (s : Station) (x : ClaimBlock) : (s.withClaims x).par = s.par := rfl
@[simp] theorem Station.withClaims_map (s : Station) (x : ClaimBlock) : (s.withClaims x).map = s.map := rfl
@[simp] theorem Station.withClaims_pos (s : Station) (x : ClaimBlock) : (s.withClaims x).pos = s.pos := rfl
@[simp] theorem Station.withClaims_peers (s : Station) (x : ClaimBlock) : (s.withClaims x).peers = s.peers := rfl
@[simp] theorem Station.withClaims_claims (s : Station) (x : ClaimBlock) : (s.withClaims x).claims = x := rfl
@[simp] theorem Station.withClaims_env (s : Station) (x : ClaimBlock) : (s.withClaims x).env = s.env := rfl
@[simp] theorem Station.withClaims_order (s : Station) (x : ClaimBlock) : (s.withClaims x).order = s.order := rfl
@[simp] theorem Station.withClaims_trail (s : Station) (x : ClaimBlock) : (s.withClaims x).trail = s.trail := rfl
@[simp] theorem Station.withClaims_backing (s : Station) (x : ClaimBlock) : (s.withClaims x).backing = s.backing := rfl
@[simp] theorem Station.withClaims_appr (s : Station) (x : ClaimBlock) : (s.withClaims x).appr = s.appr := rfl
@[simp] theorem Station.withClaims_index (s : Station) (x : ClaimBlock) : (s.withClaims x).index = s.index := rfl
@[simp] theorem Station.withClaims_lift (s : Station) (x : ClaimBlock) : (s.withClaims x).lift = s.lift := rfl
@[simp] theorem Station.withClaims_park (s : Station) (x : ClaimBlock) : (s.withClaims x).park = s.park := rfl
@[simp] theorem Station.withClaims_tt (s : Station) (x : ClaimBlock) : (s.withClaims x).tt = s.tt := rfl
@[simp] theorem Station.withClaims_passage (s : Station) (x : ClaimBlock) : (s.withClaims x).passage = s.passage := rfl
@[simp] theorem Station.withClaims_line (s : Station) (x : ClaimBlock) : (s.withClaims x).line = s.line := rfl

@[simp] theorem Station.withEnv_now (s : Station) (x : Envelope) : (s.withEnv x).now = s.now := rfl
@[simp] theorem Station.withEnv_inputs (s : Station) (x : Envelope) : (s.withEnv x).inputs = s.inputs := rfl
@[simp] theorem Station.withEnv_bootMem (s : Station) (x : Envelope) : (s.withEnv x).bootMem = s.bootMem := rfl
@[simp] theorem Station.withEnv_start (s : Station) (x : Envelope) : (s.withEnv x).start = s.start := rfl
@[simp] theorem Station.withEnv_par (s : Station) (x : Envelope) : (s.withEnv x).par = s.par := rfl
@[simp] theorem Station.withEnv_map (s : Station) (x : Envelope) : (s.withEnv x).map = s.map := rfl
@[simp] theorem Station.withEnv_pos (s : Station) (x : Envelope) : (s.withEnv x).pos = s.pos := rfl
@[simp] theorem Station.withEnv_peers (s : Station) (x : Envelope) : (s.withEnv x).peers = s.peers := rfl
@[simp] theorem Station.withEnv_claims (s : Station) (x : Envelope) : (s.withEnv x).claims = s.claims := rfl
@[simp] theorem Station.withEnv_env (s : Station) (x : Envelope) : (s.withEnv x).env = x := rfl
@[simp] theorem Station.withEnv_order (s : Station) (x : Envelope) : (s.withEnv x).order = s.order := rfl
@[simp] theorem Station.withEnv_trail (s : Station) (x : Envelope) : (s.withEnv x).trail = s.trail := rfl
@[simp] theorem Station.withEnv_backing (s : Station) (x : Envelope) : (s.withEnv x).backing = s.backing := rfl
@[simp] theorem Station.withEnv_appr (s : Station) (x : Envelope) : (s.withEnv x).appr = s.appr := rfl
@[simp] theorem Station.withEnv_index (s : Station) (x : Envelope) : (s.withEnv x).index = s.index := rfl
@[simp] theorem Station.withEnv_lift (s : Station) (x : Envelope) : (s.withEnv x).lift = s.lift := rfl
@[simp] theorem Station.withEnv_park (s : Station) (x : Envelope) : (s.withEnv x).park = s.park := rfl
@[simp] theorem Station.withEnv_tt (s : Station) (x : Envelope) : (s.withEnv x).tt = s.tt := rfl
@[simp] theorem Station.withEnv_passage (s : Station) (x : Envelope) : (s.withEnv x).passage = s.passage := rfl
@[simp] theorem Station.withEnv_line (s : Station) (x : Envelope) : (s.withEnv x).line = s.line := rfl

@[simp] theorem Station.withOrder_now (s : Station) (x : OrderUnit) : (s.withOrder x).now = s.now := rfl
@[simp] theorem Station.withOrder_inputs (s : Station) (x : OrderUnit) : (s.withOrder x).inputs = s.inputs := rfl
@[simp] theorem Station.withOrder_bootMem (s : Station) (x : OrderUnit) : (s.withOrder x).bootMem = s.bootMem := rfl
@[simp] theorem Station.withOrder_start (s : Station) (x : OrderUnit) : (s.withOrder x).start = s.start := rfl
@[simp] theorem Station.withOrder_par (s : Station) (x : OrderUnit) : (s.withOrder x).par = s.par := rfl
@[simp] theorem Station.withOrder_map (s : Station) (x : OrderUnit) : (s.withOrder x).map = s.map := rfl
@[simp] theorem Station.withOrder_pos (s : Station) (x : OrderUnit) : (s.withOrder x).pos = s.pos := rfl
@[simp] theorem Station.withOrder_peers (s : Station) (x : OrderUnit) : (s.withOrder x).peers = s.peers := rfl
@[simp] theorem Station.withOrder_claims (s : Station) (x : OrderUnit) : (s.withOrder x).claims = s.claims := rfl
@[simp] theorem Station.withOrder_env (s : Station) (x : OrderUnit) : (s.withOrder x).env = s.env := rfl
@[simp] theorem Station.withOrder_order (s : Station) (x : OrderUnit) : (s.withOrder x).order = x := rfl
@[simp] theorem Station.withOrder_trail (s : Station) (x : OrderUnit) : (s.withOrder x).trail = s.trail := rfl
@[simp] theorem Station.withOrder_backing (s : Station) (x : OrderUnit) : (s.withOrder x).backing = s.backing := rfl
@[simp] theorem Station.withOrder_appr (s : Station) (x : OrderUnit) : (s.withOrder x).appr = s.appr := rfl
@[simp] theorem Station.withOrder_index (s : Station) (x : OrderUnit) : (s.withOrder x).index = s.index := rfl
@[simp] theorem Station.withOrder_lift (s : Station) (x : OrderUnit) : (s.withOrder x).lift = s.lift := rfl
@[simp] theorem Station.withOrder_park (s : Station) (x : OrderUnit) : (s.withOrder x).park = s.park := rfl
@[simp] theorem Station.withOrder_tt (s : Station) (x : OrderUnit) : (s.withOrder x).tt = s.tt := rfl
@[simp] theorem Station.withOrder_passage (s : Station) (x : OrderUnit) : (s.withOrder x).passage = s.passage := rfl
@[simp] theorem Station.withOrder_line (s : Station) (x : OrderUnit) : (s.withOrder x).line = s.line := rfl

@[simp] theorem Station.withTrail_now (s : Station) (x : List Nat) : (s.withTrail x).now = s.now := rfl
@[simp] theorem Station.withTrail_inputs (s : Station) (x : List Nat) : (s.withTrail x).inputs = s.inputs := rfl
@[simp] theorem Station.withTrail_bootMem (s : Station) (x : List Nat) : (s.withTrail x).bootMem = s.bootMem := rfl
@[simp] theorem Station.withTrail_start (s : Station) (x : List Nat) : (s.withTrail x).start = s.start := rfl
@[simp] theorem Station.withTrail_par (s : Station) (x : List Nat) : (s.withTrail x).par = s.par := rfl
@[simp] theorem Station.withTrail_map (s : Station) (x : List Nat) : (s.withTrail x).map = s.map := rfl
@[simp] theorem Station.withTrail_pos (s : Station) (x : List Nat) : (s.withTrail x).pos = s.pos := rfl
@[simp] theorem Station.withTrail_peers (s : Station) (x : List Nat) : (s.withTrail x).peers = s.peers := rfl
@[simp] theorem Station.withTrail_claims (s : Station) (x : List Nat) : (s.withTrail x).claims = s.claims := rfl
@[simp] theorem Station.withTrail_env (s : Station) (x : List Nat) : (s.withTrail x).env = s.env := rfl
@[simp] theorem Station.withTrail_order (s : Station) (x : List Nat) : (s.withTrail x).order = s.order := rfl
@[simp] theorem Station.withTrail_trail (s : Station) (x : List Nat) : (s.withTrail x).trail = x := rfl
@[simp] theorem Station.withTrail_backing (s : Station) (x : List Nat) : (s.withTrail x).backing = s.backing := rfl
@[simp] theorem Station.withTrail_appr (s : Station) (x : List Nat) : (s.withTrail x).appr = s.appr := rfl
@[simp] theorem Station.withTrail_index (s : Station) (x : List Nat) : (s.withTrail x).index = s.index := rfl
@[simp] theorem Station.withTrail_lift (s : Station) (x : List Nat) : (s.withTrail x).lift = s.lift := rfl
@[simp] theorem Station.withTrail_park (s : Station) (x : List Nat) : (s.withTrail x).park = s.park := rfl
@[simp] theorem Station.withTrail_tt (s : Station) (x : List Nat) : (s.withTrail x).tt = s.tt := rfl
@[simp] theorem Station.withTrail_passage (s : Station) (x : List Nat) : (s.withTrail x).passage = s.passage := rfl
@[simp] theorem Station.withTrail_line (s : Station) (x : List Nat) : (s.withTrail x).line = s.line := rfl

@[simp] theorem Station.withBacking_now (s : Station) (x : Option Backing) : (s.withBacking x).now = s.now := rfl
@[simp] theorem Station.withBacking_inputs (s : Station) (x : Option Backing) : (s.withBacking x).inputs = s.inputs := rfl
@[simp] theorem Station.withBacking_bootMem (s : Station) (x : Option Backing) : (s.withBacking x).bootMem = s.bootMem := rfl
@[simp] theorem Station.withBacking_start (s : Station) (x : Option Backing) : (s.withBacking x).start = s.start := rfl
@[simp] theorem Station.withBacking_par (s : Station) (x : Option Backing) : (s.withBacking x).par = s.par := rfl
@[simp] theorem Station.withBacking_map (s : Station) (x : Option Backing) : (s.withBacking x).map = s.map := rfl
@[simp] theorem Station.withBacking_pos (s : Station) (x : Option Backing) : (s.withBacking x).pos = s.pos := rfl
@[simp] theorem Station.withBacking_peers (s : Station) (x : Option Backing) : (s.withBacking x).peers = s.peers := rfl
@[simp] theorem Station.withBacking_claims (s : Station) (x : Option Backing) : (s.withBacking x).claims = s.claims := rfl
@[simp] theorem Station.withBacking_env (s : Station) (x : Option Backing) : (s.withBacking x).env = s.env := rfl
@[simp] theorem Station.withBacking_order (s : Station) (x : Option Backing) : (s.withBacking x).order = s.order := rfl
@[simp] theorem Station.withBacking_trail (s : Station) (x : Option Backing) : (s.withBacking x).trail = s.trail := rfl
@[simp] theorem Station.withBacking_backing (s : Station) (x : Option Backing) : (s.withBacking x).backing = x := rfl
@[simp] theorem Station.withBacking_appr (s : Station) (x : Option Backing) : (s.withBacking x).appr = s.appr := rfl
@[simp] theorem Station.withBacking_index (s : Station) (x : Option Backing) : (s.withBacking x).index = s.index := rfl
@[simp] theorem Station.withBacking_lift (s : Station) (x : Option Backing) : (s.withBacking x).lift = s.lift := rfl
@[simp] theorem Station.withBacking_park (s : Station) (x : Option Backing) : (s.withBacking x).park = s.park := rfl
@[simp] theorem Station.withBacking_tt (s : Station) (x : Option Backing) : (s.withBacking x).tt = s.tt := rfl
@[simp] theorem Station.withBacking_passage (s : Station) (x : Option Backing) : (s.withBacking x).passage = s.passage := rfl
@[simp] theorem Station.withBacking_line (s : Station) (x : Option Backing) : (s.withBacking x).line = s.line := rfl

@[simp] theorem Station.withAppr_now (s : Station) (x : Approach) : (s.withAppr x).now = s.now := rfl
@[simp] theorem Station.withAppr_inputs (s : Station) (x : Approach) : (s.withAppr x).inputs = s.inputs := rfl
@[simp] theorem Station.withAppr_bootMem (s : Station) (x : Approach) : (s.withAppr x).bootMem = s.bootMem := rfl
@[simp] theorem Station.withAppr_start (s : Station) (x : Approach) : (s.withAppr x).start = s.start := rfl
@[simp] theorem Station.withAppr_par (s : Station) (x : Approach) : (s.withAppr x).par = s.par := rfl
@[simp] theorem Station.withAppr_map (s : Station) (x : Approach) : (s.withAppr x).map = s.map := rfl
@[simp] theorem Station.withAppr_pos (s : Station) (x : Approach) : (s.withAppr x).pos = s.pos := rfl
@[simp] theorem Station.withAppr_peers (s : Station) (x : Approach) : (s.withAppr x).peers = s.peers := rfl
@[simp] theorem Station.withAppr_claims (s : Station) (x : Approach) : (s.withAppr x).claims = s.claims := rfl
@[simp] theorem Station.withAppr_env (s : Station) (x : Approach) : (s.withAppr x).env = s.env := rfl
@[simp] theorem Station.withAppr_order (s : Station) (x : Approach) : (s.withAppr x).order = s.order := rfl
@[simp] theorem Station.withAppr_trail (s : Station) (x : Approach) : (s.withAppr x).trail = s.trail := rfl
@[simp] theorem Station.withAppr_backing (s : Station) (x : Approach) : (s.withAppr x).backing = s.backing := rfl
@[simp] theorem Station.withAppr_appr (s : Station) (x : Approach) : (s.withAppr x).appr = x := rfl
@[simp] theorem Station.withAppr_index (s : Station) (x : Approach) : (s.withAppr x).index = s.index := rfl
@[simp] theorem Station.withAppr_lift (s : Station) (x : Approach) : (s.withAppr x).lift = s.lift := rfl
@[simp] theorem Station.withAppr_park (s : Station) (x : Approach) : (s.withAppr x).park = s.park := rfl
@[simp] theorem Station.withAppr_tt (s : Station) (x : Approach) : (s.withAppr x).tt = s.tt := rfl
@[simp] theorem Station.withAppr_passage (s : Station) (x : Approach) : (s.withAppr x).passage = s.passage := rfl
@[simp] theorem Station.withAppr_line (s : Station) (x : Approach) : (s.withAppr x).line = s.line := rfl

@[simp] theorem Station.withIndex_now (s : Station) (x : DockIndex) : (s.withIndex x).now = s.now := rfl
@[simp] theorem Station.withIndex_inputs (s : Station) (x : DockIndex) : (s.withIndex x).inputs = s.inputs := rfl
@[simp] theorem Station.withIndex_bootMem (s : Station) (x : DockIndex) : (s.withIndex x).bootMem = s.bootMem := rfl
@[simp] theorem Station.withIndex_start (s : Station) (x : DockIndex) : (s.withIndex x).start = s.start := rfl
@[simp] theorem Station.withIndex_par (s : Station) (x : DockIndex) : (s.withIndex x).par = s.par := rfl
@[simp] theorem Station.withIndex_map (s : Station) (x : DockIndex) : (s.withIndex x).map = s.map := rfl
@[simp] theorem Station.withIndex_pos (s : Station) (x : DockIndex) : (s.withIndex x).pos = s.pos := rfl
@[simp] theorem Station.withIndex_peers (s : Station) (x : DockIndex) : (s.withIndex x).peers = s.peers := rfl
@[simp] theorem Station.withIndex_claims (s : Station) (x : DockIndex) : (s.withIndex x).claims = s.claims := rfl
@[simp] theorem Station.withIndex_env (s : Station) (x : DockIndex) : (s.withIndex x).env = s.env := rfl
@[simp] theorem Station.withIndex_order (s : Station) (x : DockIndex) : (s.withIndex x).order = s.order := rfl
@[simp] theorem Station.withIndex_trail (s : Station) (x : DockIndex) : (s.withIndex x).trail = s.trail := rfl
@[simp] theorem Station.withIndex_backing (s : Station) (x : DockIndex) : (s.withIndex x).backing = s.backing := rfl
@[simp] theorem Station.withIndex_appr (s : Station) (x : DockIndex) : (s.withIndex x).appr = s.appr := rfl
@[simp] theorem Station.withIndex_index (s : Station) (x : DockIndex) : (s.withIndex x).index = x := rfl
@[simp] theorem Station.withIndex_lift (s : Station) (x : DockIndex) : (s.withIndex x).lift = s.lift := rfl
@[simp] theorem Station.withIndex_park (s : Station) (x : DockIndex) : (s.withIndex x).park = s.park := rfl
@[simp] theorem Station.withIndex_tt (s : Station) (x : DockIndex) : (s.withIndex x).tt = s.tt := rfl
@[simp] theorem Station.withIndex_passage (s : Station) (x : DockIndex) : (s.withIndex x).passage = s.passage := rfl
@[simp] theorem Station.withIndex_line (s : Station) (x : DockIndex) : (s.withIndex x).line = s.line := rfl

@[simp] theorem Station.withLift_now (s : Station) (x : Lift) : (s.withLift x).now = s.now := rfl
@[simp] theorem Station.withLift_inputs (s : Station) (x : Lift) : (s.withLift x).inputs = s.inputs := rfl
@[simp] theorem Station.withLift_bootMem (s : Station) (x : Lift) : (s.withLift x).bootMem = s.bootMem := rfl
@[simp] theorem Station.withLift_start (s : Station) (x : Lift) : (s.withLift x).start = s.start := rfl
@[simp] theorem Station.withLift_par (s : Station) (x : Lift) : (s.withLift x).par = s.par := rfl
@[simp] theorem Station.withLift_map (s : Station) (x : Lift) : (s.withLift x).map = s.map := rfl
@[simp] theorem Station.withLift_pos (s : Station) (x : Lift) : (s.withLift x).pos = s.pos := rfl
@[simp] theorem Station.withLift_peers (s : Station) (x : Lift) : (s.withLift x).peers = s.peers := rfl
@[simp] theorem Station.withLift_claims (s : Station) (x : Lift) : (s.withLift x).claims = s.claims := rfl
@[simp] theorem Station.withLift_env (s : Station) (x : Lift) : (s.withLift x).env = s.env := rfl
@[simp] theorem Station.withLift_order (s : Station) (x : Lift) : (s.withLift x).order = s.order := rfl
@[simp] theorem Station.withLift_trail (s : Station) (x : Lift) : (s.withLift x).trail = s.trail := rfl
@[simp] theorem Station.withLift_backing (s : Station) (x : Lift) : (s.withLift x).backing = s.backing := rfl
@[simp] theorem Station.withLift_appr (s : Station) (x : Lift) : (s.withLift x).appr = s.appr := rfl
@[simp] theorem Station.withLift_index (s : Station) (x : Lift) : (s.withLift x).index = s.index := rfl
@[simp] theorem Station.withLift_lift (s : Station) (x : Lift) : (s.withLift x).lift = x := rfl
@[simp] theorem Station.withLift_park (s : Station) (x : Lift) : (s.withLift x).park = s.park := rfl
@[simp] theorem Station.withLift_tt (s : Station) (x : Lift) : (s.withLift x).tt = s.tt := rfl
@[simp] theorem Station.withLift_passage (s : Station) (x : Lift) : (s.withLift x).passage = s.passage := rfl
@[simp] theorem Station.withLift_line (s : Station) (x : Lift) : (s.withLift x).line = s.line := rfl

@[simp] theorem Station.withPark_now (s : Station) (x : Park) : (s.withPark x).now = s.now := rfl
@[simp] theorem Station.withPark_inputs (s : Station) (x : Park) : (s.withPark x).inputs = s.inputs := rfl
@[simp] theorem Station.withPark_bootMem (s : Station) (x : Park) : (s.withPark x).bootMem = s.bootMem := rfl
@[simp] theorem Station.withPark_start (s : Station) (x : Park) : (s.withPark x).start = s.start := rfl
@[simp] theorem Station.withPark_par (s : Station) (x : Park) : (s.withPark x).par = s.par := rfl
@[simp] theorem Station.withPark_map (s : Station) (x : Park) : (s.withPark x).map = s.map := rfl
@[simp] theorem Station.withPark_pos (s : Station) (x : Park) : (s.withPark x).pos = s.pos := rfl
@[simp] theorem Station.withPark_peers (s : Station) (x : Park) : (s.withPark x).peers = s.peers := rfl
@[simp] theorem Station.withPark_claims (s : Station) (x : Park) : (s.withPark x).claims = s.claims := rfl
@[simp] theorem Station.withPark_env (s : Station) (x : Park) : (s.withPark x).env = s.env := rfl
@[simp] theorem Station.withPark_order (s : Station) (x : Park) : (s.withPark x).order = s.order := rfl
@[simp] theorem Station.withPark_trail (s : Station) (x : Park) : (s.withPark x).trail = s.trail := rfl
@[simp] theorem Station.withPark_backing (s : Station) (x : Park) : (s.withPark x).backing = s.backing := rfl
@[simp] theorem Station.withPark_appr (s : Station) (x : Park) : (s.withPark x).appr = s.appr := rfl
@[simp] theorem Station.withPark_index (s : Station) (x : Park) : (s.withPark x).index = s.index := rfl
@[simp] theorem Station.withPark_lift (s : Station) (x : Park) : (s.withPark x).lift = s.lift := rfl
@[simp] theorem Station.withPark_park (s : Station) (x : Park) : (s.withPark x).park = x := rfl
@[simp] theorem Station.withPark_tt (s : Station) (x : Park) : (s.withPark x).tt = s.tt := rfl
@[simp] theorem Station.withPark_passage (s : Station) (x : Park) : (s.withPark x).passage = s.passage := rfl
@[simp] theorem Station.withPark_line (s : Station) (x : Park) : (s.withPark x).line = s.line := rfl

@[simp] theorem Station.withTt_now (s : Station) (x : Turntable) : (s.withTt x).now = s.now := rfl
@[simp] theorem Station.withTt_inputs (s : Station) (x : Turntable) : (s.withTt x).inputs = s.inputs := rfl
@[simp] theorem Station.withTt_bootMem (s : Station) (x : Turntable) : (s.withTt x).bootMem = s.bootMem := rfl
@[simp] theorem Station.withTt_start (s : Station) (x : Turntable) : (s.withTt x).start = s.start := rfl
@[simp] theorem Station.withTt_par (s : Station) (x : Turntable) : (s.withTt x).par = s.par := rfl
@[simp] theorem Station.withTt_map (s : Station) (x : Turntable) : (s.withTt x).map = s.map := rfl
@[simp] theorem Station.withTt_pos (s : Station) (x : Turntable) : (s.withTt x).pos = s.pos := rfl
@[simp] theorem Station.withTt_peers (s : Station) (x : Turntable) : (s.withTt x).peers = s.peers := rfl
@[simp] theorem Station.withTt_claims (s : Station) (x : Turntable) : (s.withTt x).claims = s.claims := rfl
@[simp] theorem Station.withTt_env (s : Station) (x : Turntable) : (s.withTt x).env = s.env := rfl
@[simp] theorem Station.withTt_order (s : Station) (x : Turntable) : (s.withTt x).order = s.order := rfl
@[simp] theorem Station.withTt_trail (s : Station) (x : Turntable) : (s.withTt x).trail = s.trail := rfl
@[simp] theorem Station.withTt_backing (s : Station) (x : Turntable) : (s.withTt x).backing = s.backing := rfl
@[simp] theorem Station.withTt_appr (s : Station) (x : Turntable) : (s.withTt x).appr = s.appr := rfl
@[simp] theorem Station.withTt_index (s : Station) (x : Turntable) : (s.withTt x).index = s.index := rfl
@[simp] theorem Station.withTt_lift (s : Station) (x : Turntable) : (s.withTt x).lift = s.lift := rfl
@[simp] theorem Station.withTt_park (s : Station) (x : Turntable) : (s.withTt x).park = s.park := rfl
@[simp] theorem Station.withTt_tt (s : Station) (x : Turntable) : (s.withTt x).tt = x := rfl
@[simp] theorem Station.withTt_passage (s : Station) (x : Turntable) : (s.withTt x).passage = s.passage := rfl
@[simp] theorem Station.withTt_line (s : Station) (x : Turntable) : (s.withTt x).line = s.line := rfl

@[simp] theorem Station.withPassage_now (s : Station) (x : Passage) : (s.withPassage x).now = s.now := rfl
@[simp] theorem Station.withPassage_inputs (s : Station) (x : Passage) : (s.withPassage x).inputs = s.inputs := rfl
@[simp] theorem Station.withPassage_bootMem (s : Station) (x : Passage) : (s.withPassage x).bootMem = s.bootMem := rfl
@[simp] theorem Station.withPassage_start (s : Station) (x : Passage) : (s.withPassage x).start = s.start := rfl
@[simp] theorem Station.withPassage_par (s : Station) (x : Passage) : (s.withPassage x).par = s.par := rfl
@[simp] theorem Station.withPassage_map (s : Station) (x : Passage) : (s.withPassage x).map = s.map := rfl
@[simp] theorem Station.withPassage_pos (s : Station) (x : Passage) : (s.withPassage x).pos = s.pos := rfl
@[simp] theorem Station.withPassage_peers (s : Station) (x : Passage) : (s.withPassage x).peers = s.peers := rfl
@[simp] theorem Station.withPassage_claims (s : Station) (x : Passage) : (s.withPassage x).claims = s.claims := rfl
@[simp] theorem Station.withPassage_env (s : Station) (x : Passage) : (s.withPassage x).env = s.env := rfl
@[simp] theorem Station.withPassage_order (s : Station) (x : Passage) : (s.withPassage x).order = s.order := rfl
@[simp] theorem Station.withPassage_trail (s : Station) (x : Passage) : (s.withPassage x).trail = s.trail := rfl
@[simp] theorem Station.withPassage_backing (s : Station) (x : Passage) : (s.withPassage x).backing = s.backing := rfl
@[simp] theorem Station.withPassage_appr (s : Station) (x : Passage) : (s.withPassage x).appr = s.appr := rfl
@[simp] theorem Station.withPassage_index (s : Station) (x : Passage) : (s.withPassage x).index = s.index := rfl
@[simp] theorem Station.withPassage_lift (s : Station) (x : Passage) : (s.withPassage x).lift = s.lift := rfl
@[simp] theorem Station.withPassage_park (s : Station) (x : Passage) : (s.withPassage x).park = s.park := rfl
@[simp] theorem Station.withPassage_tt (s : Station) (x : Passage) : (s.withPassage x).tt = s.tt := rfl
@[simp] theorem Station.withPassage_passage (s : Station) (x : Passage) : (s.withPassage x).passage = x := rfl
@[simp] theorem Station.withPassage_line (s : Station) (x : Passage) : (s.withPassage x).line = s.line := rfl

@[simp] theorem Station.withLine_now (s : Station) (x : LineIf) : (s.withLine x).now = s.now := rfl
@[simp] theorem Station.withLine_inputs (s : Station) (x : LineIf) : (s.withLine x).inputs = s.inputs := rfl
@[simp] theorem Station.withLine_bootMem (s : Station) (x : LineIf) : (s.withLine x).bootMem = s.bootMem := rfl
@[simp] theorem Station.withLine_start (s : Station) (x : LineIf) : (s.withLine x).start = s.start := rfl
@[simp] theorem Station.withLine_par (s : Station) (x : LineIf) : (s.withLine x).par = s.par := rfl
@[simp] theorem Station.withLine_map (s : Station) (x : LineIf) : (s.withLine x).map = s.map := rfl
@[simp] theorem Station.withLine_pos (s : Station) (x : LineIf) : (s.withLine x).pos = s.pos := rfl
@[simp] theorem Station.withLine_peers (s : Station) (x : LineIf) : (s.withLine x).peers = s.peers := rfl
@[simp] theorem Station.withLine_claims (s : Station) (x : LineIf) : (s.withLine x).claims = s.claims := rfl
@[simp] theorem Station.withLine_env (s : Station) (x : LineIf) : (s.withLine x).env = s.env := rfl
@[simp] theorem Station.withLine_order (s : Station) (x : LineIf) : (s.withLine x).order = s.order := rfl
@[simp] theorem Station.withLine_trail (s : Station) (x : LineIf) : (s.withLine x).trail = s.trail := rfl
@[simp] theorem Station.withLine_backing (s : Station) (x : LineIf) : (s.withLine x).backing = s.backing := rfl
@[simp] theorem Station.withLine_appr (s : Station) (x : LineIf) : (s.withLine x).appr = s.appr := rfl
@[simp] theorem Station.withLine_index (s : Station) (x : LineIf) : (s.withLine x).index = s.index := rfl
@[simp] theorem Station.withLine_lift (s : Station) (x : LineIf) : (s.withLine x).lift = s.lift := rfl
@[simp] theorem Station.withLine_park (s : Station) (x : LineIf) : (s.withLine x).park = s.park := rfl
@[simp] theorem Station.withLine_tt (s : Station) (x : LineIf) : (s.withLine x).tt = s.tt := rfl
@[simp] theorem Station.withLine_passage (s : Station) (x : LineIf) : (s.withLine x).passage = s.passage := rfl
@[simp] theorem Station.withLine_line (s : Station) (x : LineIf) : (s.withLine x).line = x := rfl

end Sys2Proof.Machine
end

