-- ==== Sys2Proof/Laws/Claims.lean ====
section
/-! SUPPORT. What the shared operations on the claim list and the transmit queue leave alone: one equation for each,
over `Station.bare`; and that what SET-POSITION owes names no segment twice. -/

namespace Sys2Proof.Machine

/-- The part with every field at its Default that asking, answering, releasing and queueing may change. -/
def Station.bare (s : Station) : Station :=
  { s with
    claims := {}, start := { clamped := s.start.clamped, listenEnd := s.start.listenEnd }, backing := none
    order := { s.order with bodyOwed := [], askTimes := Vector.replicate 128 none }
    tt := { s.tt with retryTime := none }
    passage := { s.passage with askOwed := false, clearsOwed := [] }
    line := { s.line with queue := [], beaconDue := false } }

@[simp] theorem Station.bare_withClaims (s : Station) (x : ClaimBlock) : (s.withClaims x).bare = s.bare := rfl
@[simp] theorem Station.bare_withBacking (s : Station) (x : Option Backing) : (s.withBacking x).bare = s.bare := rfl
@[simp] theorem Station.bare_setQueue (s : Station) (q : List QueueItem) : (s.setQueue q).bare = s.bare := rfl
@[simp] theorem Station.bare_setEntries (s : Station) (l : List ClaimEntry) : (s.setEntries l).bare = s.bare := rfl
@[simp] theorem Station.bare_mapEntry (s : Station) (n : Nat) (f : ClaimEntry → ClaimEntry) :
    (s.mapEntry n f).bare = s.bare := rfl
@[simp] theorem Station.bare_loseClaim (s : Station) : s.loseClaim.bare = s.bare := rfl
@[simp] theorem Station.bare_clearWait (s : Station) : s.clearWait.bare = s.bare := rfl
@[simp] theorem Station.bare_setOwed (s : Station) (l : List Nat) (b : Bool) : (s.setOwed l b).bare = s.bare := rfl
@[simp] theorem Station.bare_setReserve (s : Station) (b : Bool) : (s.setReserve b).bare = s.bare := rfl
@[simp] theorem Station.bare_enterReady (s : Station) : s.enterReady.bare = s.bare := rfl

@[simp] theorem Station.bare_retryBodyClaim (s : Station) : s.retryBodyClaim.bare = s.bare := by
  unfold Station.retryBodyClaim; split <;> rfl

@[simp] theorem Station.bare_markPopped (s : Station) (n : Nat) (f : Popped → Popped) :
    (s.markPopped n f).bare = s.bare := by
  unfold Station.markPopped; split <;> rfl

@[simp] theorem Station.bare_tell (s : Station) (a : Asker) (n : Nat) (t : Told) : (s.tell a n t).bare = s.bare := by
  unfold Station.tell
  split <;> first | rfl | simp | (split <;> first | rfl | simp)

@[simp] theorem Station.bare_removeGroup (s : Station) (e : ClaimEntry) : (s.removeGroup e).bare = s.bare := rfl
@[simp] theorem Station.bare_withdrawUnsent (s : Station) (n : Nat) : (s.withdrawUnsent n).bare = s.bare := rfl

@[simp] theorem Station.bare_oweClear (s : Station) (t : Nat) : (s.oweClear t).bare = s.bare := by
  unfold Station.oweClear; split <;> rfl

@[simp] theorem Station.bare_abandon (s : Station) (e : ClaimEntry) : (s.abandon e).bare = s.bare := by
  unfold Station.abandon; split <;> simp

@[simp] theorem Station.bare_claimNotSent (s : Station) (n : Nat) : (s.claimNotSent n).bare = s.bare := by
  unfold Station.claimNotSent; split <;> (try split) <;> simp

@[simp] theorem Station.bare_displaced (s : Station) (x : QueueItem) : (s.displaced x).bare = s.bare := by
  unfold Station.displaced; split <;> (try split) <;> first | rfl | simp

@[simp] theorem Station.bare_offer (s : Station) (f : OutFrame) : (s.offer f).1.bare = s.bare := by
  unfold Station.offer; split
  · rfl
  · split
    · split <;> simp
    · rfl

@[simp] theorem Station.bare_send (s : Station) (f : OutFrame) : (s.send f).bare = s.bare := Station.bare_offer s f

@[simp] theorem Station.bare_object (s : Station) (n : Nat) (k : Objection) (r : Rank) (c : Nat) :
    (s.object n k r c).bare = s.bare := Station.bare_send s _

theorem Station.bare_of_offer {s t : Station} {f : OutFrame} {b : Bool} (h : s.offer f = (t, b)) : t.bare = s.bare := by
  have := Station.bare_offer s f
  rw [h] at this; exact this

@[simp] theorem Station.bare_offerReleases (s : Station) : s.offerReleases.bare = s.bare := by
  unfold Station.offerReleases
  dsimp only
  split
  · rfl
  · split
    · rfl
    · split
      · rename_i h; simpa using Station.bare_of_offer h
      · rename_i h; simpa using Station.bare_of_offer h

@[simp] theorem Station.bare_releaseEntry (s : Station) (n : Nat) : (s.releaseEntry n).bare = s.bare := by
  unfold Station.releaseEntry; simp

@[simp] theorem Station.bare_releaseRequest (s : Station) (n : Nat) : (s.releaseRequest n).bare = s.bare := by
  unfold Station.releaseRequest
  split
  · rfl
  · split
    · rfl
    · split
      · simp
      · rfl
      · split <;> simp

/-- A fold of an operation that leaves `g` alone leaves `g` alone. -/
theorem foldl_keeps {α β γ : Type} (g : β → γ) (f : β → α → β) (h : ∀ b a, g (f b a) = g b) (l : List α) (b : β) :
    g (l.foldl f b) = g b := by
  induction l generalizing b with
  | nil => rfl
  | cons a l ih => simp [ih, h]

@[simp] theorem Station.bare_releaseAll (s : Station) (l : List Nat) : (s.releaseAll l).bare = s.bare :=
  foldl_keeps Station.bare _ (fun b a => Station.bare_releaseRequest b a) l s

theorem Station.bare_setDue (s : Station) (b : Bool) : (s.withLine { s.line with beaconDue := b }).bare = s.bare := rfl

@[simp] theorem Station.bare_beaconFallsDue (s : Station) : s.beaconFallsDue.bare = s.bare := by
  unfold Station.beaconFallsDue
  split
  · split <;> rfl
  · split
    · rename_i h; rw [Station.bare_setDue]; exact Station.bare_of_offer h
    · rename_i h; rw [Station.bare_setDue]; exact Station.bare_of_offer h

@[simp] theorem Station.bare_queueDueBeacon (s : Station) : s.queueDueBeacon.bare = s.bare := by
  unfold Station.queueDueBeacon; split <;> simp

@[simp] theorem Station.bare_makeClaim (s : Station) (n : Nat) (p : Purpose) (a : Asker) (t : Nat) :
    (s.makeClaim n p a t).1.bare = s.bare := by
  unfold Station.makeClaim
  dsimp only
  split
  · rename_i h; simpa using Station.bare_of_offer h
  · rename_i h; simpa using Station.bare_of_offer h

theorem Station.bare_of_makeClaim {s t : Station} {n g : Nat} {p : Purpose} {a : Asker} {b : Bool}
    (h : s.makeClaim n p a g = (t, b)) : t.bare = s.bare := by
  have := Station.bare_makeClaim s n p a g
  rw [h] at this; exact this

@[simp] theorem Station.bare_claim (s : Station) (n : Nat) (p : Purpose) (a : Asker) :
    (s.claim n p a).1.bare = s.bare := by
  unfold Station.claim
  split
  · rfl
  · split
    · rename_i h; exact Station.bare_of_makeClaim h
    · rename_i h; exact Station.bare_of_makeClaim h

theorem Station.bare_of_claim {s t : Station} {n : Nat} {p : Purpose} {a : Asker} {x : ClaimAnswer}
    (h : s.claim n p a = (t, x)) : t.bare = s.bare := by
  have := Station.bare_claim s n p a
  rw [h] at this; exact this

@[simp] theorem Station.bare_makeGroup (s : Station) (p : Purpose) (a : Asker) (g : Nat) (l : List Nat) :
    (s.makeGroup p a g l).1.bare = s.bare := by
  induction l generalizing s with
  | nil => rfl
  | cons n l ih =>
    unfold Station.makeGroup
    split
    · rename_i h; rw [ih]; exact Station.bare_of_makeClaim h
    · rename_i h; exact Station.bare_of_makeClaim h

theorem Station.bare_of_makeGroup {s t : Station} {p : Purpose} {a : Asker} {g : Nat} {l : List Nat} {b : Bool}
    (h : s.makeGroup p a g l = (t, b)) : t.bare = s.bare := by
  have := Station.bare_makeGroup s p a g l
  rw [h] at this; exact this

@[simp] theorem Station.bare_claimGroup (s : Station) (l : List Nat) (p : Purpose) (a : Asker) :
    (s.claimGroup l p a).1.bare = s.bare := by
  unfold Station.claimGroup
  split
  · rfl
  · simp
  · split
    · rfl
    · dsimp only
      split
      · rename_i h; simpa using Station.bare_of_makeGroup h
      · rename_i h; simpa using Station.bare_of_makeGroup h

@[simp] theorem Station.bare_endWindow (s : Station) (n : Nat) : (s.endWindow n).bare = s.bare := by
  unfold Station.endWindow
  split
  · rfl
  · split
    · extract_lets won members s1 s2
      have h2 : s2.bare = s.bare := by simp only [s2]; split <;> rfl
      split <;> simp [h2]
    · rfl

@[simp] theorem Station.bare_openWindow (s : Station) (n : Nat) : (s.openWindow n).bare = s.bare := rfl

@[simp] theorem Station.bare_yieldEntry (s : Station) (e : ClaimEntry) (p : Nat) : (s.yieldEntry e p).bare = s.bare := by
  unfold Station.yieldEntry; split <;> rfl

@[simp] theorem Station.bare_holdLimit (s : Station) (n : Nat) : (s.holdLimit n).bare = s.bare := by
  unfold Station.holdLimit
  split
  · rfl
  · split
    · rfl
    · split
      · split <;> simp
      · rfl

@[simp] theorem Station.bare_aheadToBody (s : Station) : s.aheadToBody.bare = s.bare := rfl
@[simp] theorem Station.bare_backToBody (s : Station) (l : List Nat) : (s.backToBody l).bare = s.bare := rfl
@[simp] theorem Station.bare_removeDeckEntry (s : Station) (t : Nat) : (s.removeDeckEntry t).bare = s.bare := rfl

@[simp] theorem Station.bare_makeDeckEntry (s : Station) (t : Nat) : (s.makeDeckEntry t).1.bare = s.bare := by
  unfold Station.makeDeckEntry
  split
  · rfl
  · split
    · rfl
    · split <;> rfl

@[simp] theorem Station.bare_yieldAsk (s : Station) (n p : Nat) : (s.yieldAsk n p).bare = s.bare := by
  unfold Station.yieldAsk
  extract_lets
  split
  · split
    · rename_i h; rw [← Station.bare_of_offer h]; rfl
    · rename_i h; exact Station.bare_of_offer h
  · rfl

@[simp] theorem Station.bare_claimAhead (s : Station) : s.claimAhead.bare = s.bare := by
  unfold Station.claimAhead
  split
  · rfl
  · split
    · rfl
    · split
      · rename_i h
        split
        · exact Station.bare_of_claim h
        · simpa using Station.bare_of_claim h
      · rename_i h _; exact Station.bare_of_claim (by assumption)

@[simp] theorem Station.bare_releaseAhead (s : Station) : s.releaseAhead.bare = s.bare := Station.bare_releaseAll s _

/-- What `bare` keeps, `steady` keeps. -/
theorem Station.steady_of_bare {s t : Station} (h : t.bare = s.bare) : t.steady = s.steady := by
  have e : ∀ u : Station, u.bare.steady = u.steady := fun _ => rfl
  rw [← e t, h, e]

/-! ## What SET-POSITION owes (R121) -/

theorem insertBy_perm {α : Type} (le : α → α → Bool) (x : α) (l : List α) : (insertBy le x l).Perm (x :: l) := by
  induction l with
  | nil => exact .refl _
  | cons y l ih =>
    unfold insertBy; split
    · exact .refl _
    · exact (ih.cons y).trans (.swap x y l)

/-- Sorting keeps what is sorted. -/
theorem sortBy_perm {α : Type} (le : α → α → Bool) (l : List α) : (sortBy le l).Perm l := by
  induction l with
  | nil => exact .refl _
  | cons x l ih => exact (insertBy_perm le x _).trans (ih.cons x)

/-- The rail of a line names each of its segments once. -/
theorem TrackMap.railStretches_nodup (m : TrackMap) (l : Nat) : ((m.railStretches l).map (·.seg)).Nodup := by
  have h : (m.segments.toList.zipIdx.map (·.2)).Nodup := by
    rw [List.zipIdx_map_snd]; exact List.nodup_range'
  have hs : (m.railStretches l).map (·.seg) =
      ((m.segments.toList.zipIdx.filter (·.1.valid)).filter fun (g, _) => g.onLine l).map (·.2) := by
    simp [TrackMap.railStretches, TrackMap.allSegments, Function.comp_def]
  rw [hs]
  exact h.sublist ((List.filter_sublist.trans List.filter_sublist).map _)

/-- Of the stretches of an axis, those that are no deck are its rail. -/
theorem TrackMap.axis_rail (m : TrackMap) (l : Nat) (p : Stretch → Bool) (hp : ∀ b, p b = true → b.kind ≠ .deck) :
    ((m.axis l).filter p).Sublist (m.railStretches l) := by
  have hd (e : Bool) : (m.deckStretch l e).filter p = [] := by
    rw [List.filter_eq_nil_iff]; intro b hb h
    refine hp b h ?_
    unfold TrackMap.deckStretch at hb
    split at hb <;> try split at hb
    all_goals simp_all
  unfold TrackMap.axis
  split
  · simp [List.filter_append, hd]
  · simp

/-- The guarded extent touches a PLAIN or GUARD segment once. -/
theorem Station.touched_nodup (s : Station) (p : Stretch → Bool) (hp : ∀ b, p b = true → b.kind ≠ .deck) :
    ((s.touched.filter p).map (·.seg)).Nodup := by
  unfold Station.touched
  split
  · simp
  · rename_i a _
    cases a with
    | line l =>
      refine ((((sortBy_perm _ _).filter p).map _).nodup_iff).2 ?_
      rw [List.filter_filter]
      exact (s.map.railStretches_nodup l).sublist ((s.map.axis_rail l _ fun b h => hp b (by simp_all)).map _)
    | deck t =>
      refine List.Nodup.sublist (List.filter_sublist.map _) ?_
      simp only [TrackMap.covering]
      cases s.map.deckSegment t <;> simp

/-- What SET-POSITION owes names no segment twice: the new part is not in the list, the kept part is (R121, log 18). -/
theorem Station.bodyToWin_nodup (s : Station) (h : s.order.bodyOwed.Nodup) : s.bodyToWin.Nodup := by
  refine List.nodup_append.2 ⟨s.touched_nodup _ fun b h => by simp_all, h.sublist List.filter_sublist, ?_⟩
  intro a ha b hb hab
  subst hab
  simp only [Station.bodyWanted, List.mem_map, List.mem_filter] at ha hb
  obtain ⟨x, ⟨_, hx⟩, rfl⟩ := ha
  simp [ClaimBlock.lists, ClaimBlock.listens] at hx hb
  grind

end Sys2Proof.Machine
end

