-- ==== Sys2Proof/Laws/Steady.lean ====
section
/-! SUPPORT. What the operations of every block leave alone when the blocks evaluate: one equation for each, over
`Station.steady`, and the same for the evaluations after a command as a whole. -/

namespace Sys2Proof.Machine

/-! ## The named updates -/

@[simp] theorem Station.steady_withClaims (s : Station) (x : ClaimBlock) : (s.withClaims x).steady = s.steady := rfl
@[simp] theorem Station.steady_withBacking (s : Station) (x : Option Backing) : (s.withBacking x).steady = s.steady := rfl
@[simp] theorem Station.steady_withTrail (s : Station) (x : List Nat) : (s.withTrail x).steady = s.steady := rfl
@[simp] theorem Station.steady_withPark (s : Station) (x : Park) : (s.withPark x).steady = s.steady := rfl
@[simp] theorem Station.steady_withBootMem (s : Station) (x : Memory) : (s.withBootMem x).steady = s.steady := rfl
@[simp] theorem Station.steady_withAppr (s : Station) (x : Approach) : (s.withAppr x).steady = s.steady := rfl
@[simp] theorem Station.steady_withPassage (s : Station) (x : Passage) : (s.withPassage x).steady = s.steady := rfl

@[simp] theorem Station.steady_withEnv (s : Station) (x : Envelope) (h : x.emptyTable = s.env.emptyTable)
    (k : x.loadedTable = s.env.loadedTable) : (s.withEnv x).steady = s.steady := by
  simp [Station.steady, h, k]

@[simp] theorem Station.steady_withTt (s : Station) (x : Turntable) (h : x.grantHold = s.tt.grantHold)
    (k : x.evalTimer = s.tt.evalTimer) : (s.withTt x).steady = s.steady := by
  simp [Station.steady, h, k]

@[simp] theorem Station.steady_withLift (s : Station) (x : Lift) (h : x.load = s.lift.load) :
    (s.withLift x).steady = s.steady := by
  simp [Station.steady, h]

@[simp] theorem Station.steady_withStart (s : Station) (x : Startup) (h : x.clamped = s.start.clamped)
    (k : x.listenEnd = s.start.listenEnd) : (s.withStart x).steady = s.steady := by
  simp [Station.steady, h, k]

/-- The order fields that evaluations keep. -/
theorem Station.steady_withOrder (s : Station) (x : OrderUnit)
    (h : x.number = s.order.number ∧ x.kind = s.order.kind ∧ x.target = s.order.target ∧ x.line = s.order.line ∧
      x.chainage = s.order.chainage ∧ x.route = s.order.route ∧ x.cursor = s.order.cursor ∧
      x.origin = s.order.origin ∧ x.answer = s.order.answer ∧ x.evalTimer = s.order.evalTimer) :
    (s.withOrder x).steady = s.steady := by
  simp [Station.steady, h]

theorem Station.steady_withPos (s : Station) (x : Position)
    (h : { x with frame := .unknown, deckTurntable := 0, entryArm := 0, dir := .up } =
      { s.pos with frame := .unknown, deckTurntable := 0, entryArm := 0, dir := .up }) :
    (s.withPos x).steady = s.steady := by
  simp only [Station.steady, Station.withPos_pos, h]
  rfl

theorem Station.steady_withLine (s : Station) (x : LineIf)
    (h : { x with queue := [], period := 0, beaconDue := false, beaconTimer := none } =
      { s.line with queue := [], period := 0, beaconDue := false, beaconTimer := none }) :
    (s.withLine x).steady = s.steady := by
  simp only [Station.steady, Station.withLine_line, h]
  rfl

/-! ## Claims, releases and frames -/

@[simp] theorem Station.steady_setEntries (s : Station) (l : List ClaimEntry) : (s.setEntries l).steady = s.steady := rfl
@[simp] theorem Station.steady_setQueue (s : Station) (q : List QueueItem) : (s.setQueue q).steady = s.steady := rfl
@[simp] theorem Station.steady_setReserve (s : Station) (b : Bool) : (s.setReserve b).steady = s.steady := rfl
@[simp] theorem Station.steady_clearWait (s : Station) : s.clearWait.steady = s.steady := rfl
@[simp] theorem Station.steady_tell (s : Station) (a : Asker) (n : Nat) (t : Told) : (s.tell a n t).steady = s.steady :=
  Station.steady_of_bare (by simp)
@[simp] theorem Station.steady_offer (s : Station) (f : OutFrame) : (s.offer f).1.steady = s.steady :=
  Station.steady_of_bare (by simp)
theorem Station.steady_of_offer {s t : Station} {f : OutFrame} {b : Bool} (h : s.offer f = (t, b)) :
    t.steady = s.steady := Station.steady_of_bare (Station.bare_of_offer h)
@[simp] theorem Station.steady_send (s : Station) (f : OutFrame) : (s.send f).steady = s.steady :=
  Station.steady_of_bare (by simp)
@[simp] theorem Station.steady_object (s : Station) (n : Nat) (k : Objection) (r : Rank) (c : Nat) :
    (s.object n k r c).steady = s.steady := Station.steady_of_bare (by simp)
@[simp] theorem Station.steady_abandon (s : Station) (e : ClaimEntry) : (s.abandon e).steady = s.steady :=
  Station.steady_of_bare (by simp)
@[simp] theorem Station.steady_claimNotSent (s : Station) (n : Nat) : (s.claimNotSent n).steady = s.steady :=
  Station.steady_of_bare (by simp)
@[simp] theorem Station.steady_offerReleases (s : Station) : s.offerReleases.steady = s.steady :=
  Station.steady_of_bare (by simp)
@[simp] theorem Station.steady_releaseEntry (s : Station) (n : Nat) : (s.releaseEntry n).steady = s.steady :=
  Station.steady_of_bare (by simp)
@[simp] theorem Station.steady_releaseRequest (s : Station) (n : Nat) : (s.releaseRequest n).steady = s.steady :=
  Station.steady_of_bare (by simp)
@[simp] theorem Station.steady_releaseAll (s : Station) (l : List Nat) : (s.releaseAll l).steady = s.steady :=
  Station.steady_of_bare (by simp)
@[simp] theorem Station.steady_beaconFallsDue (s : Station) : s.beaconFallsDue.steady = s.steady :=
  Station.steady_of_bare (by simp)
@[simp] theorem Station.steady_queueDueBeacon (s : Station) : s.queueDueBeacon.steady = s.steady :=
  Station.steady_of_bare (by simp)
@[simp] theorem Station.steady_claim (s : Station) (n : Nat) (p : Purpose) (a : Asker) :
    (s.claim n p a).1.steady = s.steady := Station.steady_of_bare (by simp)
theorem Station.steady_of_claim {s t : Station} {n : Nat} {p : Purpose} {a : Asker} {x : ClaimAnswer}
    (h : s.claim n p a = (t, x)) : t.steady = s.steady := Station.steady_of_bare (Station.bare_of_claim h)
@[simp] theorem Station.steady_claimGroup (s : Station) (l : List Nat) (p : Purpose) (a : Asker) :
    (s.claimGroup l p a).1.steady = s.steady := Station.steady_of_bare (by simp)
@[simp] theorem Station.steady_endWindow (s : Station) (n : Nat) : (s.endWindow n).steady = s.steady :=
  Station.steady_of_bare (by simp)
@[simp] theorem Station.steady_holdLimit (s : Station) (n : Nat) : (s.holdLimit n).steady = s.steady :=
  Station.steady_of_bare (by simp)
@[simp] theorem Station.steady_yieldEntry (s : Station) (e : ClaimEntry) (p : Nat) :
    (s.yieldEntry e p).steady = s.steady := Station.steady_of_bare (by simp)
@[simp] theorem Station.steady_aheadToBody (s : Station) : s.aheadToBody.steady = s.steady := rfl
@[simp] theorem Station.steady_backToBody (s : Station) (l : List Nat) : (s.backToBody l).steady = s.steady := rfl
@[simp] theorem Station.steady_removeDeckEntry (s : Station) (t : Nat) : (s.removeDeckEntry t).steady = s.steady := rfl
@[simp] theorem Station.steady_claimAhead (s : Station) : s.claimAhead.steady = s.steady :=
  Station.steady_of_bare (by simp)
@[simp] theorem Station.steady_releaseAhead (s : Station) : s.releaseAhead.steady = s.steady :=
  Station.steady_of_bare (by simp)

/-! ## Envelope, order states and approach -/

@[simp] theorem Station.steady_setDir (s : Station) (d : Dir) : (s.setDir d).steady = s.steady := rfl
@[simp] theorem Station.steady_setPending (s : Station) (d : Option Dir) : (s.setPending d).steady = s.steady := rfl
@[simp] theorem Station.steady_raiseEmergency (s : Station) : s.raiseEmergency.steady = s.steady := rfl
@[simp] theorem Station.steady_freshStop (s : Station) : s.freshStop.steady = s.steady := rfl

@[simp] theorem Station.steady_requestDirection (s : Station) (d : Dir) : (s.requestDirection d).steady = s.steady := by
  unfold Station.requestDirection; split
  · rfl
  · split <;> rfl

@[simp] theorem Station.steady_applyPending (s : Station) : s.applyPending.steady = s.steady := by
  unfold Station.applyPending; split
  · split <;> rfl
  · rfl

@[simp] theorem Station.steady_beginWrite (s : Station) (r : ParkRecord) : (s.beginWrite r).steady = s.steady := rfl

@[simp] theorem Station.steady_requestWrite (s : Station) (r : ParkRecord) : (s.requestWrite r).steady = s.steady := by
  unfold Station.requestWrite; split <;> rfl

@[simp] theorem Station.steady_openPark (s : Station) : s.openPark.steady = s.steady := rfl

@[simp] theorem Station.steady_touchPark (s : Station) : s.touchPark.steady = s.steady := by
  unfold Station.touchPark; split <;> rfl

@[simp] theorem Station.steady_parkEval (s : Station) : s.parkEval.steady = s.steady := by
  unfold Station.parkEval; split <;> simp

@[simp] theorem Station.steady_movedOff (s : Station) : s.movedOff.steady = s.steady := by
  unfold Station.movedOff; dsimp only; split <;> simp

@[simp] theorem Station.steady_stopLift (s : Station) : s.stopLift.steady = s.steady := by
  unfold Station.stopLift; split <;> rfl

@[simp] theorem Station.steady_stopOrder (s : Station) (r : Reason) : (s.stopOrder r).steady = s.steady := by
  unfold Station.stopOrder; split
  · rfl
  · split
    · split <;> rfl
    · simp [Station.steady_withOrder]

@[simp] theorem Station.steady_giveUpAttempt (s : Station) : s.giveUpAttempt.steady = s.steady := by
  unfold Station.giveUpAttempt; split <;> rfl

@[simp] theorem Station.steady_endOrder (s : Station) (st : OrderState) (r : Reason) :
    (s.endOrder st r).steady = s.steady := by
  unfold Station.endOrder; simp -implicitDefEqProofs [Station.steady_withOrder]

@[simp] theorem Station.steady_unwindBacking (s : Station) (b : Backing) : (s.unwindBacking b).steady = s.steady := by
  unfold Station.unwindBacking; dsimp only; split <;> simp

@[simp] theorem Station.steady_leaveBacking (s : Station) (b : Backing) : (s.leaveBacking b).steady = s.steady := by
  unfold Station.leaveBacking; dsimp only; split <;> simp [Station.steady_withOrder]

@[simp] theorem Station.steady_failBacking (s : Station) (b : Backing) : (s.failBacking b).steady = s.steady := by
  unfold Station.failBacking; simp

@[simp] theorem Station.steady_cutBacking (s : Station) : s.cutBacking.steady = s.steady := by
  unfold Station.cutBacking; split <;> simp

@[simp] theorem Station.steady_finishBacking (s : Station) (b : Backing) : (s.finishBacking b).steady = s.steady := by
  unfold Station.finishBacking; simp

@[simp] theorem Station.steady_arriveBacking (s : Station) : s.arriveBacking.steady = s.steady := by
  unfold Station.arriveBacking; split
  · rfl
  · split
    · simp
    · split <;> simp

@[simp] theorem Station.steady_startAttempt (s : Station) : s.startAttempt.steady = s.steady := by
  unfold Station.startAttempt; dsimp only; split
  · simp -implicitDefEqProofs
  · split <;> simp -implicitDefEqProofs

@[simp] theorem Station.steady_handOn (s : Station) (x : Chainage) : (s.handOn x).steady = s.steady := by
  unfold Station.handOn; simp

@[simp] theorem Station.steady_handOver (s : Station) : s.handOver.steady = s.steady := by
  unfold Station.handOver; split
  · rfl
  · split <;> simp

@[simp] theorem Station.steady_dropApproach (s : Station) : s.dropApproach.steady = s.steady := rfl

@[simp] theorem Station.steady_failAttempt (s : Station) : s.failAttempt.steady = s.steady := by
  unfold Station.failAttempt; split
  · simp
  · split <;> simp

@[simp] theorem Station.steady_enterDeck (s : Station) : s.enterDeck.steady = s.steady := rfl

@[simp] theorem Station.steady_sendAboard (s : Station) : s.sendAboard.steady = s.steady := by
  unfold Station.sendAboard; simp

@[simp] theorem Station.steady_endTargetLeg (s : Station) : s.endTargetLeg.steady = s.steady := by
  unfold Station.endTargetLeg; split
  · simp
  · simp -implicitDefEqProofs [Station.steady_withOrder]
  · simp -implicitDefEqProofs [Station.steady_withOrder]

@[simp] theorem Station.steady_approachCheck (s : Station) : s.approachCheck.steady = s.steady := by
  unfold Station.approachCheck; split
  · split <;> (try split) <;> simp
  · rfl

/-! ## The evaluations of the blocks -/

@[simp] theorem Station.steady_dropStep (s : Station) : s.dropStep.steady = s.steady := by
  unfold Station.dropStep; extract_lets; split <;> rfl

@[simp] theorem Station.steady_clearLatch (s : Station) : s.clearLatch.steady = s.steady := by
  unfold Station.clearLatch; split <;> simp

@[simp] theorem Station.steady_releaseTest (s : Station) : s.releaseTest.steady = s.steady := by
  unfold Station.releaseTest; extract_lets; split
  · exact foldl_keeps Station.steady _ (fun b a => Station.steady_releaseEntry b a) _ s
  · rfl

@[simp] theorem Station.steady_raiseTest (s : Station) : s.raiseTest.steady = s.steady := by
  unfold Station.raiseTest; split
  · dsimp only; split <;> simp
  · rfl

@[simp] theorem Station.steady_withdrawDemand (s : Station) : s.withdrawDemand.steady = s.steady := by
  unfold Station.withdrawDemand; split <;> rfl

@[simp] theorem Station.steady_envEval (s : Station) : s.envEval.steady = s.steady := by
  unfold Station.envEval; split
  · dsimp only; split <;> simp
  · rfl

@[simp] theorem Station.steady_takeInPosition (s : Station) : s.takeInPosition.steady = s.steady := by
  unfold Station.takeInPosition; split <;> simp

@[simp] theorem Station.steady_startTravel (s : Station) : s.startTravel.steady = s.steady := by
  unfold Station.startTravel; rfl

@[simp] theorem Station.steady_liftEval (s : Station) : s.liftEval.steady = s.steady := by
  unfold Station.liftEval; split
  · rfl
  · split
    · split <;> simp
    · simp

@[simp] theorem Station.steady_backingRelease (s : Station) : s.backingRelease.steady = s.steady := by
  unfold Station.backingRelease Station.setBacking; split
  · rfl
  · split
    · rfl
    · split
      · simp
      · split <;> simp

@[simp] theorem Station.steady_markEntered (s : Station) : s.markEntered.steady = s.steady := by
  unfold Station.markEntered; split <;> rfl

@[simp] theorem Station.steady_askBack (s : Station) (b : Backing) (n : Nat) : (s.askBack b n).steady = s.steady := by
  unfold Station.askBack Station.setBacking; split
  · rename_i h; simpa using Station.steady_of_claim h
  · rename_i h; exact Station.steady_of_claim h
  · rename_i h; simpa using Station.steady_of_claim h

@[simp] theorem Station.steady_backingCases (n : Nat) (s : Station) : (s.backingCases n).steady = s.steady := by
  induction n generalizing s with
  | zero => rfl
  | succ n ih =>
    unfold Station.backingCases Station.setBacking
    split
    · rfl
    · split
      · rfl
      · split
        · rfl
        · split
          · simp
          · split
            · simp
            · dsimp only
              split
              · simp [ih]
              · split <;> simp

@[simp] theorem Station.steady_backingEval (s : Station) : s.backingEval.steady = s.steady := by
  unfold Station.backingEval; extract_lets u
  have h : u.steady = s.steady := by simp [u]
  split
  · exact h
  · split
    · exact h
    · split
      · exact h
      · split <;> simp [h]

@[simp] theorem Station.steady_releaseBehind (s : Station) : s.releaseBehind.steady = s.steady := by
  unfold Station.releaseBehind; split
  · rfl
  · split
    · exact foldl_keeps Station.steady _ (fun b a => by simp [Station.push]) _ s
    · rfl

@[simp] theorem Station.steady_firstAsk (s : Station) : s.firstAsk.steady = s.steady := by
  unfold Station.firstAsk; split
  · rfl
  · split
    · rename_i h; simpa using Station.steady_of_offer h
    · rename_i h; exact Station.steady_of_offer h

@[simp] theorem Station.steady_askAgain (s : Station) : s.askAgain.steady = s.steady := by
  unfold Station.askAgain; dsimp only; split
  · rename_i h; simpa using Station.steady_of_offer h
  · rename_i h; simpa using Station.steady_of_offer h

@[simp] theorem Station.steady_endPassage (s : Station) : s.endPassage.steady = s.steady := rfl
@[simp] theorem Station.steady_setPassageState (s : Station) (x : PassageState) :
    (s.setPassageState x).steady = s.steady := rfl

@[simp] theorem Station.steady_sendClear (s : Station) (t : Nat) : (s.sendClear t).1.steady = s.steady :=
  Station.steady_offer s _

@[simp] theorem Station.steady_oweClear (s : Station) (t : Nat) : (s.oweClear t).steady = s.steady :=
  Station.steady_of_bare (by simp)

@[simp] theorem Station.steady_clearTo (s : Station) (t : Nat) : (s.clearTo t).steady = s.steady := by
  unfold Station.clearTo Station.sendClear; split
  · rename_i h; exact Station.steady_of_offer h
  · rename_i h; simpa using Station.steady_of_offer h

@[simp] theorem Station.steady_offerClears (s : Station) : s.offerClears.steady = s.steady := by
  unfold Station.offerClears
  rw [foldl_keeps Station.steady _ (fun b a => by unfold Station.offerClear; split <;> simp)]; rfl

@[simp] theorem Station.steady_clearPassage (s : Station) : s.clearPassage.steady = s.steady := by
  unfold Station.clearPassage Station.sendClear; split
  · rename_i h; simpa using Station.steady_of_offer h
  · rename_i h; exact Station.steady_of_offer h

@[simp] theorem Station.steady_passageRule (s : Station) : s.passageRule.steady = s.steady := by
  unfold Station.passageRule; split
  · simp
  · split
    · simp
    · split <;> simp
  · split <;> simp
  · split <;> simp
  · rfl

@[simp] theorem Station.steady_passageEval (s : Station) : s.passageEval.steady = s.steady := by
  rw [Station.passageEval, Station.steady_passageRule, Station.steady_offerClears]

@[simp] theorem Station.steady_waitingTest (s : Station) : s.waitingTest.steady = s.steady := by
  unfold Station.waitingTest; split
  · split <;> simp [Station.steady_withOrder]
  · split <;> simp [Station.steady_withOrder]
  · rfl

@[simp] theorem Station.steady_orderEval (s : Station) : s.orderEval.steady = s.steady := by
  unfold Station.orderEval; split
  · dsimp only; split <;> simp
  · rfl

@[simp] theorem Station.steady_releaseGuards (s : Station) : s.releaseGuards.steady = s.steady := by
  unfold Station.releaseGuards; simp

@[simp] theorem Station.steady_releaseDone (s : Station) : s.releaseDone.steady = s.steady := by
  unfold Station.releaseDone; split <;> rfl

@[simp] theorem Station.steady_deckFault (s : Station) (r : DeckReason) : (s.deckFault r).steady = s.steady := rfl
@[simp] theorem Station.steady_deckIdle (s : Station) : s.deckIdle.steady = s.steady := rfl

@[simp] theorem Station.steady_offerGrant (s : Station) : s.offerGrant.steady = s.steady := by
  unfold Station.offerGrant; split
  · rfl
  · simp only [Station.steady_withTt, Station.steady_offer]

@[simp] theorem Station.steady_offerExit (s : Station) : s.offerExit.steady = s.steady := by
  unfold Station.offerExit; split
  · rfl
  · simp only [Station.steady_withTt, Station.steady_offer]

@[simp] theorem Station.steady_makeGrant (s : Station) (r : Request) : (s.makeGrant r).steady = s.steady := by
  unfold Station.makeGrant; simp

@[simp] theorem Station.steady_makeExit (s : Station) : s.makeExit.steady = s.steady := by
  unfold Station.makeExit; simp

@[simp] theorem Station.steady_reoffer (s : Station) : s.reoffer.steady = s.steady := by
  unfold Station.reoffer; split
  · split <;> simp
  · split
    · rfl
    · split <;> simp
    · split <;> simp
  · rfl

@[simp] theorem Station.steady_startRotation (s : Station) : s.startRotation.steady = s.steady := by
  unfold Station.startRotation; split
  · split <;> simp
  · rfl

@[simp] theorem Station.steady_claimGuards (s : Station) : s.claimGuards.steady = s.steady := by
  unfold Station.claimGuards; dsimp only; split
  · simp
  · split
    · rfl
    · split <;> simp

@[simp] theorem Station.steady_beginClaim (s : Station) (a : Nat) (p : RotationPurpose) :
    (s.beginClaim a p).steady = s.steady := by
  unfold Station.beginClaim; simp

@[simp] theorem Station.steady_endRotation (s : Station) (a : Nat) : (s.endRotation a).steady = s.steady := by
  unfold Station.endRotation; simp

@[simp] theorem Station.steady_serve (s : Station) : s.serve.steady = s.steady := by
  unfold Station.serve; split
  · rfl
  · split
    · rfl
    · split
      · simp
      · split <;> simp

@[simp] theorem Station.steady_leaveFault (s : Station) (a : Nat) : (s.leaveFault a).steady = s.steady := by
  unfold Station.leaveFault; extract_lets _ u
  have h : u.steady = s.steady := by rw [Station.steady_releaseGuards]; rfl
  split
  · simp [h]
  · split
    · split <;> (rw [← h]; rfl)
    · split <;> (rw [← h]; rfl)

@[simp] theorem Station.steady_selfClear (s : Station) : s.selfClear.steady = s.steady := by
  unfold Station.selfClear; split
  · split <;> simp
  · rfl

@[simp] theorem Station.steady_ttEval (s : Station) : s.ttEval.steady = s.steady := by
  unfold Station.ttEval; split
  · extract_lets u
    have h : u.steady = s.steady := by simp [u]
    split
    · simp [h]
    · simp [h]
    · split
      · split <;> simp [h]
      · exact h
    · split <;> simp [h]
    · exact h
  · rfl

@[simp] theorem Station.steady_periodEval (s : Station) : s.periodEval.steady = s.steady := by
  unfold Station.periodEval; extract_lets; split
  · rfl
  · split
    · rw [Station.steady_beaconFallsDue]; rfl
    · rfl

@[simp] theorem Station.steady_lineEval (s : Station) : s.lineEval.steady = s.steady := by
  unfold Station.lineEval; simp

/-! ## The evaluations after a command -/

@[simp] theorem Station.steady_extentEval (old s : Station) : (Station.extentEval old s).steady = s.steady := by
  unfold Station.extentEval; split <;> rfl

@[simp] theorem Station.steady_envRound (old s : Station) (ev : Events) : (Station.envRound old s ev).steady = s.steady := by
  unfold Station.envRound; split <;> simp

@[simp] theorem Station.steady_orderRound (old s : Station) (ev : Events) :
    (Station.orderRound old s ev).steady = s.steady := by
  unfold Station.orderRound; split <;> simp

@[simp] theorem Station.steady_ttRound (old s : Station) (ev : Events) : (Station.ttRound old s ev).steady = s.steady := by
  unfold Station.ttRound; split <;> simp

@[simp] theorem Station.steady_round (old s : Station) (ev : Events) : (Station.round old s ev).steady = s.steady := by
  unfold Station.round; extract_lets s1 s2 s3 s4 s5
  have h1 : s1.steady = s.steady := by simp only [s1]; split <;> simp
  have h5 : s5.steady = s.steady := by simp [s5, s4, s3, s2, h1]
  split <;> simp [h5]

@[simp] theorem Station.steady_rounds (n : Nat) (old s : Station) (ev : Events) :
    (Station.rounds n old s ev).steady = s.steady := by
  induction n generalizing old s ev with
  | zero => rfl
  | succ n ih =>
    unfold Station.rounds; dsimp only; split <;> simp [ih]

@[simp] theorem Station.steady_finalDrop (s : Station) : s.finalDrop.steady = s.steady := by
  unfold Station.finalDrop; split
  · simp
  · rfl

@[simp] theorem Station.steady_settle (old s : Station) (ev : Events) : (Station.settle old s ev).steady = s.steady := by
  unfold Station.settle; split <;> simp

end Sys2Proof.Machine
end

