-- ==== Sys2Proof/Laws/Ended.lean ====
section
/-! SUPPORT. What the evaluations after a command do to an order that is not under way: an ended or STOPPED order keeps
its state and its reason, and a HALTED one stays HALTED or becomes STOPPED with EMERGENCY (R95, R106, R116, R117). -/

namespace Sys2Proof.Machine

/-- State and reason of the order. -/
def Station.ends (s : Station) : OrderState × Reason := (s.order.state, s.order.reason)

theorem Station.ends_of_bare {s t : Station} (h : t.bare = s.bare) : t.ends = s.ends := by
  have e : ∀ u : Station, u.bare.ends = u.ends := fun _ => rfl
  rw [← e t, h, e]

@[simp] theorem Station.ends_withEnv (s : Station) (x : Envelope) : (s.withEnv x).ends = s.ends := rfl
@[simp] theorem Station.ends_withTt (s : Station) (x : Turntable) : (s.withTt x).ends = s.ends := rfl
@[simp] theorem Station.ends_withLift (s : Station) (x : Lift) : (s.withLift x).ends = s.ends := rfl
@[simp] theorem Station.ends_withStart (s : Station) (x : Startup) : (s.withStart x).ends = s.ends := rfl
@[simp] theorem Station.ends_withLine (s : Station) (x : LineIf) : (s.withLine x).ends = s.ends := rfl
@[simp] theorem Station.ends_withPos (s : Station) (x : Position) : (s.withPos x).ends = s.ends := rfl
theorem Station.ends_of_offer {s t : Station} {f : OutFrame} {b : Bool} (h : s.offer f = (t, b)) :
    t.ends = s.ends := Station.ends_of_bare (Station.bare_of_offer h)
theorem Station.ends_of_claim {s t : Station} {n : Nat} {p : Purpose} {a : Asker} {x : ClaimAnswer}
    (h : s.claim n p a = (t, x)) : t.ends = s.ends := Station.ends_of_bare (Station.bare_of_claim h)
@[simp] theorem Station.ends_withClaims (s : Station) (x : ClaimBlock) : (s.withClaims x).ends = s.ends := rfl
@[simp] theorem Station.ends_withBacking (s : Station) (x : Option Backing) : (s.withBacking x).ends = s.ends := rfl
@[simp] theorem Station.ends_withTrail (s : Station) (x : List Nat) : (s.withTrail x).ends = s.ends := rfl
@[simp] theorem Station.ends_withPark (s : Station) (x : Park) : (s.withPark x).ends = s.ends := rfl
@[simp] theorem Station.ends_withBootMem (s : Station) (x : Memory) : (s.withBootMem x).ends = s.ends := rfl
@[simp] theorem Station.ends_withAppr (s : Station) (x : Approach) : (s.withAppr x).ends = s.ends := rfl
@[simp] theorem Station.ends_withPassage (s : Station) (x : Passage) : (s.withPassage x).ends = s.ends := rfl
@[simp] theorem Station.ends_setEntries (s : Station) (l : List ClaimEntry) : (s.setEntries l).ends = s.ends := rfl
@[simp] theorem Station.ends_setQueue (s : Station) (q : List QueueItem) : (s.setQueue q).ends = s.ends := rfl
@[simp] theorem Station.ends_setReserve (s : Station) (b : Bool) : (s.setReserve b).ends = s.ends := rfl
@[simp] theorem Station.ends_clearWait (s : Station) : s.clearWait.ends = s.ends := rfl
@[simp] theorem Station.ends_tell (s : Station) (a : Asker) (n : Nat) (t : Told) : (s.tell a n t).ends = s.ends :=
  Station.ends_of_bare (by simp)
@[simp] theorem Station.ends_offer (s : Station) (f : OutFrame) : (s.offer f).1.ends = s.ends :=
  Station.ends_of_bare (by simp)
@[simp] theorem Station.ends_send (s : Station) (f : OutFrame) : (s.send f).ends = s.ends :=
  Station.ends_of_bare (by simp)
@[simp] theorem Station.ends_object (s : Station) (n : Nat) (k : Objection) (r : Rank) (c : Nat) :
    (s.object n k r c).ends = s.ends := Station.ends_of_bare (by simp)
@[simp] theorem Station.ends_abandon (s : Station) (e : ClaimEntry) : (s.abandon e).ends = s.ends :=
  Station.ends_of_bare (by simp)
@[simp] theorem Station.ends_claimNotSent (s : Station) (n : Nat) : (s.claimNotSent n).ends = s.ends :=
  Station.ends_of_bare (by simp)
@[simp] theorem Station.ends_offerReleases (s : Station) : s.offerReleases.ends = s.ends :=
  Station.ends_of_bare (by simp)
@[simp] theorem Station.ends_releaseEntry (s : Station) (n : Nat) : (s.releaseEntry n).ends = s.ends :=
  Station.ends_of_bare (by simp)
@[simp] theorem Station.ends_releaseRequest (s : Station) (n : Nat) : (s.releaseRequest n).ends = s.ends :=
  Station.ends_of_bare (by simp)
@[simp] theorem Station.ends_releaseAll (s : Station) (l : List Nat) : (s.releaseAll l).ends = s.ends :=
  Station.ends_of_bare (by simp)
@[simp] theorem Station.ends_beaconFallsDue (s : Station) : s.beaconFallsDue.ends = s.ends :=
  Station.ends_of_bare (by simp)
@[simp] theorem Station.ends_queueDueBeacon (s : Station) : s.queueDueBeacon.ends = s.ends :=
  Station.ends_of_bare (by simp)
@[simp] theorem Station.ends_claim (s : Station) (n : Nat) (p : Purpose) (a : Asker) :
    (s.claim n p a).1.ends = s.ends := Station.ends_of_bare (by simp)
@[simp] theorem Station.ends_claimGroup (s : Station) (l : List Nat) (p : Purpose) (a : Asker) :
    (s.claimGroup l p a).1.ends = s.ends := Station.ends_of_bare (by simp)
@[simp] theorem Station.ends_endWindow (s : Station) (n : Nat) : (s.endWindow n).ends = s.ends :=
  Station.ends_of_bare (by simp)
@[simp] theorem Station.ends_holdLimit (s : Station) (n : Nat) : (s.holdLimit n).ends = s.ends :=
  Station.ends_of_bare (by simp)
@[simp] theorem Station.ends_yieldEntry (s : Station) (e : ClaimEntry) (p : Nat) :
    (s.yieldEntry e p).ends = s.ends := Station.ends_of_bare (by simp)
@[simp] theorem Station.ends_backToBody (s : Station) (l : List Nat) : (s.backToBody l).ends = s.ends := rfl
@[simp] theorem Station.ends_removeDeckEntry (s : Station) (t : Nat) : (s.removeDeckEntry t).ends = s.ends := rfl
@[simp] theorem Station.ends_claimAhead (s : Station) : s.claimAhead.ends = s.ends :=
  Station.ends_of_bare (by simp)
@[simp] theorem Station.ends_releaseAhead (s : Station) : s.releaseAhead.ends = s.ends :=
  Station.ends_of_bare (by simp)
@[simp] theorem Station.ends_setDir (s : Station) (d : Dir) : (s.setDir d).ends = s.ends := rfl
@[simp] theorem Station.ends_setPending (s : Station) (d : Option Dir) : (s.setPending d).ends = s.ends := rfl
@[simp] theorem Station.ends_raiseEmergency (s : Station) : s.raiseEmergency.ends = s.ends := rfl
@[simp] theorem Station.ends_freshStop (s : Station) : s.freshStop.ends = s.ends := rfl
@[simp] theorem Station.ends_requestDirection (s : Station) (d : Dir) : (s.requestDirection d).ends = s.ends := by
  unfold Station.requestDirection; split
  · rfl
  · split <;> rfl
@[simp] theorem Station.ends_applyPending (s : Station) : s.applyPending.ends = s.ends := by
  unfold Station.applyPending; split
  · split <;> rfl
  · rfl
@[simp] theorem Station.ends_beginWrite (s : Station) (r : ParkRecord) : (s.beginWrite r).ends = s.ends := rfl
@[simp] theorem Station.ends_requestWrite (s : Station) (r : ParkRecord) : (s.requestWrite r).ends = s.ends := by
  unfold Station.requestWrite; split <;> rfl
@[simp] theorem Station.ends_openPark (s : Station) : s.openPark.ends = s.ends := rfl
@[simp] theorem Station.ends_touchPark (s : Station) : s.touchPark.ends = s.ends := by
  unfold Station.touchPark; split <;> rfl
@[simp] theorem Station.ends_parkEval (s : Station) : s.parkEval.ends = s.ends := by
  unfold Station.parkEval; split <;> simp
@[simp] theorem Station.ends_movedOff (s : Station) : s.movedOff.ends = s.ends := by
  unfold Station.movedOff; dsimp only; split <;> simp
@[simp] theorem Station.ends_stopLift (s : Station) : s.stopLift.ends = s.ends := by
  unfold Station.stopLift; split <;> rfl
@[simp] theorem Station.ends_giveUpAttempt (s : Station) : s.giveUpAttempt.ends = s.ends := by
  unfold Station.giveUpAttempt; split <;> rfl
@[simp] theorem Station.ends_unwindBacking (s : Station) (b : Backing) : (s.unwindBacking b).ends = s.ends := by
  unfold Station.unwindBacking; dsimp only; split <;> simp
@[simp] theorem Station.ends_startAttempt (s : Station) : s.startAttempt.ends = s.ends := by
  unfold Station.startAttempt; dsimp only; split
  · simp -implicitDefEqProofs
  · split <;> simp -implicitDefEqProofs
@[simp] theorem Station.ends_handOn (s : Station) (x : Chainage) : (s.handOn x).ends = s.ends := by
  unfold Station.handOn; simp
@[simp] theorem Station.ends_handOver (s : Station) : s.handOver.ends = s.ends := by
  unfold Station.handOver; split
  · rfl
  · split <;> simp
@[simp] theorem Station.ends_enterDeck (s : Station) : s.enterDeck.ends = s.ends := rfl
@[simp] theorem Station.ends_sendAboard (s : Station) : s.sendAboard.ends = s.ends := by
  unfold Station.sendAboard; simp
@[simp] theorem Station.ends_dropStep (s : Station) : s.dropStep.ends = s.ends := by
  unfold Station.dropStep; extract_lets; split <;> rfl
@[simp] theorem Station.ends_releaseTest (s : Station) : s.releaseTest.ends = s.ends := by
  unfold Station.releaseTest; extract_lets; split
  · exact foldl_keeps Station.ends _ (fun b a => Station.ends_releaseEntry b a) _ s
  · rfl
@[simp] theorem Station.ends_raiseTest (s : Station) : s.raiseTest.ends = s.ends := by
  unfold Station.raiseTest; split
  · dsimp only; split <;> simp
  · rfl
@[simp] theorem Station.ends_withdrawDemand (s : Station) : s.withdrawDemand.ends = s.ends := by
  unfold Station.withdrawDemand; split <;> rfl
@[simp] theorem Station.ends_startTravel (s : Station) : s.startTravel.ends = s.ends := by
  unfold Station.startTravel; rfl
@[simp] theorem Station.ends_liftEval (s : Station) : s.liftEval.ends = s.ends := by
  unfold Station.liftEval; split
  · rfl
  · split
    · split <;> simp
    · simp
@[simp] theorem Station.ends_backingRelease (s : Station) : s.backingRelease.ends = s.ends := by
  unfold Station.backingRelease Station.setBacking; split
  · rfl
  · split
    · rfl
    · split
      · simp
      · split <;> simp
@[simp] theorem Station.ends_markEntered (s : Station) : s.markEntered.ends = s.ends := by
  unfold Station.markEntered; split <;> rfl
@[simp] theorem Station.ends_releaseBehind (s : Station) : s.releaseBehind.ends = s.ends := by
  unfold Station.releaseBehind; split
  · rfl
  · split
    · exact foldl_keeps Station.ends _ (fun b a => by simp [Station.push]) _ s
    · rfl
@[simp] theorem Station.ends_firstAsk (s : Station) : s.firstAsk.ends = s.ends := by
  unfold Station.firstAsk; split
  · rfl
  · split
    · rename_i h; simpa using Station.ends_of_offer h
    · rename_i h; exact Station.ends_of_offer h
@[simp] theorem Station.ends_askAgain (s : Station) : s.askAgain.ends = s.ends := by
  unfold Station.askAgain; dsimp only; split
  · rename_i h; simpa using Station.ends_of_offer h
  · rename_i h; simpa using Station.ends_of_offer h
@[simp] theorem Station.ends_endPassage (s : Station) : s.endPassage.ends = s.ends := rfl
@[simp] theorem Station.ends_setPassageState (s : Station) (x : PassageState) :
    (s.setPassageState x).ends = s.ends := rfl
@[simp] theorem Station.ends_sendClear (s : Station) (t : Nat) : (s.sendClear t).1.ends = s.ends :=
  Station.ends_offer s _
@[simp] theorem Station.ends_oweClear (s : Station) (t : Nat) : (s.oweClear t).ends = s.ends :=
  Station.ends_of_bare (by simp)
@[simp] theorem Station.ends_clearTo (s : Station) (t : Nat) : (s.clearTo t).ends = s.ends := by
  unfold Station.clearTo Station.sendClear; split
  · rename_i h; exact Station.ends_of_offer h
  · rename_i h; simpa using Station.ends_of_offer h
@[simp] theorem Station.ends_offerClears (s : Station) : s.offerClears.ends = s.ends := by
  unfold Station.offerClears
  rw [foldl_keeps Station.ends _ (fun b a => by unfold Station.offerClear; split <;> simp)]; rfl
@[simp] theorem Station.ends_clearPassage (s : Station) : s.clearPassage.ends = s.ends := by
  unfold Station.clearPassage Station.sendClear; split
  · rename_i h; simpa using Station.ends_of_offer h
  · rename_i h; exact Station.ends_of_offer h
@[simp] theorem Station.ends_passageRule (s : Station) : s.passageRule.ends = s.ends := by
  unfold Station.passageRule; split
  · simp
  · split
    · simp
    · split <;> simp
  · split <;> simp
  · split <;> simp
  · rfl
@[simp] theorem Station.ends_passageEval (s : Station) : s.passageEval.ends = s.ends := by
  rw [Station.passageEval, Station.ends_passageRule, Station.ends_offerClears]
@[simp] theorem Station.ends_releaseGuards (s : Station) : s.releaseGuards.ends = s.ends := by
  unfold Station.releaseGuards; simp
@[simp] theorem Station.ends_releaseDone (s : Station) : s.releaseDone.ends = s.ends := by
  unfold Station.releaseDone; split <;> rfl
@[simp] theorem Station.ends_deckFault (s : Station) (r : DeckReason) : (s.deckFault r).ends = s.ends := rfl
@[simp] theorem Station.ends_deckIdle (s : Station) : s.deckIdle.ends = s.ends := rfl
@[simp] theorem Station.ends_offerGrant (s : Station) : s.offerGrant.ends = s.ends := by
  unfold Station.offerGrant; split
  · rfl
  · simp only [Station.ends_withTt, Station.ends_offer]
@[simp] theorem Station.ends_offerExit (s : Station) : s.offerExit.ends = s.ends := by
  unfold Station.offerExit; split
  · rfl
  · simp only [Station.ends_withTt, Station.ends_offer]
@[simp] theorem Station.ends_makeGrant (s : Station) (r : Request) : (s.makeGrant r).ends = s.ends := by
  unfold Station.makeGrant; simp
@[simp] theorem Station.ends_makeExit (s : Station) : s.makeExit.ends = s.ends := by
  unfold Station.makeExit; simp
@[simp] theorem Station.ends_reoffer (s : Station) : s.reoffer.ends = s.ends := by
  unfold Station.reoffer; split
  · split <;> simp
  · split
    · rfl
    · split <;> simp
    · split <;> simp
  · rfl
@[simp] theorem Station.ends_startRotation (s : Station) : s.startRotation.ends = s.ends := by
  unfold Station.startRotation; split
  · split <;> simp
  · rfl
@[simp] theorem Station.ends_claimGuards (s : Station) : s.claimGuards.ends = s.ends := by
  unfold Station.claimGuards; dsimp only; split
  · simp
  · split
    · rfl
    · split <;> simp
@[simp] theorem Station.ends_beginClaim (s : Station) (a : Nat) (p : RotationPurpose) :
    (s.beginClaim a p).ends = s.ends := by
  unfold Station.beginClaim; simp
@[simp] theorem Station.ends_endRotation (s : Station) (a : Nat) : (s.endRotation a).ends = s.ends := by
  unfold Station.endRotation; simp
@[simp] theorem Station.ends_serve (s : Station) : s.serve.ends = s.ends := by
  unfold Station.serve; split
  · rfl
  · split
    · rfl
    · split
      · simp
      · split <;> simp
@[simp] theorem Station.ends_leaveFault (s : Station) (a : Nat) : (s.leaveFault a).ends = s.ends := by
  unfold Station.leaveFault; extract_lets _ u
  have h : u.ends = s.ends := by rw [Station.ends_releaseGuards]; rfl
  split
  · simp [h]
  · split
    · split <;> (rw [← h]; rfl)
    · split <;> (rw [← h]; rfl)
@[simp] theorem Station.ends_selfClear (s : Station) : s.selfClear.ends = s.ends := by
  unfold Station.selfClear; split
  · split <;> simp
  · rfl
@[simp] theorem Station.ends_ttEval (s : Station) : s.ttEval.ends = s.ends := by
  unfold Station.ttEval; split
  · extract_lets u
    have h : u.ends = s.ends := by simp [u]
    split
    · simp [h]
    · simp [h]
    · split
      · split <;> simp [h]
      · exact h
    · split <;> simp [h]
    · exact h
  · rfl
@[simp] theorem Station.ends_periodEval (s : Station) : s.periodEval.ends = s.ends := by
  unfold Station.periodEval; extract_lets; split
  · rfl
  · split
    · rw [Station.ends_beaconFallsDue]; rfl
    · rfl
@[simp] theorem Station.ends_lineEval (s : Station) : s.lineEval.ends = s.ends := by
  unfold Station.lineEval; simp
@[simp] theorem Station.ends_extentEval (old s : Station) : (Station.extentEval old s).ends = s.ends := by
  unfold Station.extentEval; split <;> rfl

@[simp] theorem Station.ends_finalDrop (s : Station) : s.finalDrop.ends = s.ends := by
  unfold Station.finalDrop; split
  · simp
  · rfl
@[simp] theorem Station.ends_aheadToBody (s : Station) : s.aheadToBody.ends = s.ends := rfl
@[simp] theorem Station.ends_ttRound (old s : Station) (ev : Events) : (Station.ttRound old s ev).ends = s.ends := by
  unfold Station.ttRound; split <;> simp

/-! ## Orders kept -/

/-- From `s` to `t`, an order that is not under way keeps state and reason, but for the EMERGENCY that takes a HALTED
one to STOPPED. -/
def Station.orderKept (s t : Station) : Prop :=
  match s.order.state with
  | .running | .waiting | .loading | .backing => True
  | .halted => t.ends = s.ends ∨ t.ends = (.stopped, .emergency)
  | _ => t.ends = s.ends

theorem Station.orderKept_of_ends {s t : Station} (h : t.ends = s.ends) : s.orderKept t := by
  unfold Station.orderKept; split <;> simp [h]

theorem Station.orderKept_trans {s t u : Station} (h : s.orderKept t) (k : t.orderKept u) : s.orderKept u := by
  have e : t.ends = s.ends → t.order.state = s.order.state := congrArg Prod.fst
  have f : t.ends = (.stopped, .emergency) → t.order.state = .stopped := congrArg Prod.fst
  unfold Station.orderKept at *
  cases hs : s.order.state <;> simp only [hs] at h e ⊢
  case halted =>
    obtain h | h := h
    · simpa only [e h, h] using k
    · simp only [f h] at k; exact .inr (k.trans h)
  all_goals simp only [e h] at k; exact k.trans h

theorem Station.orderKept_stopEmergency (s : Station) : s.orderKept (s.stopOrder .emergency) := by
  unfold Station.orderKept Station.stopOrder
  cases s.order.state <;> simp [OrderState.active, Reason.replaces]
  simp [Station.ends]

theorem Station.orderKept_clearLatch (s : Station) : s.orderKept s.clearLatch := by
  unfold Station.clearLatch; split
  · exact Station.orderKept_trans (Station.orderKept_of_ends (Station.ends_withEnv s _))
      (Station.orderKept_stopEmergency _)
  · exact Station.orderKept_of_ends rfl

theorem Station.orderKept_envEval (s : Station) : s.orderKept s.envEval := by
  unfold Station.envEval; split
  · extract_lets s1 s2
    have h : s2.ends = s.ends := by simp only [s2, s1]; split <;> simp
    exact Station.orderKept_trans (Station.orderKept_of_ends h)
      (Station.orderKept_trans (Station.orderKept_clearLatch s2) (Station.orderKept_of_ends (by simp)))
  · exact Station.orderKept_of_ends rfl

theorem Station.orderKept_approachCheck (s : Station) : s.orderKept s.approachCheck := by
  by_cases h : s.checkAllowed = true
  · have : s.order.state = .backing ∨ s.order.state = .running := by
      unfold Station.checkAllowed at h; split at h <;> simp at h <;> simp [h]
    unfold Station.orderKept; rcases this with e | e <;> simp [e]
  · have : s.approachCheck = s := by unfold Station.approachCheck; simp [h]
    rw [this]; exact Station.orderKept_of_ends rfl

theorem Station.orderKept_backingEval (s : Station) : s.orderKept s.backingEval := by
  have h : s.backingRelease.markEntered.ends = s.ends := by simp
  refine Station.orderKept_trans (Station.orderKept_of_ends h) ?_
  unfold Station.backingEval; extract_lets s1
  split
  · exact Station.orderKept_of_ends rfl
  · split
    · exact Station.orderKept_of_ends rfl
    · rename_i hb
      have hb : s1.order.state = .backing := by simpa using hb
      unfold Station.orderKept; simp only [s1] at hb; simp only [hb]

theorem Station.orderKept_waitingTest (s : Station) : s.orderKept s.waitingTest := by
  unfold Station.waitingTest; split
  · rename_i h; unfold Station.orderKept; simp [h]
  · rename_i h; unfold Station.orderKept; simp [h]
  · exact Station.orderKept_of_ends rfl

theorem Station.orderKept_orderEval (s : Station) : s.orderKept s.orderEval := by
  unfold Station.orderEval; split
  · extract_lets s1
    have h : s.orderKept s1 := Station.orderKept_trans (Station.orderKept_backingEval s)
      (Station.orderKept_of_ends (by simp [s1]))
    split
    · exact Station.orderKept_trans h (Station.orderKept_trans (Station.orderKept_of_ends (by simp))
        (Station.orderKept_waitingTest _))
    · exact h
  · exact Station.orderKept_of_ends rfl

theorem Station.orderKept_round (old s : Station) (ev : Events) : s.orderKept (Station.round old s ev) := by
  unfold Station.round; extract_lets s1 s2 s3 s4 s5
  have h1 : s.orderKept s1 := by
    simp only [s1]; split
    · refine Station.orderKept_trans (t := Station.extentEval old s) ?_
        (Station.orderKept_trans (Station.orderKept_approachCheck _) (Station.orderKept_of_ends (by simp)))
      exact Station.orderKept_of_ends (by unfold Station.extentEval; split <;> rfl)
    · exact Station.orderKept_of_ends rfl
  have h2 : s1.orderKept s2 := by
    simp only [s2, Station.envRound]; split
    · exact Station.orderKept_envEval s1
    · exact Station.orderKept_of_ends rfl
  have h3 : s2.orderKept s3 := by
    simp only [s3, Station.orderRound]; split
    · exact Station.orderKept_orderEval s2
    · exact Station.orderKept_of_ends rfl
  have h5 : s5.ends = s3.ends := by simp [s5, s4]
  have h : s.orderKept s5 :=
    Station.orderKept_trans h1 (Station.orderKept_trans h2 (Station.orderKept_trans h3 (Station.orderKept_of_ends h5)))
  refine Station.orderKept_trans h (Station.orderKept_of_ends ?_)
  split <;> simp

theorem Station.orderKept_rounds (n : Nat) (old s : Station) (ev : Events) : s.orderKept (Station.rounds n old s ev) := by
  induction n generalizing old s ev with
  | zero => exact Station.orderKept_of_ends rfl
  | succ n ih =>
    unfold Station.rounds; dsimp only; split
    · exact Station.orderKept_round old s ev
    · exact Station.orderKept_trans (Station.orderKept_round old s ev) (ih _ _ _)

/-- The evaluations after a command leave an order that is not under way as the command left it. -/
theorem Station.orderKept_settle (old s : Station) (ev : Events) : s.orderKept (Station.settle old s ev) := by
  have h (u : Station) : u.orderKept u.finalDrop :=
    Station.orderKept_of_ends (by unfold Station.finalDrop; split <;> simp)
  unfold Station.settle; split
  · exact Station.orderKept_trans (Station.orderKept_rounds _ old s ev) (h _)
  · exact h s

end Sys2Proof.Machine
end

