-- ==== Sys2Proof/Laws/Settled.lean ====
section
/-! SUPPORT. What the state after a command shows of the part as the command left it: the fields that evaluations keep,
the order that is not under way, and the commanded step at or below the permitted one. -/

namespace Sys2Proof.Machine

/-! ## The forms of a command -/

theorem State.reactWith_eq (s : State) (dt : Nat) (ev : Events) (f : Station → Station) :
    s.reactWith dt ev f = .next (s.settled dt (f (s.old dt)) ev) := rfl

/-- A timer command at its time, on the line. -/
theorem State.onTimer_due (s : State) (dt : Nat) (t : Station → Option Nat) (ev : Events) (f : Station → Station)
    (h : s.station.onLine = true) (k : dueAt (t (s.old dt)) (s.old dt).ms = true) :
    s.onTimer dt t ev f = .next (s.settled dt (f (s.old dt)) ev) := by
  have h : (s.old dt).onLine = true := h
  unfold State.onTimer State.react State.settled
  simp only [show s.station.advance dt = s.old dt from rfl, h, k, Bool.and_self, if_true]

/-- A timer command before its time lets time pass and nothing else. -/
theorem State.onTimer_early (s : State) (dt : Nat) (t : Station → Option Nat) (ev : Events) (f : Station → Station)
    (k : dueAt (t (s.old dt)) (s.old dt).ms = false) : s.onTimer dt t ev f = .next (s.settled dt (s.old dt) {}) := by
  unfold State.onTimer State.react State.settled
  simp [show s.station.advance dt = s.old dt from rfl, k]

@[simp] theorem State.old_inputs (s : State) (dt : Nat) : (s.old dt).inputs = s.station.inputs := rfl
@[simp] theorem State.old_bootMem (s : State) (dt : Nat) : (s.old dt).bootMem = s.station.bootMem := rfl
@[simp] theorem State.old_start (s : State) (dt : Nat) : (s.old dt).start = s.station.start := rfl
@[simp] theorem State.old_par (s : State) (dt : Nat) : (s.old dt).par = s.station.par := rfl
@[simp] theorem State.old_map (s : State) (dt : Nat) : (s.old dt).map = s.station.map := rfl
@[simp] theorem State.old_pos (s : State) (dt : Nat) : (s.old dt).pos = s.station.pos := rfl
@[simp] theorem State.old_peers (s : State) (dt : Nat) : (s.old dt).peers = s.station.peers := rfl
@[simp] theorem State.old_claims (s : State) (dt : Nat) : (s.old dt).claims = s.station.claims := rfl
@[simp] theorem State.old_env (s : State) (dt : Nat) : (s.old dt).env = s.station.env := rfl
@[simp] theorem State.old_order (s : State) (dt : Nat) : (s.old dt).order = s.station.order := rfl
@[simp] theorem State.old_trail (s : State) (dt : Nat) : (s.old dt).trail = s.station.trail := rfl
@[simp] theorem State.old_backing (s : State) (dt : Nat) : (s.old dt).backing = s.station.backing := rfl
@[simp] theorem State.old_appr (s : State) (dt : Nat) : (s.old dt).appr = s.station.appr := rfl
@[simp] theorem State.old_index (s : State) (dt : Nat) : (s.old dt).index = s.station.index := rfl
@[simp] theorem State.old_lift (s : State) (dt : Nat) : (s.old dt).lift = s.station.lift := rfl
@[simp] theorem State.old_park (s : State) (dt : Nat) : (s.old dt).park = s.station.park := rfl
@[simp] theorem State.old_tt (s : State) (dt : Nat) : (s.old dt).tt = s.station.tt := rfl
@[simp] theorem State.old_passage (s : State) (dt : Nat) : (s.old dt).passage = s.station.passage := rfl
@[simp] theorem State.old_line (s : State) (dt : Nat) : (s.old dt).line = s.station.line := rfl
@[simp] theorem State.old_onLine (s : State) (dt : Nat) : (s.old dt).onLine = s.station.onLine := rfl
@[simp] theorem State.old_isCarriage (s : State) (dt : Nat) : (s.old dt).isCarriage = s.station.isCarriage := rfl
@[simp] theorem State.old_turning (s : State) (dt : Nat) : (s.old dt).turning = s.station.turning := rfl
@[simp] theorem State.old_driving (s : State) (dt : Nat) : (s.old dt).driving = s.station.driving := rfl
@[simp] theorem State.old_effective (s : State) (dt : Nat) : (s.old dt).effective = s.station.effective := rfl
@[simp] theorem State.old_silent (s : State) (dt : Nat) : (s.old dt).silent = s.station.silent := rfl
@[simp] theorem State.old_peer (s : State) (dt n : Nat) : (s.old dt).peer n = s.station.peer n := rfl

/-! ## Fields that evaluations keep -/

theorem Station.settle_keeps {α : Type} (g : Station → α) (old u : Station) (ev : Events)
    (h : ∀ x : Station, g x.steady = g x) : g (Station.settle old u ev) = g u := by
  rw [← h, Station.steady_settle, h]

@[simp] theorem State.settled_now (s : State) (dt : Nat) (u : Station) (ev : Events) :
    (s.settled dt u ev).station.now = u.now := Station.settle_keeps (·.now) _ u ev fun _ => rfl
@[simp] theorem State.settled_inputs (s : State) (dt : Nat) (u : Station) (ev : Events) :
    (s.settled dt u ev).station.inputs = u.inputs := Station.settle_keeps (·.inputs) _ u ev fun _ => rfl
@[simp] theorem State.settled_par (s : State) (dt : Nat) (u : Station) (ev : Events) :
    (s.settled dt u ev).station.par = u.par := Station.settle_keeps (·.par) _ u ev fun _ => rfl
@[simp] theorem State.settled_map (s : State) (dt : Nat) (u : Station) (ev : Events) :
    (s.settled dt u ev).station.map = u.map := Station.settle_keeps (·.map) _ u ev fun _ => rfl
@[simp] theorem State.settled_peers (s : State) (dt : Nat) (u : Station) (ev : Events) :
    (s.settled dt u ev).station.peers = u.peers := Station.settle_keeps (·.peers) _ u ev fun _ => rfl
@[simp] theorem State.settled_index (s : State) (dt : Nat) (u : Station) (ev : Events) :
    (s.settled dt u ev).station.index = u.index := Station.settle_keeps (·.index) _ u ev fun _ => rfl
@[simp] theorem State.settled_clamped (s : State) (dt : Nat) (u : Station) (ev : Events) :
    (s.settled dt u ev).station.start.clamped = u.start.clamped := Station.settle_keeps (·.start.clamped) _ u ev fun _ => rfl
@[simp] theorem State.settled_listenEnd (s : State) (dt : Nat) (u : Station) (ev : Events) :
    (s.settled dt u ev).station.start.listenEnd = u.start.listenEnd := Station.settle_keeps (·.start.listenEnd) _ u ev fun _ => rfl
@[simp] theorem State.settled_pos_line (s : State) (dt : Nat) (u : Station) (ev : Events) :
    (s.settled dt u ev).station.pos.line = u.pos.line := Station.settle_keeps (·.pos.line) _ u ev fun _ => rfl
@[simp] theorem State.settled_pos_acc (s : State) (dt : Nat) (u : Station) (ev : Events) :
    (s.settled dt u ev).station.pos.acc = u.pos.acc := Station.settle_keeps (·.pos.acc) _ u ev fun _ => rfl
@[simp] theorem State.settled_pos_centre (s : State) (dt : Nat) (u : Station) (ev : Events) :
    (s.settled dt u ev).station.pos.centre = u.pos.centre := Station.settle_keeps (·.pos.centre) _ u ev fun _ => rfl
@[simp] theorem State.settled_pos_travelAcc (s : State) (dt : Nat) (u : Station) (ev : Events) :
    (s.settled dt u ev).station.pos.travelAcc = u.pos.travelAcc := Station.settle_keeps (·.pos.travelAcc) _ u ev fun _ => rfl
@[simp] theorem State.settled_pos_travel (s : State) (dt : Nat) (u : Station) (ev : Events) :
    (s.settled dt u ev).station.pos.travel = u.pos.travel := Station.settle_keeps (·.pos.travel) _ u ev fun _ => rfl
@[simp] theorem State.settled_pos_uRef (s : State) (dt : Nat) (u : Station) (ev : Events) :
    (s.settled dt u ev).station.pos.uRef = u.pos.uRef := Station.settle_keeps (·.pos.uRef) _ u ev fun _ => rfl
@[simp] theorem State.settled_pos_u (s : State) (dt : Nat) (u : Station) (ev : Events) :
    (s.settled dt u ev).station.pos.u = u.pos.u := Station.settle_keeps (·.pos.u) _ u ev fun _ => rfl
@[simp] theorem State.settled_pos_doubt (s : State) (dt : Nat) (u : Station) (ev : Events) :
    (s.settled dt u ev).station.pos.doubt = u.pos.doubt := Station.settle_keeps (·.pos.doubt) _ u ev fun _ => rfl
@[simp] theorem State.settled_pos_latch (s : State) (dt : Nat) (u : Station) (ev : Events) :
    (s.settled dt u ev).station.pos.latch = u.pos.latch := Station.settle_keeps (·.pos.latch) _ u ev fun _ => rfl
@[simp] theorem State.settled_env_emptyTable (s : State) (dt : Nat) (u : Station) (ev : Events) :
    (s.settled dt u ev).station.env.emptyTable = u.env.emptyTable := Station.settle_keeps (·.env.emptyTable) _ u ev fun _ => rfl
@[simp] theorem State.settled_env_loadedTable (s : State) (dt : Nat) (u : Station) (ev : Events) :
    (s.settled dt u ev).station.env.loadedTable = u.env.loadedTable := Station.settle_keeps (·.env.loadedTable) _ u ev fun _ => rfl
@[simp] theorem State.settled_order_number (s : State) (dt : Nat) (u : Station) (ev : Events) :
    (s.settled dt u ev).station.order.number = u.order.number := Station.settle_keeps (·.order.number) _ u ev fun _ => rfl
@[simp] theorem State.settled_order_kind (s : State) (dt : Nat) (u : Station) (ev : Events) :
    (s.settled dt u ev).station.order.kind = u.order.kind := Station.settle_keeps (·.order.kind) _ u ev fun _ => rfl
@[simp] theorem State.settled_order_target (s : State) (dt : Nat) (u : Station) (ev : Events) :
    (s.settled dt u ev).station.order.target = u.order.target := Station.settle_keeps (·.order.target) _ u ev fun _ => rfl
@[simp] theorem State.settled_order_line (s : State) (dt : Nat) (u : Station) (ev : Events) :
    (s.settled dt u ev).station.order.line = u.order.line := Station.settle_keeps (·.order.line) _ u ev fun _ => rfl
@[simp] theorem State.settled_order_chainage (s : State) (dt : Nat) (u : Station) (ev : Events) :
    (s.settled dt u ev).station.order.chainage = u.order.chainage := Station.settle_keeps (·.order.chainage) _ u ev fun _ => rfl
@[simp] theorem State.settled_order_route (s : State) (dt : Nat) (u : Station) (ev : Events) :
    (s.settled dt u ev).station.order.route = u.order.route := Station.settle_keeps (·.order.route) _ u ev fun _ => rfl
@[simp] theorem State.settled_order_cursor (s : State) (dt : Nat) (u : Station) (ev : Events) :
    (s.settled dt u ev).station.order.cursor = u.order.cursor := Station.settle_keeps (·.order.cursor) _ u ev fun _ => rfl
@[simp] theorem State.settled_order_origin (s : State) (dt : Nat) (u : Station) (ev : Events) :
    (s.settled dt u ev).station.order.origin = u.order.origin := Station.settle_keeps (·.order.origin) _ u ev fun _ => rfl
@[simp] theorem State.settled_order_answer (s : State) (dt : Nat) (u : Station) (ev : Events) :
    (s.settled dt u ev).station.order.answer = u.order.answer := Station.settle_keeps (·.order.answer) _ u ev fun _ => rfl
@[simp] theorem State.settled_order_evalTimer (s : State) (dt : Nat) (u : Station) (ev : Events) :
    (s.settled dt u ev).station.order.evalTimer = u.order.evalTimer := Station.settle_keeps (·.order.evalTimer) _ u ev fun _ => rfl
@[simp] theorem State.settled_lift_load (s : State) (dt : Nat) (u : Station) (ev : Events) :
    (s.settled dt u ev).station.lift.load = u.lift.load := Station.settle_keeps (·.lift.load) _ u ev fun _ => rfl
@[simp] theorem State.settled_tt_grantHold (s : State) (dt : Nat) (u : Station) (ev : Events) :
    (s.settled dt u ev).station.tt.grantHold = u.tt.grantHold := Station.settle_keeps (·.tt.grantHold) _ u ev fun _ => rfl
@[simp] theorem State.settled_tt_evalTimer (s : State) (dt : Nat) (u : Station) (ev : Events) :
    (s.settled dt u ev).station.tt.evalTimer = u.tt.evalTimer := Station.settle_keeps (·.tt.evalTimer) _ u ev fun _ => rfl
@[simp] theorem State.settled_line_courtesy (s : State) (dt : Nat) (u : Station) (ev : Events) :
    (s.settled dt u ev).station.line.courtesy = u.line.courtesy := Station.settle_keeps (·.line.courtesy) _ u ev fun _ => rfl
@[simp] theorem State.settled_line_badCount (s : State) (dt : Nat) (u : Station) (ev : Events) :
    (s.settled dt u ev).station.line.badCount = u.line.badCount := Station.settle_keeps (·.line.badCount) _ u ev fun _ => rfl
@[simp] theorem State.settled_line_resendCount (s : State) (dt : Nat) (u : Station) (ev : Events) :
    (s.settled dt u ev).station.line.resendCount = u.line.resendCount := Station.settle_keeps (·.line.resendCount) _ u ev fun _ => rfl
@[simp] theorem State.settled_line_state (s : State) (dt : Nat) (u : Station) (ev : Events) :
    (s.settled dt u ev).station.line.state = u.line.state := Station.settle_keeps (·.line.state) _ u ev fun _ => rfl
@[simp] theorem State.settled_line_silenceTimer (s : State) (dt : Nat) (u : Station) (ev : Events) :
    (s.settled dt u ev).station.line.silenceTimer = u.line.silenceTimer := Station.settle_keeps (·.line.silenceTimer) _ u ev fun _ => rfl
@[simp] theorem State.settled_line_recoveryTimer (s : State) (dt : Nat) (u : Station) (ev : Events) :
    (s.settled dt u ev).station.line.recoveryTimer = u.line.recoveryTimer := Station.settle_keeps (·.line.recoveryTimer) _ u ev fun _ => rfl
@[simp] theorem State.settled_line_recovered (s : State) (dt : Nat) (u : Station) (ev : Events) :
    (s.settled dt u ev).station.line.recovered = u.line.recovered := Station.settle_keeps (·.line.recovered) _ u ev fun _ => rfl
@[simp] theorem State.settled_line_fault (s : State) (dt : Nat) (u : Station) (ev : Events) :
    (s.settled dt u ev).station.line.fault = u.line.fault := Station.settle_keeps (·.line.fault) _ u ev fun _ => rfl
@[simp] theorem State.settled_line_sending (s : State) (dt : Nat) (u : Station) (ev : Events) :
    (s.settled dt u ev).station.line.sending = u.line.sending := Station.settle_keeps (·.line.sending) _ u ev fun _ => rfl
@[simp] theorem State.settled_line_sentRecovered (s : State) (dt : Nat) (u : Station) (ev : Events) :
    (s.settled dt u ev).station.line.sentRecovered = u.line.sentRecovered := Station.settle_keeps (·.line.sentRecovered) _ u ev fun _ => rfl
@[simp] theorem State.settled_pending (s : State) (dt : Nat) (u : Station) (ev : Events) :
    (s.settled dt u ev).pending = s.pending := rfl
@[simp] theorem State.settled_peer (s : State) (dt : Nat) (u : Station) (ev : Events) (n : Nat) :
    (s.settled dt u ev).station.peer n = u.peer n := Station.settle_keeps (·.peer n) _ u ev fun _ => rfl

/-! ## Orders that are not under way (R95, R106, R116) -/

/-- An order that the command left ended or STOPPED keeps its state and reason. -/
theorem State.settled_order_ended (s : State) (dt : Nat) (u : Station) (ev : Events)
    (h : u.order.state.resting = true ∨ u.order.state = .stopped) :
    (s.settled dt u ev).station.order.state = u.order.state ∧
      (s.settled dt u ev).station.order.reason = u.order.reason := by
  have k := Station.orderKept_settle (s.old dt) u ev
  unfold Station.orderKept at k
  rcases hu : u.order.state <;> simp_all [OrderState.resting, Station.ends, State.settled]

/-- An order that the command left HALTED stays HALTED, or is STOPPED with EMERGENCY. -/
theorem State.settled_order_halted (s : State) (dt : Nat) (u : Station) (ev : Events) (h : u.order.state = .halted) :
    (s.settled dt u ev).station.order.state = .halted ∨
      ((s.settled dt u ev).station.order.state = .stopped ∧ (s.settled dt u ev).station.order.reason = .emergency) := by
  have k := Station.orderKept_settle (s.old dt) u ev
  unfold Station.orderKept at k
  simp only [h, Station.ends, Prod.mk.injEq] at k
  exact k.imp (·.1) id

/-! ## The commanded step (R90, R93, R95) -/

/-- After the last drop a commanded step above 0 is one that the envelope permits. -/
theorem Station.moveSafe_finalDrop (s : Station) : s.finalDrop.moveSafe := by
  unfold Station.moveSafe Station.finalDrop
  split
  · rename_i hd
    unfold Station.dropStep; extract_lets top
    split
    · intro h
      simp only [Station.withEnv_env] at h
      have : s.env.latch = false ∧ s.env.pendingDir = none ∧ top = s.permitted := by
        simp only [top] at h ⊢
        split at h
        · omega
        · rename_i c; simp at c; simp [c]
      refine ⟨hd, this.1, this.2.1, ?_⟩
      exact Nat.le_of_eq this.2.2
    · intro h
      rename_i c
      have : s.env.latch = false ∧ s.env.pendingDir = none ∧ s.env.commanded ≤ s.permitted := by
        simp only [top] at c
        split at c
        · omega
        · rename_i e; simp at e; exact ⟨e.1, e.2, by omega⟩
      exact ⟨hd, this⟩
  · intro h; simp at h

theorem State.settled_moveSafe (s : State) (dt : Nat) (u : Station) (ev : Events) :
    (s.settled dt u ev).station.moveSafe := Station.moveSafe_finalDrop _

/-- Where the cap term is 0 the commanded step is 0. -/
theorem State.settled_commanded_zero (s : State) (dt : Nat) (u : Station) (ev : Events)
    (h : (s.settled dt u ev).station.pCap = 0) : (s.settled dt u ev).station.env.commanded = 0 := by
  have k := s.settled_moveSafe dt u ev
  unfold Station.moveSafe at k
  by_contra c
  have := (k (by omega)).2.2.2
  unfold Station.permitted at this
  split at this <;> omega

end Sys2Proof.Machine
end

