-- ==== Sys2Proof/Laws/Heard.lean ====
section
/-! SUPPORT. What the reception of a frame does before a block acts on it: the line watch and the sender's entry, and
nothing else (R39, R177, R179, R180, R187). -/

namespace Sys2Proof.Machine

/-! ## Peer entries -/

theorem Station.peer_setPeer (s : Station) (n m : Nat) (p : PeerEntry) :
    (s.setPeer n p).peer m = if m = n ∧ 1 ≤ n ∧ n ≤ 29 then p else s.peer m := by
  unfold Station.setPeer Station.peer
  by_cases hn : n = 0
  · subst hn; simp
  · by_cases hm : m = 0
    · subst hm; simp [Ne.symm hn]
    · simp only [hn, hm, if_false, Station.withPeers_peers, Vector.getElem?_setIfInBounds]
      by_cases e : n = m
      · subst e
        by_cases h : n - 1 < 29
        · have : 1 ≤ n ∧ n ≤ 29 := by omega
          simp [h, this]
        · have : ¬(1 ≤ n ∧ n ≤ 29) := by omega
          simp [h, this]
      · have : ¬n - 1 = m - 1 := by omega
        simp [this, Ne.symm e]

@[simp] theorem Station.peer_mapPeer_self (s : Station) (n : Nat) (f : PeerEntry → PeerEntry) (h : 1 ≤ n) (k : n ≤ 29) :
    (s.mapPeer n f).peer n = f (s.peer n) := by simp [Station.mapPeer, Station.peer_setPeer, h, k]

@[simp] theorem Station.peer_mapPeer_other (s : Station) (n m : Nat) (f : PeerEntry → PeerEntry) (h : m ≠ n) :
    (s.mapPeer n f).peer m = s.peer m := by simp [Station.mapPeer, Station.peer_setPeer, h]

/-- An update of one entry is an update of the peer table. -/
theorem Station.mapPeer_eq (s : Station) (n : Nat) (f : PeerEntry → PeerEntry) :
    s.mapPeer n f = s.withPeers (s.mapPeer n f).peers := by
  unfold Station.mapPeer Station.setPeer; split <;> rfl

/-! ## The frame heard -/

theorem Station.fallQuiet_eq (s : Station) : s.fallQuiet = s.withInputs s.fallQuiet.inputs := by
  unfold Station.fallQuiet; split <;> rfl

theorem Station.restartSilence_eq (s : Station) : s.restartSilence = s.withLine s.restartSilence.line := by
  unfold Station.restartSilence; split <;> rfl

theorem Station.heardOther_eq (s : Station) (k : FrameKind) : s.heardOther k = s.withLine (s.heardOther k).line := by
  have h : (if s.line.state = .heard then s.restartSilence else s) =
      s.withLine (if s.line.state = .heard then s.restartSilence else s).line := by
    split
    · exact s.restartSilence_eq
    · rfl
  unfold Station.heardOther; dsimp only; rw [h]; split <;> rfl

theorem Station.refreshPeer_eq (s : Station) (src : Nat) (role : Role) :
    s.refreshPeer src role = s.withPeers (s.refreshPeer src role).peers := by
  unfold Station.refreshPeer; split
  · rfl
  · exact s.mapPeer_eq _ _

/-- Inputs, line and peer table are all that a reception touches before a block acts. -/
theorem Station.heard_eq (s : Station) (src : Nat) (role : Role) (k : FrameKind) :
    s.heard src role k = ((s.withInputs s.fallQuiet.inputs).withLine (s.fallQuiet.heardOther k).line).withPeers
      (s.heard src role k).peers := by
  have h : s.fallQuiet.heardOther k = (s.withInputs s.fallQuiet.inputs).withLine (s.fallQuiet.heardOther k).line := by
    rw [← s.fallQuiet_eq]; exact s.fallQuiet.heardOther_eq k
  rw [← h]; exact Station.refreshPeer_eq _ _ _

theorem Station.heard_line (s : Station) (k : FrameKind) :
    (s.fallQuiet.heardOther k).line = { s.line with
      silenceTimer := if s.line.state = .heard ∧ s.isCarriage = true then some (s.ms + 3 * s.line.period)
        else s.line.silenceTimer
      courtesy := if k.prompt then s.line.courtesy else false } := by
  rw [Station.fallQuiet_eq]
  unfold Station.heardOther Station.restartSilence
  cases hl : s.line with
  | mk q bt bd p cf bc rc st si rt re fa se sr =>
    by_cases h2 : st = .heard <;> by_cases h3 : s.isCarriage = true <;> cases h4 : k.prompt <;>
      simp_all [Station.isCarriage, Station.ms]

theorem Station.heard_inputs (s : Station) :
    s.fallQuiet.inputs = { s.inputs with
      quietSince := if s.line.sending.isSome then s.inputs.quietSince else some s.now } := by
  unfold Station.fallQuiet; split <;> simp_all

theorem Station.heard_peer (s : Station) (src : Nat) (role : Role) (k : FrameKind) (n : Nat) :
    (s.heard src role k).peer n =
      if n = src ∧ 1 ≤ src ∧ src ≤ 29 then (s.peer src).refresh role s.ms else s.peer n := by
  have hp : ∀ m, (s.fallQuiet.heardOther k).peer m = s.peer m := by
    intro m; rw [Station.heardOther_eq, Station.fallQuiet_eq]; rfl
  have ht : (s.fallQuiet.heardOther k).ms = s.ms := by
    rw [Station.heardOther_eq, Station.fallQuiet_eq]; rfl
  unfold Station.heard Station.refreshPeer
  split
  · rw [hp, if_neg (by omega)]
  · simp only [Station.mapPeer, Station.peer_setPeer, hp, ht]

@[simp] theorem Station.heard_now (s : Station) (src : Nat) (role : Role) (k : FrameKind) :
    (s.heard src role k).now = s.now := by rw [Station.heard_eq]; rfl
@[simp] theorem Station.heard_bootMem (s : Station) (src : Nat) (role : Role) (k : FrameKind) :
    (s.heard src role k).bootMem = s.bootMem := by rw [Station.heard_eq]; rfl
@[simp] theorem Station.heard_start (s : Station) (src : Nat) (role : Role) (k : FrameKind) :
    (s.heard src role k).start = s.start := by rw [Station.heard_eq]; rfl
@[simp] theorem Station.heard_par (s : Station) (src : Nat) (role : Role) (k : FrameKind) :
    (s.heard src role k).par = s.par := by rw [Station.heard_eq]; rfl
@[simp] theorem Station.heard_map (s : Station) (src : Nat) (role : Role) (k : FrameKind) :
    (s.heard src role k).map = s.map := by rw [Station.heard_eq]; rfl
@[simp] theorem Station.heard_pos (s : Station) (src : Nat) (role : Role) (k : FrameKind) :
    (s.heard src role k).pos = s.pos := by rw [Station.heard_eq]; rfl
@[simp] theorem Station.heard_claims (s : Station) (src : Nat) (role : Role) (k : FrameKind) :
    (s.heard src role k).claims = s.claims := by rw [Station.heard_eq]; rfl
@[simp] theorem Station.heard_env (s : Station) (src : Nat) (role : Role) (k : FrameKind) :
    (s.heard src role k).env = s.env := by rw [Station.heard_eq]; rfl
@[simp] theorem Station.heard_order (s : Station) (src : Nat) (role : Role) (k : FrameKind) :
    (s.heard src role k).order = s.order := by rw [Station.heard_eq]; rfl
@[simp] theorem Station.heard_trail (s : Station) (src : Nat) (role : Role) (k : FrameKind) :
    (s.heard src role k).trail = s.trail := by rw [Station.heard_eq]; rfl
@[simp] theorem Station.heard_backing (s : Station) (src : Nat) (role : Role) (k : FrameKind) :
    (s.heard src role k).backing = s.backing := by rw [Station.heard_eq]; rfl
@[simp] theorem Station.heard_appr (s : Station) (src : Nat) (role : Role) (k : FrameKind) :
    (s.heard src role k).appr = s.appr := by rw [Station.heard_eq]; rfl
@[simp] theorem Station.heard_index (s : Station) (src : Nat) (role : Role) (k : FrameKind) :
    (s.heard src role k).index = s.index := by rw [Station.heard_eq]; rfl
@[simp] theorem Station.heard_lift (s : Station) (src : Nat) (role : Role) (k : FrameKind) :
    (s.heard src role k).lift = s.lift := by rw [Station.heard_eq]; rfl
@[simp] theorem Station.heard_park (s : Station) (src : Nat) (role : Role) (k : FrameKind) :
    (s.heard src role k).park = s.park := by rw [Station.heard_eq]; rfl
@[simp] theorem Station.heard_tt (s : Station) (src : Nat) (role : Role) (k : FrameKind) :
    (s.heard src role k).tt = s.tt := by rw [Station.heard_eq]; rfl
@[simp] theorem Station.heard_passage (s : Station) (src : Nat) (role : Role) (k : FrameKind) :
    (s.heard src role k).passage = s.passage := by rw [Station.heard_eq]; rfl
@[simp] theorem Station.heard_line_queue (s : Station) (src : Nat) (role : Role) (k : FrameKind) :
    (s.heard src role k).line.queue = s.line.queue := by rw [Station.heard_eq]; simp [Station.heard_line]
@[simp] theorem Station.heard_line_badCount (s : Station) (src : Nat) (role : Role) (k : FrameKind) :
    (s.heard src role k).line.badCount = s.line.badCount := by rw [Station.heard_eq]; simp [Station.heard_line]
@[simp] theorem Station.heard_line_resendCount (s : Station) (src : Nat) (role : Role) (k : FrameKind) :
    (s.heard src role k).line.resendCount = s.line.resendCount := by rw [Station.heard_eq]; simp [Station.heard_line]
@[simp] theorem Station.heard_line_state (s : Station) (src : Nat) (role : Role) (k : FrameKind) :
    (s.heard src role k).line.state = s.line.state := by rw [Station.heard_eq]; simp [Station.heard_line]
@[simp] theorem Station.heard_line_fault (s : Station) (src : Nat) (role : Role) (k : FrameKind) :
    (s.heard src role k).line.fault = s.line.fault := by rw [Station.heard_eq]; simp [Station.heard_line]
@[simp] theorem Station.heard_line_recovered (s : Station) (src : Nat) (role : Role) (k : FrameKind) :
    (s.heard src role k).line.recovered = s.line.recovered := by rw [Station.heard_eq]; simp [Station.heard_line]
@[simp] theorem Station.heard_line_sending (s : Station) (src : Nat) (role : Role) (k : FrameKind) :
    (s.heard src role k).line.sending = s.line.sending := by rw [Station.heard_eq]; simp [Station.heard_line]
@[simp] theorem Station.heard_line_sentRecovered (s : Station) (src : Nat) (role : Role) (k : FrameKind) :
    (s.heard src role k).line.sentRecovered = s.line.sentRecovered := by rw [Station.heard_eq]; simp [Station.heard_line]
@[simp] theorem Station.heard_line_beaconTimer (s : Station) (src : Nat) (role : Role) (k : FrameKind) :
    (s.heard src role k).line.beaconTimer = s.line.beaconTimer := by rw [Station.heard_eq]; simp [Station.heard_line]
@[simp] theorem Station.heard_line_beaconDue (s : Station) (src : Nat) (role : Role) (k : FrameKind) :
    (s.heard src role k).line.beaconDue = s.line.beaconDue := by rw [Station.heard_eq]; simp [Station.heard_line]
@[simp] theorem Station.heard_line_period (s : Station) (src : Nat) (role : Role) (k : FrameKind) :
    (s.heard src role k).line.period = s.line.period := by rw [Station.heard_eq]; simp [Station.heard_line]
@[simp] theorem Station.heard_line_recoveryTimer (s : Station) (src : Nat) (role : Role) (k : FrameKind) :
    (s.heard src role k).line.recoveryTimer = s.line.recoveryTimer := by rw [Station.heard_eq]; simp [Station.heard_line]
@[simp] theorem Station.heard_inputs_confirmed (s : Station) (src : Nat) (role : Role) (k : FrameKind) :
    (s.heard src role k).inputs.confirmed = s.inputs.confirmed := by rw [Station.heard_eq]; simp [Station.heard_inputs]
@[simp] theorem Station.heard_inputs_driveFault (s : Station) (src : Nat) (role : Role) (k : FrameKind) :
    (s.heard src role k).inputs.driveFault = s.inputs.driveFault := by rw [Station.heard_eq]; simp [Station.heard_inputs]
@[simp] theorem Station.heard_inputs_armAligned (s : Station) (src : Nat) (role : Role) (k : FrameKind) :
    (s.heard src role k).inputs.armAligned = s.inputs.armAligned := by rw [Station.heard_eq]; simp [Station.heard_inputs]
@[simp] theorem Station.heard_inputs_rotationFault (s : Station) (src : Nat) (role : Role) (k : FrameKind) :
    (s.heard src role k).inputs.rotationFault = s.inputs.rotationFault := by rw [Station.heard_eq]; simp [Station.heard_inputs]
@[simp] theorem Station.heard_inputs_deckOccupied (s : Station) (src : Nat) (role : Role) (k : FrameKind) :
    (s.heard src role k).inputs.deckOccupied = s.inputs.deckOccupied := by rw [Station.heard_eq]; simp [Station.heard_inputs]
@[simp] theorem Station.heard_inputs_deckCentred (s : Station) (src : Nat) (role : Role) (k : FrameKind) :
    (s.heard src role k).inputs.deckCentred = s.inputs.deckCentred := by rw [Station.heard_eq]; simp [Station.heard_inputs]
@[simp] theorem Station.heard_inputs_deckClear (s : Station) (src : Nat) (role : Role) (k : FrameKind) :
    (s.heard src role k).inputs.deckClear = s.inputs.deckClear := by rw [Station.heard_eq]; simp [Station.heard_inputs]
@[simp] theorem Station.heard_inputs_atTop (s : Station) (src : Nat) (role : Role) (k : FrameKind) :
    (s.heard src role k).inputs.atTop = s.inputs.atTop := by rw [Station.heard_eq]; simp [Station.heard_inputs]
@[simp] theorem Station.heard_inputs_atBottom (s : Station) (src : Nat) (role : Role) (k : FrameKind) :
    (s.heard src role k).inputs.atBottom = s.inputs.atBottom := by rw [Station.heard_eq]; simp [Station.heard_inputs]
@[simp] theorem Station.heard_inputs_loadSensed (s : Station) (src : Nat) (role : Role) (k : FrameKind) :
    (s.heard src role k).inputs.loadSensed = s.inputs.loadSensed := by rw [Station.heard_eq]; simp [Station.heard_inputs]
@[simp] theorem Station.heard_inputs_liftFault (s : Station) (src : Nat) (role : Role) (k : FrameKind) :
    (s.heard src role k).inputs.liftFault = s.inputs.liftFault := by rw [Station.heard_eq]; simp [Station.heard_inputs]
@[simp] theorem Station.heard_inputs_dockRaw (s : Station) (src : Nat) (role : Role) (k : FrameKind) :
    (s.heard src role k).inputs.dockRaw = s.inputs.dockRaw := by rw [Station.heard_eq]; simp [Station.heard_inputs]

@[simp] theorem Station.heard_ms (s : Station) (src : Nat) (role : Role) (k : FrameKind) :
    (s.heard src role k).ms = s.ms := by simp [Station.ms]
@[simp] theorem Station.heard_onLine (s : Station) (src : Nat) (role : Role) (k : FrameKind) :
    (s.heard src role k).onLine = s.onLine := by simp [Station.onLine]
@[simp] theorem Station.heard_isCarriage (s : Station) (src : Nat) (role : Role) (k : FrameKind) :
    (s.heard src role k).isCarriage = s.isCarriage := by simp [Station.isCarriage]

/-- The reception of a frame from another station whose number and kind fit. -/
theorem Station.receive_heard (s : Station) (src : Nat) (role : Role) (k : FrameKind) (act : Station → Station)
    (h : s.onLine = true) (f : senderFits src k = true) (n : src ≠ s.par.station) :
    s.receive src role k act = act (s.heard src role k) := by
  have hp : s.fallQuiet.par = s.par := by unfold Station.fallQuiet; split <;> rfl
  simp [Station.receive, Station.takeFrame, h, f, n, hp, Station.heard]

end Sys2Proof.Machine
end

