-- ==== Sys2Proof/Laws/Memory.lean ====
section
/-! SUPPORT. Laws of the boot memory (R191): a write is read back, it leaves every other address alone, and every write
keeps the cells in rising address order; the memory after reset has that form. -/

namespace Sys2Proof.Machine

/-- The byte stored is the byte read. -/
@[simp] theorem Memory.read_write_self (m : Memory) (a : Nat) (v : Byte) : (m.write a v).read a = some v := by
  induction m with
  | nil => simp [Memory.write, Memory.read]
  | cons c rest ih =>
    obtain ⟨b, w⟩ := c
    unfold Memory.write
    split
    · simp [Memory.read]
    · split
      · simp [Memory.read]
      · rename_i h
        simp [Memory.read, h, ih]

/-- Every other address reads as before. -/
theorem Memory.read_write_other (m : Memory) {a x : Nat} (v : Byte) (h : x ≠ a) :
    (m.write a v).read x = m.read x := by
  induction m with
  | nil => simp [Memory.write, Memory.read, h]
  | cons c rest ih =>
    obtain ⟨b, w⟩ := c
    unfold Memory.write
    split
    · simp [Memory.read, h]
    · split
      · subst a
        simp [Memory.read, h]
      · simp only [Memory.read, ih]

theorem Memory.risesAbove_some {lo : Nat} {m : Memory} (h : Memory.risesAbove (some lo) m = true) :
    Memory.risesAbove none m = true := by
  cases m with
  | nil => rfl
  | cons c rest => simp_all [Memory.risesAbove]

/-- A write above `lo` keeps the cells rising above `lo`. -/
theorem Memory.risesAbove_write (m : Memory) (lo a : Nat) (v : Byte) (h : Memory.risesAbove (some lo) m = true)
    (k : lo < a) : Memory.risesAbove (some lo) (m.write a v) = true := by
  induction m generalizing lo with
  | nil => simp [Memory.write, Memory.risesAbove, k]
  | cons c rest ih =>
    obtain ⟨b, w⟩ := c
    simp only [Memory.risesAbove, Bool.and_eq_true, decide_eq_true_eq] at h
    unfold Memory.write
    split
    · simp_all [Memory.risesAbove]
    · split
      · subst a
        simp_all [Memory.risesAbove]
      · simp only [Memory.risesAbove, Bool.and_eq_true, decide_eq_true_eq]
        exact ⟨h.1, ih b h.2 (by omega)⟩

/-- A write keeps the canonical form. -/
theorem Memory.wf_write (m : Memory) (a : Nat) (v : Byte) (h : m.wf = true) : (m.write a v).wf = true := by
  unfold Memory.wf at *
  cases m with
  | nil => rfl
  | cons c rest =>
    obtain ⟨b, w⟩ := c
    simp only [Memory.risesAbove] at h
    unfold Memory.write
    split
    · simp_all [Memory.risesAbove]
    · split
      · subst a
        exact h
      · exact Memory.risesAbove_write rest b a v h (by omega)

/-- A run of writes keeps the canonical form. -/
theorem Memory.wf_writeAll (l : List Byte) (m : Memory) (a : Nat) (h : m.wf = true) : (m.writeAll a l).wf = true := by
  induction l generalizing m a with
  | nil => exact h
  | cons v vs ih => exact ih _ _ (Memory.wf_write m a v h)

/-- A run of writes leaves every address outside it alone. -/
theorem Memory.read_writeAll_other (l : List Byte) (m : Memory) (a x : Nat) (h : x < a ∨ a + l.length ≤ x) :
    (m.writeAll a l).read x = m.read x := by
  induction l generalizing m a with
  | nil => rfl
  | cons v vs ih =>
    simp only [List.length_cons] at h
    rw [Memory.writeAll, ih _ _ (by omega), Memory.read_write_other _ _ (by omega)]

/-- The memory after reset has the canonical form. -/
theorem Memory.wf_reset : State.reset.station.bootMem.wf = true := rfl

end Sys2Proof.Machine
end

