-- ==== Sys2Proof/Laws/Queue.lean ====
section
/-! SUPPORT. What the operations of the transmit queue (R181, R182) and the start of a rotation (R46, R158, R159) can do, said
once. -/

namespace Sys2Proof.Machine

/-- A frame that a PROMPT frame may displace: ROUTINE and not in flight (R182). -/
def QueueItem.yields (x : QueueItem) : Bool := !x.prompt && !x.inFlight

/-- What is taken out is the last frame that may be displaced. -/
theorem dropLastRoutine_some {q rest : List QueueItem} {x : QueueItem} (h : dropLastRoutine q = some (x, rest)) :
    ∃ a b, q = a ++ x :: b ∧ rest = a ++ b ∧ x.yields = true ∧ ∀ y ∈ b, y.yields = false := by
  induction q generalizing x rest with
  | nil => cases h
  | cons z zs ih =>
    simp only [dropLastRoutine] at h
    split at h
    · next y ys hy =>
      obtain ⟨a, b, rfl, rfl, hx, hb⟩ := ih hy
      cases h
      exact ⟨z :: a, b, rfl, rfl, hx, hb⟩
    · next hn =>
      split at h
      · next hz =>
        cases h
        refine ⟨[], zs, rfl, rfl, hz, fun y hy => ?_⟩
        clear ih hz
        induction zs with
        | nil => cases hy
        | cons w ws ihw =>
          simp only [dropLastRoutine] at hn
          split at hn
          · cases hn
          · next hm =>
            split at hn
            · cases hn
            · next hw =>
              cases hy with
              | head => exact Bool.eq_false_iff.mpr hw
              | tail _ hy => exact ihw hm hy
      · cases h

/-- Nothing is taken out only where no frame may be displaced. -/
theorem dropLastRoutine_none {q : List QueueItem} (h : dropLastRoutine q = none) : ∀ y ∈ q, y.yields = false := by
  induction q with
  | nil => exact fun _ hy => nomatch hy
  | cons z zs ih =>
    simp only [dropLastRoutine] at h
    split at h
    · cases h
    · next hn =>
      split at h
      · cases h
      · next hz =>
        intro y hy
        cases hy with
        | head => exact Bool.eq_false_iff.mpr hz
        | tail _ hy => exact ih hn y hy

/-- A queue with PROMPT before ROUTINE stays so when a frame goes in. -/
theorem enqueue_classes (q : List QueueItem) (f : OutFrame)
    (h : q = q.filter (·.prompt) ++ q.filter (fun x => !x.prompt)) :
    enqueue q f = (enqueue q f).filter (·.prompt) ++ (enqueue q f).filter (fun x => !x.prompt) := by
  have hp : QueueItem.prompt { frame := f } = f.prompt := rfl
  cases hf : f.prompt
  · simp only [enqueue, hf, Bool.false_eq_true, if_false, List.filter_append, List.filter_cons, hp, List.filter_nil,
      Bool.not_false, if_true, List.append_nil]
    rw [← List.append_assoc, ← h]
  · simp [enqueue, hf, hp, List.filter_append, List.filter_filter]

/-- The start of a rotation leaves the part as it is, or finds every guard HELD here and held by no peer and the sensor right:
then the deck rotates, or is FAULT with DRIVE. -/
theorem Station.startRotation_cases (s : Station) :
    s.startRotation = s ∨ (s.guardsHeld = true ∧ s.guardsFree = true ∧ s.sensorOk = true ∧
      s.startRotation = if s.inputs.rotationFault then s.deckFault .drive
        else s.withTt { s.tt with deck := .rotating, rotationTimer := some (s.ms + s.par.rotationTimeout * 1000) }) := by
  unfold Station.startRotation
  split
  · next h =>
    simp only [Bool.and_eq_true] at h
    exact .inr ⟨h.1.1, h.1.2, h.2, rfl⟩
  · exact .inl rfl

end Sys2Proof.Machine
end

