-- ==== Sys2Proof/WellFormed.lean ====
section
/-! DEFINITION. Which commands are well formed: every operand lies in the range its field of the spec can hold (R174,
R175, 00 section 4.3). An ill-formed command still has a meaning: only what the rules say about its operands counts. -/

namespace Sys2Proof

def HeldItem.wellFormed (h : HeldItem) : Bool := h.seg < 128

def Rank.wellFormed (r : Rank) : Bool := r.wait < 16

/-- A chainage that three bytes hold. -/
def chainageFits (c : Chainage) : Bool := -8388608 ≤ c && c < 8388608

/-- A track station and its role (R174). -/
def FrameHead.wellFormed (h : FrameHead) : Bool := 1 ≤ h.src && h.src ≤ 29

/-- An operations station, a target station and an order number (R175). -/
def OrderHead.wellFormed (o : OrderHead) : Bool :=
  (o.src = 30 || o.src = 31) && o.target < 32 && o.number < 65536

def Target.wellFormed : Target → Bool
  | .pad n => n < 64
  | .point l c => l < 8 && chainageFits c

def LegEnd.wellFormed : LegEnd → Bool
  | .target => true
  | .turntable t e => t < 4 && e < 4

def Leg.wellFormed (g : Leg) : Bool := g.line < 8 && g.stop.wellFormed

/-- At most 27 legs stay within the body of a frame (R175). -/
def RouteOrder.wellFormed (r : RouteOrder) : Bool :=
  r.target.wellFormed && r.legs.length ≤ 27 && r.legs.all (·.wellFormed)

def CarriageBeacon.wellFormed (b : CarriageBeacon) : Bool :=
  b.period < 65536 && b.line < 256 && b.deckTurntable < 256 && chainageFits b.centre && b.u < 65536 &&
  b.halfLength < 65536 && b.commanded < 8 && b.effective < 8 && b.wait < 16 && b.orderCode < 16 && b.reason < 16 &&
  b.orderNumber < 65536 && b.cursor < 16 && b.held.length ≤ 8 && b.held.all (·.wellFormed) && b.home < 256 &&
  b.badCount < 256 && b.resendCount < 256

def TurntableBeacon.wellFormed (b : TurntableBeacon) : Bool :=
  b.period < 65536 && b.turntable < 4 && b.aligned < 4 && b.deck < 16 && b.holder < 32 && b.reason < 16 &&
  b.queue.length ≤ 8 && b.queue.all (· < 256) && b.held.length ≤ 8 && b.held.all (·.wellFormed) &&
  b.badCount < 256 && b.resendCount < 256

/-- The well-formed commands. -/
def Instr.wellFormed : Instr → Bool
  | .resetAsserted _ | .resetReleased _ | .bootReadComplete _ _ _ | .listenInEnd _ | .bodyClaimRetry _ => true
  | .badFrameReceived _ _ => true
  | .duplicateStationFrame _ k => k != .order
  | .carriageBeaconReceived _ src b => 1 ≤ src && src ≤ 29 && b.wellFormed
  | .turntableBeaconReceived _ src b => 1 ≤ src && src ≤ 29 && b.wellFormed
  | .claimReceived _ h seg tag r => h.wellFormed && seg < 256 && tag < 256 && r.wellFormed
  | .objectReceived _ h seg _ r c => h.wellFormed && seg < 256 && r.wellFormed && c < 32
  | .releaseReceived _ h segs => h.wellFormed && 1 ≤ segs.length && segs.length ≤ 8 && segs.all (· < 256)
  | .yieldAskReceived _ h seg holder w => h.wellFormed && seg < 256 && holder < 32 && w < 16
  | .orderMove _ o r | .orderFetch _ o r | .orderPlace _ o r => o.wellFormed && r.wellFormed
  | .orderBadKind _ o k => o.wellFormed && k < 256
  | .orderHalt _ o | .orderResume _ o | .orderCancel _ o => o.wellFormed
  | .orderSetPosition _ o line c u => o.wellFormed && line < 256 && chainageFits c && u < 65536
  | .orderClearPeer _ o p => o.wellFormed && p < 32
  | .turnAskReceived _ h t a e => h.wellFormed && t < 256 && a < 256 && e < 256
  | .turnAboardReceived _ h t | .turnClearReceived _ h t => h.wellFormed && t < 256
  | .turnAnswerGrant _ h c a | .turnAnswerExit _ h c a | .turnAnswerRefusedFull _ h c a | .turnAnswerFault _ h c a
  | .turnAnswerRevoked _ h c a | .turnAnswerNotCentred _ h c a => h.wellFormed && c < 32 && a < 256
  | .sendPointReached _ | .echoGood _ | .echoFailed _ | .beaconTimerExpiry _ | .silenceTimerExpiry _
  | .recoveryTimerExpiry _ | .carrierHeard _ => true
  | .listenWindowEnd _ seg | .holdLimitReached _ seg => seg < 128
  | .pendingNoteExpiry _ p seg => 1 ≤ p && p ≤ 29 && seg < 128
  | .peerStale _ p | .peerLost _ p => 1 ≤ p && p ≤ 29
  | .orderEvaluationTimer _ | .blockTimeExpiry _ | .passageRetryDue _ | .turntableEvaluationTimer _
  | .guardRetryTime _ | .entryTimerExpiry _ | .exitTimerExpiry _ | .rotationTimerExpiry _ => true
  | .armAlignedChange _ a => a.all (· < 4)
  | .rotationFaultChange _ _ | .deckSensorChange _ _ _ _ | .countReport _ _ => true
  | .confirmedStepChange _ k => k < 8
  | .stepDwellEnd _ | .driveFaultChange _ _ | .inPositionActive _ | .dockingIndexChange _ _
  | .dockingDebounceExpiry _ => true
  | .markerPresentChange _ _ n => n < 256
  | .markerDebounceExpiry _ | .atTopChange _ _ _ | .atBottomChange _ _ _ | .liftFaultChange _ _ | .liftTimeout _
  | .parkWriteComplete _ => true

end Sys2Proof
end

