-- ==== Sys2Proof/Tests/Slice0.lean ====
section
/-! SUPPORT. Small tests: ill-formed commands are refused by the check, the spec's worked examples come out as printed,
and every statement with hypotheses has a state and operands that meet them. Expected values are the spec's own. -/

namespace Sys2Proof.Tests

set_option Elab.async false

open Sys2Proof Sys2Proof.Machine

/-! ## WellFormed: each check refuses a command that breaks it -/

theorem test_wf_duplicate : (Instr.duplicateStationFrame 0 .order).wellFormed = false := by decide
theorem test_wf_beacon_source : (Instr.carriageBeaconReceived 0 30 {}).wellFormed = false := by decide
theorem test_wf_beacon_step : (Instr.carriageBeaconReceived 0 1 { commanded := 8 }).wellFormed = false := by decide
theorem test_wf_turntable_beacon : (Instr.turntableBeaconReceived 0 1 { turntable := 4 }).wellFormed = false := by decide
theorem test_wf_claim : (Instr.claimReceived 0 {} 1 0 ⟨16, false⟩).wellFormed = false := by decide
theorem test_wf_object : (Instr.objectReceived 0 {} 1 .holds ⟨0, false⟩ 32).wellFormed = false := by decide
theorem test_wf_release : (Instr.releaseReceived 0 {} []).wellFormed = false := by decide
theorem test_wf_yield_ask : (Instr.yieldAskReceived 0 {} 1 2 16).wellFormed = false := by decide
theorem test_wf_order_head : (Instr.orderHalt 0 ⟨5, 1, 1⟩).wellFormed = false := by decide
theorem test_wf_order_target : (Instr.orderMove 0 {} ⟨.pad 64, []⟩).wellFormed = false := by decide
theorem test_wf_order_leg : (Instr.orderFetch 0 {} ⟨.pad 0, [⟨8, .up, .target⟩]⟩).wellFormed = false := by decide
theorem test_wf_leg_exit : (Instr.orderPlace 0 {} ⟨.pad 0, [⟨0, .up, .turntable 0 4⟩]⟩).wellFormed = false := by decide
theorem test_wf_set_position : (Instr.orderSetPosition 0 {} 0 8388608 10).wellFormed = false := by decide
theorem test_wf_clear_peer : (Instr.orderClearPeer 0 {} 32).wellFormed = false := by decide
theorem test_wf_turn_ask : (Instr.turnAskReceived 0 { src := 30 } 0 0 2).wellFormed = false := by decide
theorem test_wf_turn_answer : (Instr.turnAnswerGrant 0 {} 32 0).wellFormed = false := by decide
theorem test_wf_window : (Instr.listenWindowEnd 0 128).wellFormed = false := by decide
theorem test_wf_note : (Instr.pendingNoteExpiry 0 0 1).wellFormed = false := by decide
theorem test_wf_peer : (Instr.peerLost 0 30).wellFormed = false := by decide
theorem test_wf_arm : (Instr.armAlignedChange 0 (some 4)).wellFormed = false := by decide
theorem test_wf_step : (Instr.confirmedStepChange 0 8).wellFormed = false := by decide
theorem test_wf_marker : (Instr.markerPresentChange 0 true 256).wellFormed = false := by decide
theorem test_wf_accepts : (Instr.orderMove 0 { number := 1, target := 5 } ⟨.pad 3, [⟨0, .up, .target⟩]⟩).wellFormed = true := by
  decide

/-! ## Decode: no row of the table has bits -/

theorem test_decode_none : decodeTableWord 16 0 = none := rfl

/-! ## The two-line map of chapter 1 and a state on it -/

/-- A valid segment of the example's table, by base and end. -/
def seg (k : SegKind) (line : Nat) (base stop : Int) : SegmentSlot := ⟨true, k, line, base, stop - base, 0⟩

/-- The worked example of chapter 1: two lines joined at turntable 0, pads 3 and 5; a marker on line 0. -/
def twoLines : TrackMap :=
  { lines := ((Vector.replicate 8 {}).set 0 ⟨true, 0, 120000, {}, ⟨true, 0, 0⟩⟩).set 1 ⟨true, 0, 80000, ⟨true, 0, 2⟩, {}⟩
    turntables := (Vector.replicate 4 {}).set 0 ⟨true, 24000, #v[⟨true, 0, true⟩, {}, ⟨true, 1, false⟩, {}]⟩
    segments := (((((((Vector.replicate 128 {}).set 0 (seg .plain 0 0 41000)).set 1 (seg .plain 0 40000 81500)).set 2
      (seg .plain 0 80000 108000)).set 3 (seg .guard 0 106000 120000)).set 4 (seg .deck 0 0 0)).set 5
      (seg .guard 1 0 12000)).set 6 (seg .plain 1 11000 80000)
    pads := ((Vector.replicate 64 {}).set 3 ⟨true, 0, 60000, 20⟩).set 5 ⟨true, 1, 76000, 20⟩
    markers := (Vector.replicate 256 {}).set 41 ⟨true, 0, 60020⟩ }

/-- The running examples' carriage: L 12 000, the ladder and decelerations of chapter 5, M 1 500, G 8. -/
def carriagePar : Params :=
  { station := 5, role := .carriage, len := 12000, ladder := #v[0, 80, 200, 400, 650, 900, 1200, 1500], aEmpty := 250
    aLoaded := 120, tr := 500, margin := 1500, dwell := 800, drift := 8, debounce := 2, scale := 250, hold := 10
    window := 300, beacon := 500, centring := 50 }

/-- A carriage in READY at rest on line 0, centre 60 000, direction UP, holding segment 1 as its body. -/
def car : Station :=
  { now := 10000000, par := carriagePar, map := twoLines, start := { phase := .ready }
    pos := { frame := .line, line := 0, acc := 60000000, centre := 60000, u := 10, uRef := 10 }
    claims := { entries := [{ seg := 1, state := .held, purpose := .body, asker := .startup, wonTime := some 0 }] }
    env := { latch := false, emptyTable := stoppingTable carriagePar.ladder 500 250
             loadedTable := stoppingTable carriagePar.ladder 500 120 }
    lift := { state := .lowered }, inputs := { quietSince := some 9000000 } }

/-- A turntable station in READY, its deck empty at arm 0. -/
def table : Station :=
  { now := 10000000, par := { carriagePar with station := 1, role := .turntable, turntable := 0 }, map := twoLines
    start := { phase := .ready }, tt := { deck := .idle, aligned := 0, reason := .none }
    inputs := { armAligned := some 0, deckClear := true } }

/-- A state with an empty queue. -/
def at' (s : Station) : State := { station := s }

/-! ## The worked examples of chapters 1, 2, 5, 10 -/

theorem test_map_checks : twoLines.checks carriagePar = true := by decide +kernel
theorem test_home : (twoLines.home? (.line 0) 40500, twoLines.home? (.line 0) 41000, twoLines.home? (.line 0) 132000) =
    (some 1, some 1, some 4) := by decide +kernel
theorem test_covering : (twoLines.covering (.line 0) 98000 121000).map (·.seg) = [2, 3, 4] := by decide +kernel
theorem test_next : [twoLines.next? 2 .up 0, twoLines.next? 3 .up 0, twoLines.next? 4 .up 2, twoLines.next? 1 .down 0,
    twoLines.next? 0 .down 0, twoLines.next? 6 .up 0] = [some 3, some 4, some 5, some 0, none, none] := by decide +kernel
theorem test_guard_set : twoLines.guardSet 0 = [3, 5] := by decide +kernel
theorem test_deck_centres : ((twoLines.deck? 0 0).map (·.centre), (twoLines.deck? 0 2).map (·.centre)) =
    (some 132000, some (-12000)) := by decide +kernel
theorem test_pads_judged : (((twoLines.judgePads 12000).pad? 5).isSome, ((twoLines.judgePads 4000).pad? 5).isSome,
    ((twoLines.judgePads 12000).pad? 3).map (·.home)) = (false, true, some (some 1)) := by decide +kernel
theorem test_pad_in_guard : TrackMap.checks { twoLines with pads := twoLines.pads.set 0 ⟨true, 0, 115000, 20⟩ } carriagePar =
    false := by decide +kernel
theorem test_third_segment : TrackMap.checks { twoLines with segments := twoLines.segments.set 7 (seg .plain 0 107000 109000) }
    carriagePar = false := by decide +kernel
theorem test_tables : (car.env.loadedTable, car.env.emptyTable) =
    (#v[0, 67, 267, 867, 2086, 3825, 6600, 10125], #v[0, 53, 180, 520, 1170, 2070, 3480, 5250]) := by decide +kernel
theorem test_ladder : orderLadder [60, 5, 400, 350, 900, 3000, 1500] = [0, 60, 60, 400, 400, 900, 2500, 2500] := by decide
theorem test_gap : ({ table with par := { table.par with station := 7 } } : Station).gap { frame := .beacon } = 270 := by decide +kernel

/-- The carriage of chapter 2, in mm: 40 000 counts from 90 000 with G 8 give centre 100 000, travel 10 000, U 90. -/
theorem test_counts :
    (match exec (.countReport 0 40000) (at' { car with pos := { car.pos with acc := 90000000, centre := 90000 } }) with
     | .next t => (t.station.pos.centre, t.station.pos.travel, t.station.pos.u)
     | _ => (0, 0, 0)) = (100000, 10000, 90) := by decide +kernel

/-- The climb of chapter 5 begins: a carriage with its track held and a stop point ahead raises 0 to 1 at an evaluation. -/
theorem test_first_raise :
    (match exec (.confirmedStepChange 0 0) (at' { car with order := { state := .running, legStop := some 70000 } }) with
     | .next t => (t.station.env.commanded, t.station.env.lastRaise)
     | _ => (9, none)) = (1, some 10000) := by decide +kernel

/-- Chapter 4: station 12's CLAIM, rank 2, meets station 5's LISTENING entry of wait count 1; 5 abandons it, and its
wait count rises to 2. -/
theorem test_crossed_claim :
    (match exec (.claimReceived 0 ⟨12, .carriage⟩ 2 0 ⟨2, false⟩) (at' { car with claims :=
        { entries := [{ seg := 2, state := .listening, purpose := .ahead, asker := .order, windowEnd := some 10300 }]
          waitCount := 1 } }) with
     | .next t => (t.station.claims.entries.map (·.seg), t.station.claims.waitCount)
     | _ => ([9], 0)) = ([], 2) := by decide +kernel

/-- Chapter 5, "a yield at speed": segments 30, 31 and 32 of line 3 (line 2 here is not used), L 12 000, U 180. -/
def threeSegments : TrackMap :=
  { lines := (Vector.replicate 8 {}).set 3 ⟨true, 86000, 130000, {}, {}⟩
    segments := (((Vector.replicate 128 {}).set 30 (seg .plain 3 86000 104000)).set 31 (seg .plain 3 104000 106000)).set 32
      (seg .plain 3 106000 130000) }

/-- An entry of the own list, won at time 0. -/
def own (n : Nat) (st : ClaimState) (pu : Purpose) : ClaimEntry :=
  { seg := n, state := st, purpose := pu, asker := .order, wonTime := some 0 }

/-- The loaded carriage of that example, the drive at step `k`, with these claims. -/
def runner (k : Nat) (l : List ClaimEntry) : Station :=
  { car with
    map := threeSegments, inputs := { car.inputs with confirmed := k }, lift := { state := .raised, load := .loaded }
    pos := { frame := .line, line := 3, acc := 94000000, centre := 94000, u := 180, uRef := 10
             travel := 21250, travelAcc := 21250000 }
    claims := { entries := l }, env := { car.env with commanded := k }
    order := { state := .running, legStop := some 140000 } }

theorem test_yield_distances : let u := runner 5 [own 30 .held .body, own 31 .held .ahead]
    (u.dClaim, u.dHold, u.dStop, u.pClaim, u.pStop, u.pCap, u.permitted) = (5820, 5820, some 46000, 5, 7, 7, 5) := by
  decide +kernel
theorem test_yield_taken :
    (match exec (.yieldAskReceived 0 ⟨6, .carriage⟩ 31 5 9) (at' (runner 5 [own 30 .held .body, own 31 .held .ahead])) with
     | .next t => (t.station.claims.entries.map (·.state), t.station.env.commanded, t.station.env.latch)
     | _ => ([], 0, true)) = ([.held, .yielding], 4, false) := by decide +kernel
theorem test_yield_released : let v := runner 4 [own 30 .held .body, own 31 .yielding .ahead]
    (match exec (.confirmedStepChange 0 4) (at' { v with
        pos := { v.pos with centre := 94150, acc := 94150000, u := 182 }, inputs := { v.inputs with confirmed := 5 } }) with
     | .next t => (t.station.claims.entries.map (·.seg), t.station.env.commanded, t.station.dHold)
     | _ => ([], 0, 0)) = ([30], 4, 3668) := by decide +kernel
theorem test_broken_run :
    (match exec (.confirmedStepChange 0 3) (at' (runner 3 [own 31 .held .ahead, own 32 .held .ahead])) with
     | .next t => (t.station.dHold, t.station.env.commanded, t.station.env.latch)
     | _ => (0, 9, false)) = (-12360, 0, true) := by decide +kernel

/-! ## Witnesses: for every statement with hypotheses, a state and operands that meet them, clause by clause

`car` and `table` are on the line; station 12 is a peer of both. -/

/-- A frame of station 12, a carriage; an order of station 30 to station `n`. -/
def head : FrameHead := ⟨12, .carriage⟩
def order (n : Nat) : OrderHead := ⟨30, n, 7⟩

/-- `car` with its order in a state; `car` with its lift, its passage, its line; `table` with its deck. -/
def inOrder (st : OrderState) : Station := { car with order := { state := st } }
def inLift (st : LiftState) : Station := { car with lift := { car.lift with state := st } }
def inPassage (st : PassageState) : Station := { car with passage := { state := st } }
def inLine (l : LineIf) : Station := { car with line := l }
def inDeck (t : Turntable) : Station := { table with tt := t }

/-- A command answers a next state of which `p` holds. -/
def answers (o : Outcome) (p : Station → Bool) : Bool :=
  match o with
  | .next t => p t.station
  | _ => false

theorem wit_hears : (at' car).hears 12 ∧ (at' table).hears 12 := by
  unfold State.hears; decide +kernel

theorem wit_ordered : (at' car).ordered (order 5) ∧ (at' table).ordered (order 1) := by
  unfold State.ordered; decide +kernel

theorem wit_orderedToAny : (at' car).orderedToAny (order 5) ∧ (at' car).orderedToAny (order 0) ∧
    (at' table).orderedToAny (order 0) := by
  unfold State.orderedToAny; decide +kernel

theorem wit_StepTakesFrontCommand : (at' car).pending = [] := rfl

theorem wit_ResetCommandsRestoreDefaults : State.reset.station.start.phase = .reset := rfl

/-- A block of `n` bytes that begins with `l`, filled with 0, its sum in its last two bytes. -/
def block (n : Nat) (l : List Byte) : List Byte :=
  let body := l ++ List.replicate (n - 2 - l.length) 0
  body ++ be16 (sumBytes body)

/-- The parameter record of a carriage with station number 5, every other field 0, and a map of one line from 0 to
100 000 in one segment, laid out by 11.2. -/
def goodImage : BootImage :=
  { parameters := block 51 [5, 0], pads := block 386 [], markers := block 1282 []
    mapBlock := block 1414 (1 :: be24 0 ++ be24 100000 ++ List.replicate 125 0 ++ [1, 0, 0] ++ be24 0 ++ be24 100000) }

/-- A valid park record on line 0 of that map. -/
def parked : ParkRecord := ⟨true, 0, 60000, none, .empty⟩

/-- A state in BOOT-READ. -/
def booting : State := at' { start := { phase := .bootRead } }

theorem wit_BootReadEndsInListenIn : booting.station.start.phase = .bootRead ∧ paramsGood goodImage.parameters = true ∧
    blockGood goodImage.mapBlock 1414 = true ∧ blockGood goodImage.pads 386 = true ∧
    blockGood goodImage.markers 1282 = true ∧
    (((readMapBlock goodImage.mapBlock).withPads goodImage.pads).withMarkers goodImage.markers).checks
      (rawParams goodImage.parameters).ordered = true ∧ (rawParams goodImage.parameters).ordered.role = .carriage ∧
    (rawParams (block 51 [1, 1])).ordered.role = .turntable ∧
    (Memory.writeAll [] parkBase (2#8 :: parked.bytes)).readAll parkBase 10 = some (2#8 :: parked.bytes) ∧
    acceptedPark ((readMapBlock goodImage.mapBlock).withPads goodImage.pads) (2#8 :: parked.bytes) = some (0, 60000) ∧
    booting.station.inputs.dockRaw = false ∧ (rawParams goodImage.parameters).ordered.debounce = 0 := by
  decide +kernel

theorem wit_BootFaultHoldsThePart : booting.station.start.phase = .bootRead ∧
    paramsGood ({} : BootImage).parameters = false := by decide +kernel

theorem wit_StartFaultEndsOnlyByReset : ({ start := { phase := .startFault } } : Station).start.phase = .startFault ∧
    ∀ dt, Instr.echoGood 0 ≠ .resetAsserted dt := ⟨rfl, fun _ h => nomatch h⟩

/-- `s` at the end of LISTEN-IN. -/
def listening (s : Station) : Station := { s with start := { phase := .listenIn, listenEnd := some 10000 } }

theorem wit_ListenInEndOpensNextPhase :
    dueAt (listening car).start.listenEnd ((at' (listening car)).old 0).ms = true ∧
    (listening car).isCarriage = true ∧ (listening car).pos.frame = .line ∧ (listening car).line.fault = false ∧
    (listening { car with pos := {} }).pos.frame ≠ .line ∧ (listening table).isCarriage = false ∧
    (let v (k : Nat) : Station := { car with env := { car.env with latch := true }, inputs := { confirmed := k } }
     (listening (v 0)).env.latch = true ∧ (listening (v 0)).inputs.confirmed = 0 ∧ (listening (v 3)).env.latch = true ∧
     (listening (v 3)).inputs.confirmed ≠ 0) ∧ (listening car).order.state = .idle := by decide +kernel

/-- `car` in BODY-CLAIM with nothing held, its retry due, where station 12 holds segment 1 or nobody does. -/
def claiming (l : List ClaimEntry) (held : List HeldItem) : Station :=
  { car with start := { phase := .bodyClaim, retryAt := some 10000 }, claims := { entries := l }
             peers := (Vector.replicate 29 {}).set 11 { state := .fresh, held := held } }

theorem wit_BodyClaimRetryAsksAgain : let s := claiming [] [⟨1, false⟩]
    s.start.phase = .bodyClaim ∧ dueAt s.start.retryAt ((at' s).old 0).ms = true ∧ s.startWanted = [1] ∧
    s.holders 1 = [12] ∧ s.claims.lists 1 = false ∧ s.claims.room 1 = true ∧ s.line.fault = false ∧
    (s.map.segment? 1).any (·.kind != .deck) = true ∧ s.claims.owed[1]? = some false ∧
    (claiming car.claims.entries []).startWanted = [] ∧
    (let v := claiming [] []
     1 ≤ v.claims.nextTag ∧ v.line.queue.length + v.startWanted.length ≤ 8 ∧ v.startWanted = [1] ∧
     ((at' v).old 0).claimTest 1 1 = none) ∧
    let w : Station := { claiming [] [] with pos := { car.pos with centre := 80500, acc := 80500000 } }
    w.startWanted = [1, 2] ∧ ∀ n ∈ w.startWanted, ((at' w).old 0).claimTest n 2 = none := by decide +kernel

theorem wit_BadFrameIsCounted : (at' car).station.onLine = true ∧ WireFrame.decode [] = none := by decide +kernel

theorem wit_OwnNumberHeardSetsFault : car.onLine = true ∧ car.line.fault = false ∧ 1 ≤ car.par.station ∧
    car.par.station ≤ 29 ∧ FrameKind.claim ≠ .order ∧ car.isCarriage = true := by decide +kernel

theorem wit_BeaconsFillPeerEntries : (at' car).hears 12 ∧ table.isCarriage = false ∧ car.passage.state = .none ∧
    car.claims.lists 2 = false ∧ (inPassage .leaving).passage.state = .leaving := by unfold State.hears; decide +kernel

theorem wit_ClaimTrafficUpdatesPeerTable : (at' car).hears head.src ∧ 13 ≠ head.src ∧ 13 ≠ car.par.station ∧
    1 ≤ 29 ∧ 29 ≠ head.src ∧ 1 ≠ car.par.station := by unfold State.hears; decide +kernel

/-- `car` with an entry for segment 2. -/
def meeting (e : ClaimEntry) : Station := { car with claims := { entries := [e], waitCount := 1 } }

theorem wit_ClaimMeetsOwnEntry : (meeting (own 2 .held .ahead)).map.segment? 2 = some (seg .plain 0 80000 108000) ∧
    SegKind.plain ≠ .deck ∧ (meeting (own 2 .held .ahead)).claims.entry? 2 = some (own 2 .held .ahead) ∧
    (own 2 .held .ahead).holding = true ∧ (own 2 .listening .ahead).holding = false ∧
    (own 2 .listening .ahead).drop = false ∧ (meeting (own 2 .held .ahead)).line.queue.length < 8 ∧
    outranks ⟨1, false⟩ 5 ⟨1, false⟩ 12 = true ∧ outranks ⟨1, false⟩ 5 ⟨2, false⟩ 12 = false := by decide +kernel

/-- An own entry and a peer whose entry has it standing on segment 1, or far from every segment of the own. -/
def doubled (e : ClaimEntry) (stands : Bool) : Station :=
  { meeting e with
    order := { state := .running }
    peers := (Vector.replicate 29 {}).set 11
      { state := .fresh, beaconed := true, frame := .line, line := if stands then 0 else 1, centre := 60000, halfLength := 6000 } }

theorem wit_ObjectionsAndDoubleHoldsAreResolved :
    (at' (meeting (own 2 .listening .ahead))).hears 12 ∧ car.validSeg 2 = true ∧
    (meeting (own 2 .listening .ahead)).claims.entry? 2 = some (own 2 .listening .ahead) ∧
    (own 2 .listening .ahead).drop = false ∧ ({ own 2 .listening .ahead with drop := true } : ClaimEntry).drop = true ∧
    (own 2 .held .ahead).state ≠ .listening ∧ (5 : Nat) = car.par.station ∧ (13 : Nat) ≠ car.par.station ∧
    (doubled (own 1 .held .body) true).claims.entry? 1 = some (own 1 .held .body) ∧
    (doubled (own 1 .held .body) true).ownOccupies 1 = true ∧
    ((doubled (own 1 .held .body) true).peer 12).occupies twoLines 1 = true ∧
    ((doubled (own 1 .held .body) false).peer 12).occupies twoLines 1 = false ∧
    (doubled (own 2 .held .ahead) false).ownOccupies 2 = false ∧
    ((doubled (own 2 .held .ahead) false).peer 12).occupies twoLines 2 = false ∧
    (doubled (own 2 .held .ahead) false).order.state.active = true ∧
    outranks (doubled (own 2 .held .ahead) false).plainRank 5 ⟨0, false⟩ 12 = true ∧
    outranks (doubled (own 2 .held .ahead) false).plainRank 5 ⟨2, false⟩ 12 = false ∧
    (own 2 .yielding .ahead).holding = true ∧ (own 4 .held .deck).purpose = .deck ∧
    (inDeck { deck := .rotating }).tt.deck = .rotating ∧
    outranks ⟨2, false⟩ 1 ⟨1, false⟩ 2 = true ∧ outranks ⟨1, false⟩ 2 ⟨1, false⟩ 3 = true := by
  unfold State.hears; decide +kernel

theorem wit_ObjectionsAndDoubleHoldsAreResolved_bounded : (doubled (own 1 .held .body) true).claims.bounded := by
  unfold ClaimBlock.bounded; decide +kernel

/-- `car` with its centre at 79 500, at rest in WAITING with segment 0 on its trail, asked for segment 2. -/
def blocking (l : LiftState) : Station :=
  { car with pos := { car.pos with centre := 79500, acc := 79500000 }, order := { state := .waiting }, trail := [0]
             lift := { state := l }, claims := { entries := [own 1 .held .body, own 2 .held .body] } }

theorem wit_YieldAskIsAnswered :
    car.validSeg 1 = true ∧ car.line.queue.length < 8 ∧ car.claims.holds 2 = false ∧
    (meeting (own 2 .held .ahead)).claims.entry? 2 = some (own 2 .held .ahead) ∧ (own 2 .held .ahead).pendingYield = none ∧
    outranks ⟨0, false⟩ 12 (meeting (own 2 .held .ahead)).plainRank 5 = false ∧
    outranks ⟨2, false⟩ 12 (meeting (own 2 .held .ahead)).plainRank 5 = true ∧
    (meeting (own 2 .held .ahead)).order.state ≠ .backing ∧ (meeting (own 2 .held .ahead)).overlaps 2 = false ∧
    (own 2 .yielding .ahead).state = .yielding ∧ (inOrder .backing).order.state = .backing ∧
    (own 2 .held .back).purpose = .back ∧ (own 4 .held .deck).purpose = .deck ∧
    (meeting (own 2 .held .ahead)).holdEnd (own 2 .held .ahead) ≤ ((at' car).old 0).ms ∧
    ((at' car).old 0).ms < (meeting (own 2 .held .ahead)).holdEnd { own 2 .held .ahead with wonTime := some 1 } ∧
    ({ table with claims := { entries := [own 3 .held .guard] } } : Station).claims.entry? 3 = some (own 3 .held .guard) ∧
    (blocking .lowered).overlaps 2 = true ∧ (blocking .lowered).map.segment? 2 = some (seg .plain 0 80000 108000) ∧
    ((blocking .lowered).canBack && (blocking .lowered).aheadOfCentre (seg .plain 0 80000 108000)) = true ∧
    ((blocking .raising).canBack && (blocking .raising).aheadOfCentre (seg .plain 0 80000 108000)) = false := by
  decide +kernel

theorem wit_RouteOrdersAreAccepted : car.isCarriage = true ∧
    car.refusal .move ⟨.pad 3, [⟨0, .up, .target⟩]⟩ = none ∧ car.refusal .fetch ⟨.pad 3, [⟨0, .up, .target⟩]⟩ = none ∧
    ({ car with lift := { state := .raised, load := .loaded } } : Station).refusal .place ⟨.pad 3, [⟨0, .up, .target⟩]⟩ =
      none ∧
    ¬((order 5).number = car.order.number ∧ car.order.state ≠ .idle) ∧ car.resolveTarget (.pad 3) = some (0, 60000) := by
  decide +kernel

/-- The legs of RouteOrdersAreAccepted: to a turntable, against the direction shown at rest and under way, and aboard. -/
theorem wit_RouteOrdersAreAccepted_legs :
    let route : List Leg := [⟨0, .up, .turntable 0 2⟩, ⟨1, .up, .target⟩]
    let down : Station := { car with inputs := { confirmed := 3 } }
    let aboard : Station := { inPassage .accepted with pos := { car.pos with frame := .deck }, passage :=
      { state := .accepted, exitArm := 2 } }
    car.refusal .move ⟨.point 1 40000, route⟩ = none ∧ car.pos.frame = .line ∧ car.deckCentreOf ⟨0, .up, .turntable 0 2⟩ =
      some 132000 ∧ car.refusal .move ⟨.point 0 30000, [⟨0, .down, .target⟩]⟩ = none ∧ car.effective = 0 ∧
    Dir.down ≠ car.pos.dir ∧ down.refusal .move ⟨.point 0 30000, [⟨0, .down, .target⟩]⟩ = none ∧ down.effective ≠ 0 ∧
    aboard.refusal .move ⟨.point 1 40000, [⟨1, .up, .target⟩]⟩ = none ∧ aboard.pos.frame = .deck := by decide +kernel

theorem wit_RefusedOrderFillsAnswerSlot : car.refusal .move ⟨.pad 9, [⟨0, .up, .target⟩]⟩ = some (.pad, 0) ∧
    car.refusal .move ⟨.pad 3, [⟨1, .up, .target⟩]⟩ = some (.route, 1) ∧
    (inOrder .running).refusal .move ⟨.pad 3, [⟨0, .up, .target⟩]⟩ = some (.busy, 0) ∧ car.order.state = .idle := by
  decide +kernel

theorem wit_OrdersNotForThisPartAreCounted : car.onLine = true ∧ car.par.station ≤ 29 ∧ badKind (order 5) 9 = true ∧
    badKind ⟨30, 0, 7⟩ 7 = true ∧ table.onLine = true ∧ table.isCarriage = false ∧ (order 0).target = 0 ∧
    (⟨30, 5, 0⟩ : OrderHead).number = 0 := by decide +kernel

theorem wit_HaltStopsTheOrder : (at' (inOrder .running)).orderedToAny (order 0) ∧
    (at' (inOrder .waiting)).orderedToAny (order 5) ∧ (at' (inOrder .loading)).orderedToAny (order 5) ∧
    (at' (inOrder .backing)).orderedToAny (order 5) ∧ (at' (inOrder .stopped)).orderedToAny (order 5) ∧
    (inOrder .done).order.state.resting = true := by
  unfold State.orderedToAny; decide +kernel

theorem wit_ResumeReturnsTheOrder :
    let stopped (l : List Leg) : Station :=
      { car with order := { state := .stopped, resume := some .waiting, route := l, cursor := 1 } }
    let halted (b : Bool) : Station := { car with order := { state := .halted, resume := some .running, haltLine := b } }
    (at' (halted false)).orderedToAny (order 0) ∧ (halted true).line.fault = false ∧
    (stopped [⟨0, .up, .target⟩]).legOnLine = true ∧ (stopped [⟨1, .up, .target⟩]).legOnLine = false ∧
    (inLine { fault := true }).line.fault = true ∧ (at' (inLine { fault := true })).orderedToAny (order 5) := by
  unfold State.orderedToAny; decide +kernel

/-- A turntable in FAULT that holds one guard, with `arm` reported. -/
def deckFaulted (holder : Option Holder) (aboard : Bool) (arm : Nat) : Station :=
  { inDeck { deck := .fault, reason := .timeout, holder := holder, aboard := aboard } with
    inputs := { armAligned := some arm }, claims := { entries := [own 3 .held .guard] } }

/-- The rows of R166: no holder, aboard at the exit arm and elsewhere, not aboard at the entry arm and elsewhere. -/
theorem wit_ResumeLeavesFault :
    (∀ q ∈ ([(none, false, 0), (some ⟨12, 0, 2⟩, true, 2), (some ⟨12, 0, 2⟩, true, 0), (some ⟨12, 0, 2⟩, false, 0),
        (some ⟨12, 0, 2⟩, false, 2)] : List (Option Holder × Bool × Nat)),
      let v := deckFaulted q.1 q.2.1 q.2.2
      (at' v).orderedToAny (order 1) ∧ v.isCarriage = false ∧ v.tt.deck = .fault ∧ v.start.phase = .ready ∧
      v.inputs.armAligned = some q.2.2 ∧ v.inputs.rotationFault = false ∧ v.tt.holder = q.1 ∧ v.tt.aboard = q.2.1 ∧
      v.claims.bounded ∧ own 3 .held .guard ∈ v.claims.entries ∧ 3 ∈ v.guards) ∧
    (at' table).orderedToAny (order 1) ∧ table.isCarriage = false ∧ table.tt.deck ≠ .fault := by
  unfold State.orderedToAny ClaimBlock.bounded; decide +kernel

theorem wit_CancelFailsTheOrder : (at' table).orderedToAny (order 1) ∧ table.isCarriage = false ∧
    (at' (inOrder .running)).orderedToAny (order 0) ∧ (inOrder .running).order.state.active = true ∧
    (inOrder .running).lift.state.atRest = true ∧
    (inLift .raising).lift.returning = false ∧ (inOrder .idle).order.state.active = false ∧
    ({ inOrder .loading with lift := { state := .stoppedMid } } : Station).lift.state = .stoppedMid := by
  unfold State.orderedToAny; decide +kernel

theorem wit_SetPositionPlacesTheCarriage : car.setRefusal 0 120000 = none ∧ (inOrder .waiting).setRefusal 0 0 = none ∧
    car.setRefusal 0 120001 = some .route ∧ car.setRefusal 2 0 = some .route ∧ car.order.state.resting = true ∧
    (inOrder .stopped).setRefusal 0 120000 = none ∧
    ({ car with order := { state := .stopped, reason := .emergency } } : Station).setRefusal 0 0 = none := by decide +kernel

/-- `car` with a wait count, an entry listened for by an earlier SET-POSITION, and these frames queued. -/
def replaced (q : List QueueItem) (held : List HeldItem) : Station :=
  { claiming [own 1 .held .body, { own 3 .listening .body with asker := .setPosition, wonTime := none }] held with
    start := { phase := .ready }, line := { queue := q }, order := { bodyOwed := [3] } }

/-- Placed at 100 000, `replaced` leaves segment 1 and overlaps 2 and 3; at 109 000 segment 4, a DECK, too; station 12 may
hold segment 2; the queue may be full. The body of two segments is a group. -/
theorem wit_SetPositionPlacesTheCarriage_claims :
    (let y := (replaced [] []).placeAt 0 100000 10
     (replaced [] []).setRefusal 0 100000 = none ∧ (replaced [] []).claims.bounded ∧
     y.overlaps 1 = false ∧ y.overlaps 3 = true ∧ y.claims.listens 3 = true ∧ y.bodyWanted = [2] ∧ y.bodyToWin = [2, 3] ∧
     y.line.queue.length + 1 ≤ 8 ∧ y.claimTest 2 1 = none) ∧
    ((replaced [] [⟨2, false⟩]).placeAt 0 100000 10).claimTest 2 1 = some (.heldBy 12) ∧
    (let y := (replaced (List.replicate 8 { frame := .claim 9 0 {} }) []).placeAt 0 100000 10
     8 < y.line.queue.length + y.bodyWanted.length) ∧
    (let y := (car.placeAt 0 100000 10)
     y.bodyWanted = [2, 3] ∧ y.line.queue.length + 2 ≤ 8 ∧ ∀ n ∈ y.bodyWanted, y.claimTest n 2 = none) ∧
    (car.placeAt 0 60000 10).bodyWanted = [] := by unfold ClaimBlock.bounded; decide +kernel

theorem wit_ClearPeerEmptiesTheEntry : car.onLine = true ∧ car.par.station ≤ 29 ∧ (order 5).number ≠ 0 ∧
    (order 5).target = car.par.station ∧ 12 ≠ car.par.station ∧ 29 < 30 ∧ table.isCarriage = false := by decide +kernel

/-- A deck held by station 12, or with station 12 in its queue. -/
def heldBy (d : DeckState) : Turntable := { deck := d, holder := some ⟨12, 0, 2⟩ }

theorem wit_PassageFramesMoveTheDeck :
    (at' (inDeck {})).hears 12 ∧ table.isCarriage = false ∧ table.line.queue.length < 8 ∧ table.start.phase = .ready ∧
    head.role = .carriage ∧ table.armPresent 0 = true ∧ table.armPresent 2 = true ∧ table.tt.holder = none ∧
    12 ∉ table.tt.queue.map (·.station) ∧ table.tt.deck ≠ .fault ∧ table.line.fault = false ∧
    table.tt.queue.length < 8 ∧
    8 ≤ (([1, 2, 3, 4, 6, 7, 8, 9] : List Nat).map fun n => (⟨n, 0, 2, 0⟩ : Request)).length ∧
    (inDeck { deck := .fault }).tt.deck = .fault ∧
    12 ∈ (inDeck { deck := .idle, queue := [⟨12, 0, 2, 0⟩] }).tt.queue.map (·.station) ∧
    (inDeck (heldBy .awaitEntry)).tt.holder = some ⟨12, 0, 2⟩ ∧ (inDeck (heldBy .awaitEntry)).inputs.deckCentred = false ∧
    ({ inDeck (heldBy .awaitEntry) with inputs := { deckCentred := true } } : Station).inputs.deckCentred = true ∧
    (inDeck (heldBy .awaitEntry)).inputs.deckClear = true ∧
    ({ inDeck (heldBy .awaitEntry) with inputs := {} } : Station).inputs.deckClear = false ∧
    (inDeck (heldBy .awaitExit)).tt.deck = .awaitExit ∧ (inDeck (heldBy .fault)).tt.deck = .fault ∧
    (inDeck (heldBy .aboard)).tt.deck = .aboard := by
  unfold State.hears; decide +kernel

/-- `car` asking for arm 0 of turntable 0, which station 1 serves, with these claims. -/
def asking (l : List ClaimEntry) : Station :=
  { car with passage := { state := .asked }, claims := { entries := l }
             peers := (Vector.replicate 29 {}).set 0 { state := .fresh, role := .turntable, beaconed := true } }

/-- Eight entries, none for the deck. -/
def eight : List ClaimEntry := [0, 1, 2, 3, 5, 6, 7, 8].map fun n => own n .held .ahead

theorem wit_GrantOpensThePassage : (at' (asking [])).hears 1 ∧ (asking []).passage.state = .asked ∧
    0 = (asking []).passage.entryArm ∧
    (((at' (asking [])).old 0).heard 1 .turntable .turnAnswer).servesPassage 1 = true ∧
    (asking []).map.deckSegment 0 = some 4 ∧ (asking []).claims.entries.length < 8 ∧ (asking []).pos.frame = .line ∧
    8 ≤ (asking eight).claims.entries.length ∧ (asking eight).claims.lists 4 = false ∧
    (inPassage .granted).passage.state ≠ .asked ∧ (asking []).line.queue.length < 8 ∧
    (asking [own 4 .held .deck]).claims.lists 4 = true ∧
    ({ asking [] with pos := { frame := .deck } } : Station).pos.frame = .deck := by
  unfold State.hears; decide +kernel

/-- `asking` with its passage to arm 2 in state `st`, asked and aboard at time 0, in frame `f` and with a deck shown. -/
def boarding (st : PassageState) (f : Frame) : Station :=
  { asking [own 2 .held .ahead, own 4 .held .deck] with
    pos := { car.pos with frame := f }, passage := { state := st, exitArm := 2, askTime := some 0, aboardTime := some 0 } }
def showing (holder : Nat) (d : DeckState) (arm : Nat) : TurntableBeacon := { holder := holder, deck := d.code, aligned := arm }

/-- The clauses on the serving beacon: 5 is the own number, 1 serves turntable 0, its period 8000 ms has passed at 10 000. -/
theorem wit_BeaconsFillPeerEntries_passage :
    (boarding .asked .line).isCarriage = true ∧ (boarding .asked .line).servingStation 0 = some 1 ∧
    ((boarding .asked .line).peer 1).period = 8000 ∧ 0 + 8000 ≤ (boarding .asked .line).ms ∧
    ¬ 3000 + 8000 ≤ (boarding .asked .line).ms ∧ (boarding .asked .line).line.queue = [] ∧
    (boarding .asked .line).par.station = 5 ∧ (showing 0 .idle 2).queue = [] ∧
    (showing 5 .awaitEntry 0).aligned = (boarding .asked .line).passage.entryArm ∧
    (showing 5 .awaitExit 2).aligned = (boarding .accepted .deck).passage.exitArm ∧
    ([DeckState.fault, .claiming, .rotating].all fun d => (showing 0 .idle 2).deck ≠ d.code) = true ∧
    (showing 0 .rotating 2).deck = DeckState.rotating.code ∧ twoLines.deckSegment 0 = some 4 ∧
    (boarding .asked .line).claims.lists 4 = true ∧ (asking []).claims.lists 4 = false ∧
    (asking eight).claims.lists 4 = false ∧ (twoLines.deck? 0 2).map (·.centre) = some (-12000) ∧
    (twoLines.deck? 0 1) = none ∧ (boarding .aboardSent .deck).pos.frame = .deck ∧
    (boarding .aboardSent .deck).pos.deckTurntable = 0 ∧ (boarding .aboardSent .line).pos.frame ≠ .deck ∧
    (boarding .granted .line).order.state.active = false ∧ (boarding .granted .line).backing = none ∧
    (boarding .aboardSent .deck).claims.bounded ∧
    (∃ e ∈ (boarding .aboardSent .deck).claims.entries, e.state = .held ∧ e.purpose ≠ .deck ∧
      ∃ r ∈ twoLines.railStretches (boarding .aboardSent .deck).pos.line, r.seg = e.seg) ∧
    ∃ e ∈ (boarding .aboardSent .deck).claims.entries, e.state ≠ .listening ∧ e.purpose = .deck := by
  unfold ClaimBlock.bounded; decide +kernel

/-- R171, R33: AWAIT-EXIT shown at arm 2 while ABOARD-SENT releases segment 2 of line 0 and puts the centre at -12 000 on line 1. -/
theorem test_exit_by_beacon :
    (match exec (.turntableBeaconReceived 0 1 (showing 5 .awaitExit 2)) (at' (boarding .aboardSent .deck)) with
     | .next t => (t.station.passage.state, t.station.pos.line, t.station.pos.centre, t.station.claims.entries.map (·.seg))
     | _ => (.none, 0, 0, [])) = (.leaving, 1, -12000, [4]) := by decide +kernel

theorem wit_ExitPlacesCarriageOnExitLine :
    let s : Station := { inPassage .accepted with pos := { frame := .deck } }
    (at' s).hears 1 ∧ s.passage.state = .accepted ∧ s.pos.frame = .deck ∧
    (s.map.deck? s.pos.deckTurntable 2).isSome = true ∧ s.order.state.active = false ∧
    (inPassage .asked).passage.state = .asked ∧ (inPassage .none).passage.state = .none ∧
    (inPassage .aboardSent).passage.state = .aboardSent ∧ s.map.deck? s.pos.deckTurntable 1 = none := by
  unfold State.hears; decide +kernel

theorem wit_OtherTurnAnswersAreTaken : (at' (asking [])).hears 1 ∧ (asking []).passage.state = .asked ∧
    (((at' (asking [])).old 0).heard 1 .turntable .turnAnswer).servingStation 0 = some 1 ∧
    (inPassage .leaving).passage.state ≠ .asked ∧ (at' (inPassage .granted)).hears 1 ∧
    (at' (inPassage .aboardSent)).hears 1 ∧ (at' (inPassage .none)).hears 1 ∧ (at' (inPassage .asked)).hears 1 ∧
    (inPassage .granted).map.deckSegment 0 = some 4 ∧
    (let s : Station := { inPassage .aboardSent with
       appr := { state := .aboardAsked, kind := .deck, attempts := 3 }, order := { state := .running } }
     s.appr.state = .aboardAsked ∧ 3 ≤ s.appr.attempts ∧ s.appr.kind = .deck ∧ s.order.state.active = true) ∧
    (2 : Nat) < 3 ∧ (inPassage .aboardSent).appr.state ≠ .aboardAsked := by
  unfold State.hears; decide +kernel

/-- A beacon at the head of the queue. -/
def beaconItem : QueueItem := { frame := .beacon }

/-- `car` with a beacon to send, quiet for `q` µs. -/
def sending (q : Nat) : Station :=
  { inLine { queue := [beaconItem] } with inputs := { quietSince := some (10000000 - q) } }

/-- The gap of station 5's beacon is 60 + 5 × 30 = 210 µs: at 210 and 3 210 µs it may send, at 211 µs not (R179). -/
theorem wit_SendPointSendsTheHead : (sending 210).onLine = true ∧ (sending 210).line.queue = [beaconItem] ∧
    ((at' (sending 210)).old 0).atSendPoint beaconItem = true ∧
    ((at' (sending 3210)).old 0).atSendPoint beaconItem = true ∧
    ((at' (sending 211)).old 0).atSendPoint beaconItem = false := by decide +kernel

/-- A carriage at a send point with its beacon at the head: place unknown, on the line, on the deck of turntable 0 entered
from arm 0; the answer slot full, the body claim retried, or the order record shown. Beside it a turntable with and without
a holder. The gap of station 1's beacon is 90 µs. -/
theorem wit_SendPointSendsABeacon :
    (∀ f ∈ [Frame.unknown, .line, .deck], ∀ a ∈ [some ⟨7, .done, .none, 0⟩, (none : Option Answer)],
      ∀ retry ∈ [true, false],
      let v := { sending 210 with
        pos := { car.pos with frame := f, deckTurntable := 0, entryArm := 0 }, order := { answer := a }
        start := { phase := .ready, retryMark := retry } }
      v.onLine = true ∧ v.isCarriage = true ∧ v.line.queue = [beaconItem] ∧ ((at' v).old 0).atSendPoint beaconItem = true ∧
      (v.map.deck? v.pos.deckTurntable v.pos.entryArm).isSome = true) ∧
    ∀ h ∈ [none, some (⟨12, 0, 2⟩ : Holder)],
      let v := { inDeck { deck := .aboard, holder := h } with
        line := { queue := [beaconItem] }, inputs := { quietSince := some 9999910 } }
      v.onLine = true ∧ v.isCarriage = false ∧ v.line.queue = [beaconItem] ∧
      ((at' v).old 0).atSendPoint beaconItem = true := by decide +kernel

/-- A CLAIM for segment 2 in flight, sent `n` times. -/
def inFlight (n : Nat) : Station :=
  inLine { queue := [{ frame := .claim 2 0 ⟨0, false⟩, sends := n, inFlight := true }], sending := some [], state := .silent }

theorem wit_EchoesAreJudged : (inFlight 4).onLine = true ∧ (inFlight 4).line.sending = some [] ∧
    inFlight? (inFlight 4).line.queue = some { frame := .claim 2 0 ⟨0, false⟩, sends := 4, inFlight := true } ∧
    (inFlight 4).line.state = .silent ∧ 3 < 4 ∧
    inFlight? [({ beaconItem with sends := 4, inFlight := true } : QueueItem)] =
      some { frame := .beacon, sends := 4, inFlight := true } ∧
    (inLine { state := .recovering }).line.state = .recovering := by decide +kernel

/-- A CLAIM of the body claim in flight, its entry listening with no window yet; a beacon that carries LINE-RECOVERED and a
TURN-CLEAR in flight, on a line that is HEARD. -/
theorem wit_EchoesAreJudgedByKind :
    (let e : ClaimEntry := { seg := 2, state := .listening, purpose := .body, asker := .startup }
     let v := { inFlight 4 with claims := { entries := [e] }, start := { phase := .bodyClaim } }
     v.onLine = true ∧ inFlight? v.line.queue = some { frame := .claim 2 0 ⟨0, false⟩, sends := 4, inFlight := true } ∧
     v.claims.entry? 2 = some e ∧ v.line.fault = false) ∧
    (let x : QueueItem := { beaconItem with sends := 1, inFlight := true }
     let v := inLine { queue := [x], sending := some [], recovered := true, sentRecovered := true }
     v.onLine = true ∧ inFlight? v.line.queue = some x ∧ v.line.state = .heard ∧ v.isCarriage = true) ∧
    (let x : QueueItem := { frame := .turnClear 0, sends := 4, inFlight := true }
     let v := inLine { queue := [x], sending := some [] }
     v.onLine = true ∧ inFlight? v.line.queue = some x) := by decide +kernel

/-- `car` with all three line timers due. -/
def timers (l : LineState) : Station :=
  { inOrder .running with
    line := { state := l, beaconTimer := some 10000, silenceTimer := some 10000, recoveryTimer := some 10000 } }

theorem wit_LineTimersRunOut : (timers .heard).onLine = true ∧ (timers .heard).isCarriage = true ∧
    dueAt (timers .heard).line.beaconTimer ((at' (timers .heard)).old 0).ms = true ∧
    dueAt (timers .heard).line.silenceTimer ((at' (timers .heard)).old 0).ms = true ∧
    (timers .heard).line.state = .heard ∧ (timers .heard).order.state = .running ∧
    dueAt (timers .recovering).line.recoveryTimer ((at' (timers .recovering)).old 0).ms = true ∧
    ({ timers .recovering with order := { state := .halted, haltLine := true, resume := some .running } } :
      Station).order.resume = some .running := by decide +kernel

/-- Seven OBJECT frames before `x`; eight frames in all. -/
def crowded (x : QueueItem) : List QueueItem :=
  (List.range 7).map (fun n => { frame := .object n .holds {} 12 }) ++ [x]

/-- A full queue whose last frame is of each ROUTINE kind, or PROMPT, or in flight; the CLAIM with and without its entry. -/
theorem wit_LineTimersRunOut_offer :
    (∀ f ∈ ([.release [1, 2], .yieldAsk 2 12 1, .turnAsk 0 0 2, .turnClear 0, .turnAboard 0, .claim 2 0 {}] : List OutFrame),
      let x : QueueItem := { frame := f }
      (crowded x).length = 8 ∧ crowded x = (crowded x).take 7 ++ x :: [] ∧ x.prompt = false ∧ x.inFlight = false) ∧
    ((crowded { frame := .claim 2 0 {}, orphan := true }).take 7).length < 8 ∧
    OutFrame.beacon.prompt = true ∧ (OutFrame.claim 2 0 {}).prompt = false ∧
    (∀ y ∈ crowded { frame := .claim 2 0 {}, inFlight := true }, y.prompt = true ∨ y.inFlight = true) ∧
    (meeting { own 2 .listening .ahead with wonTime := none }).claims.entry? 2 =
      some { own 2 .listening .ahead with wonTime := none } := by decide +kernel

/-- No beacon queued, with room and without; one queued, in flight or not. -/
theorem wit_LineTimersRunOut_beacon :
    (∀ y ∈ crowded { frame := .claim 2 0 {} }, y.frame ≠ .beacon) ∧ ([] : List QueueItem).length < 8 ∧
    (∃ y ∈ crowded { frame := .claim 2 0 {} }, y.prompt = false ∧ y.inFlight = false) ∧
    (∀ y ∈ crowded { frame := .claim 2 0 {}, inFlight := true }, y.prompt = true ∨ y.inFlight = true) ∧
    ∀ b ∈ [true, false], let x : QueueItem := { frame := .beacon, inFlight := b, sends := 2 }
      [x, { frame := .claim 2 0 {} }] = [] ++ x :: [{ frame := .claim 2 0 {} }] ∧ x.frame = .beacon ∧
      ∀ y ∈ ([] ++ [{ frame := .claim 2 0 {} }] : List QueueItem), y.frame ≠ .beacon := by decide +kernel

/-- Releases owed for 3, 4 and 90, and a RELEASE that waits with one place, with room, or sent already. -/
def owing (q : List QueueItem) : Station :=
  { car with claims := { owed := (((Vector.replicate 128 false).set 3 true).set 4 true).set 90 true }, line := { queue := q } }

theorem wit_LineTimersRunOut_release :
    ((List.range 128).filter fun n => (owing []).claims.owed[n]? = some true).take 8 = [3, 4, 90] ∧
    (∀ l ∈ [[7, 40], [7, 8, 9, 10, 11, 12, 40]], ∀ full ∈ [true, false],
      let x : QueueItem := { frame := .release l }
      let q := if full then crowded x else [x]
      q = q.dropLast ++ x :: [] ∧ x.sends = 0 ∧ x.inFlight = false ∧ l.length < 8 ∧
      (∀ y ∈ q.dropLast, y.frame.kind ≠ .release) ∧
      (([3, 4, 90].drop (8 - l.length) = []) ↔ l = [7, 40])) ∧
    ({ frame := .release [7], sends := 1 } : QueueItem).sends ≠ 0 ∧ (crowded { frame := .turnClear 0 }).length = 8 := by
  decide +kernel

/-- The owed releases are merged in increasing number, and those past the eighth place are a new RELEASE. -/
theorem test_release_merge :
    (owing [{ frame := .release [7, 8, 9, 10, 11, 12, 40] }]).offerReleases.line.queue.map (·.frame) =
      [.release [3, 7, 8, 9, 10, 11, 12, 40], .release [4, 90]] := by decide +kernel

/-- Parked and not, with the timer near and far; a command that leaves a station parked. -/
theorem wit_LineTimersRunOut_period : 1 ≤ car.par.beacon ∧ car.parked = true ∧ table.parked = true ∧
    (inOrder .running).parked = false ∧
    (let v := { inOrder .running with line := { period := 2000, beaconTimer := some 12000 } }
     v.line.period = 4 * v.par.beacon ∧ v.ms + v.par.beacon < 12000 ∧ ¬v.ms + v.par.beacon < 10500) ∧
    answers (exec (.echoGood 0) (at' (inLine { period := 500 }))) (fun t =>
      t.onLine && t.start.phase = .ready && t.line.period = 2000) = true ∧
    let q := crowded { frame := .turnClear 0, inFlight := true }
    answers (exec (.beaconTimerExpiry 0) (at' (inLine { period := 500, beaconTimer := some 10000, queue := q })))
      (fun t => t.line.beaconDue) = true := by decide +kernel

theorem wit_InputsTakeReportedLevels : 7 ≤ 7 ∧ car.onLine = true ∧
    ({ car with env := { car.env with lastRaise := some 9200 } } : Station).env.lastRaise = some 9200 ∧
    9200 + car.par.dwell ≤ ((at' car).old 0).ms := by decide +kernel

/-- An entry for segment 2 whose window ends at `w`. -/
def window (w : Nat) : ClaimEntry :=
  { seg := 2, state := .listening, purpose := .ahead, asker := .startup, windowEnd := some w }

theorem wit_WindowEndWinsTheClaim : (meeting (window 10000)).onLine = true ∧
    (meeting (window 10000)).claims.entry? 2 = some (window 10000) ∧ (window 10000).state = .listening ∧
    ((at' (meeting (window 10000))).old 0).windowOver (window 10000) = true ∧ (window 10000).drop = false ∧
    (window 10000).asker = .startup ∧
    ({ meeting (window 10000) with start := { phase := .bodyClaim } } : Station).start.phase = .bodyClaim ∧
    ((at' (meeting (window 10001))).old 0).windowOver (window 10001) = false := by decide +kernel

/-- A group of segments 2 and 3 with the drop mark, its windows ended, beside the body. -/
def dropping : Station :=
  let x : ClaimEntry := { window 10000 with tag := 1, drop := true }
  { meeting x with claims := { entries := [own 1 .held .body, x, { x with seg := 3 }] } }

theorem wit_WindowEndWinsTheClaim_drop : let e : ClaimEntry := { window 10000 with tag := 1, drop := true }
    dropping.claims.entry? 2 = some e ∧ e.state = .listening ∧ ((at' dropping).old 0).windowOver e = true ∧ e.drop = true ∧
    dropping.claims.bounded ∧ (∃ x ∈ dropping.claims.entries, e.groupedWith x = true ∧ x.seg = 3 ∧ x.purpose ≠ .deck) ∧
    (∃ x ∈ dropping.claims.entries, e.groupedWith x = false ∧ x.state ≠ .listening) ∧
    answers (exec (.listenWindowEnd 0 2) (at' dropping)) (fun t => t.claims.entries.map (·.seg) = [1] &&
      t.claims.stamps[3]? = some (some 10000)) = true := by
  unfold ClaimBlock.bounded; decide +kernel

/-- A HELD entry with a yield to station 12 pending, won at time 0, so that its limit is at H = 10 s. -/
def yieldDue (n : Nat) : ClaimEntry := { own n .held .ahead with pendingYield := some 12 }

theorem wit_HoldLimitYieldsTheEntry : (meeting (yieldDue 2)).onLine = true ∧
    (meeting (yieldDue 2)).claims.entry? 2 = some (yieldDue 2) ∧ (yieldDue 2).state = .held ∧
    (yieldDue 2).pendingYield = some 12 ∧ (meeting (yieldDue 2)).holdEnd (yieldDue 2) ≤ ((at' (meeting (yieldDue 2))).old 0).ms ∧
    (meeting (yieldDue 2)).overlaps 2 = false ∧ (meeting (yieldDue 1)).overlaps 1 = true ∧
    (meeting (yieldDue 1)).line.queue.length < 8 ∧
    ((at' { meeting (yieldDue 2) with now := 9999999 }).old 0).ms < (meeting (yieldDue 2)).holdEnd (yieldDue 2) := by
  decide +kernel

theorem wit_PeerEntriesAge : car.onLine = true ∧ 1 ≤ 12 ∧ 12 ≤ 29 ∧
    (let e : PeerEntry := { state := .fresh, lastHeard := 0, beaconed := true, period := 500 }
     e.lastHeard + 3 * e.agePeriod ≤ ((at' car).old 0).ms ∧ e.lastHeard + 20 * e.agePeriod ≤ ((at' car).old 0).ms) := by
  decide +kernel

theorem wit_OrderTimersAndPassageAct :
    let s : Station := { inPassage .asked with
      passage := { state := .asked, retryDue := some 10000 }
      order := { state := .waiting, waitStart := some 0, evalTimer := some 10000 }, par := { carriagePar with blockTime := 10 } }
    s.onLine = true ∧ s.isCarriage = true ∧ dueAt s.order.evalTimer ((at' s).old 0).ms = true ∧ s.order.state = .waiting ∧
    s.order.waitStart = some 0 ∧ 0 + s.par.blockTime * 1000 ≤ ((at' s).old 0).ms ∧ s.passage.state = .asked ∧
    dueAt s.passage.retryDue ((at' s).old 0).ms = true ∧ s.line.queue.length < 8 := by decide +kernel

/-- `car` at `centre` on a leg UP line 0 that ends at turntable 0 towards arm 2, its passage in `p`. -/
def nearTable (centre : Int) (p : Passage) : Station :=
  { inOrder .running with
    pos := { car.pos with centre := centre, acc := centre * 1000 }, passage := p
    order := { state := .running, route := [⟨0, .up, .turntable 0 2⟩, ⟨1, .up, .target⟩], cursor := 1 } }

theorem wit_OtherTurnAnswersAreTaken_served : let s := nearTable 110000 { state := .granted, turntable := 0 }
    (at' s).hears 1 ∧ s.passage.state = .granted ∧ s.order.state.active = true ∧ s.backing = none ∧
    s.order.leg? = some ⟨0, .up, .turntable s.passage.turntable 2⟩ ∧
    s.map.arm? 0 Dir.up.atHigh = some (s.passage.turntable, s.passage.entryArm) ∧
    s.appr.state ≠ .aboardAsked ∧ (inPassage .granted).order.state.active = false := by
  unfold State.hears; decide +kernel

theorem wit_GrantOpensThePassage_stop :
    let s : Station := { nearTable 110000 { state := .asked, turntable := 0 } with peers := (asking []).peers }
    let b : Backing := { asker := 12, seg := 2, origin := .waiting, forward := .up, stop := 72490, horizon := 64913 }
    (at' s).hears 1 ∧ s.passage.state = .asked ∧ 0 = s.passage.entryArm ∧
    (((at' s).old 0).heard 1 .turntable .turnAnswer).servesPassage 1 = true ∧
    s.map.deckSegment s.passage.turntable = some 4 ∧ s.claims.lists 4 = false ∧ s.claims.entries.length < 8 ∧
    s.pos.frame ≠ .deck ∧ s.order.leg? = some ⟨0, .up, .turntable 0 2⟩ ∧ s.order.state.active = true ∧
    s.order.legStop = none ∧ s.order.aboardStart = false ∧ s.backing = none ∧
    ({ s with backing := some b } : Station).backing ≠ none := by
  unfold State.hears; decide +kernel

theorem wit_OrderTimersAndPassageAct_passage :
    (nearTable 110000 {}).passage.clearsOwed = [] ∧ (nearTable 110000 {}).passage.state = .none ∧
    (nearTable 110000 {}).order.leg? = some ⟨0, .up, .turntable 0 2⟩ ∧
    twoLines.line? 0 = some ⟨true, 0, 120000, {}, ⟨true, 0, 0⟩⟩ ∧ twoLines.arm? 0 true = some (0, 0) ∧
    (nearTable 110000 {}).pos.frame = .line ∧ (nearTable 110000 {}).line.queue.length < 8 ∧
    120000 ≤ (nearTable 110000 {}).guardedFront + ((nearTable 110000 {}).d 7 + carriagePar.margin : Nat) ∧
    (nearTable 60000 {}).guardedFront + ((nearTable 60000 {}).d 7 + carriagePar.margin : Nat) < 120000 ∧ car.order.leg? = none ∧
    (inPassage .asked).pos.frame ≠ .deck ∧ (inPassage .asked).order.state.active = false ∧
    (let s := nearTable 60000 { state := .asked, turntable := 0, entryArm := 0, exitArm := 2 }
     s.order.state.active = true ∧ s.map.arm? 0 true = some (s.passage.turntable, s.passage.entryArm) ∧
     s.passage.askOwed = false) ∧ (((at' (asking [])).old 0).heard 1 .turntable .turnAnswer).servingStation 0 ≠ none ∧
    (inPassage .granted).onPassageDeck = false ∧ (inPassage .leaving).pos.frame = .line ∧
    (inPassage .leaving).onPassageDeck = false ∧ (inPassage .accepted).passage.state = .accepted ∧
    ({ inPassage .leaving with pos := { frame := .deck } } : Station).pos.frame ≠ .line := by decide +kernel

/-- `table` with every timer due and its deck in `d`, held by station 12. -/
def ttTimers (d : DeckState) : Station := inDeck { heldBy d with
  evalTimer := some 10000, retryTime := some 10000, entryTimer := some 10000, exitTimer := some 10000
  rotationTimer := some 10000 }

theorem wit_TurntableTimersRunOut : let s := ttTimers .awaitEntry
    s.onLine = true ∧ dueAt s.tt.evalTimer ((at' s).old 0).ms = true ∧ dueAt s.tt.retryTime ((at' s).old 0).ms = true ∧
    dueAt s.tt.entryTimer ((at' s).old 0).ms = true ∧ s.tt.holder = some ⟨12, 0, 2⟩ ∧
    (s.map.deck? s.par.turntable 0).isSome = true ∧ s.inputs.deckOccupied = false ∧
    s.holderIn (s.map.deckSegment s.par.turntable) = false ∧ s.holderIn (some 3) = false ∧ s.line.queue.length < 8 ∧
    ({ s with inputs := { deckOccupied := true } } : Station).inputs.deckOccupied = true ∧
    dueAt (ttTimers .awaitExit).tt.exitTimer ((at' (ttTimers .awaitExit)).old 0).ms = true ∧
    dueAt (ttTimers .rotating).tt.rotationTimer ((at' (ttTimers .rotating)).old 0).ms = true := by decide +kernel

/-- Both guards of turntable 0, HELD. -/
def rotatingClaims : ClaimBlock := { entries := [own 3 .held .guard, own 5 .held .guard] }

/-- `table` with `r` queued, its deck in `d`. -/
def serving (d : DeckState) (r : List Request) : Station := inDeck { heldBy d with queue := r, aligned := 0, reason := .none }

theorem wit_TurntableServesItsQueue :
    table.onLine = true ∧ dueAt (ttTimers .idle).tt.evalTimer ((at' (ttTimers .idle)).old 0).ms = true ∧
    (serving .idle [⟨12, 0, 2, 0⟩]).turning = true ∧ (serving .idle []).tt.queue = [] ∧
    (serving .idle [⟨12, 0, 2, 0⟩]).tt.releasePending = false ∧ (serving .idle []).line.fault = false ∧
    (serving .idle []).tt.grantHold = false ∧ (serving .idle []).tt.aligned = 0 ∧ (2 : Nat) ≠ 0 ∧
    (serving .idle []).inputs.deckClear = true ∧ (serving .idle []).guards = [3, 5] ∧
    (serving .idle []).claims.isHeld 3 = false ∧
    ({ serving .claiming [] with claims := rotatingClaims } : Station).guards.filter
      (fun n => !rotatingClaims.isHeld n) = [] ∧
    ({ serving .claiming [] with tt := { heldBy .claiming with purpose := .entry } } : Station).tt.purpose = .entry ∧
    (serving .claiming []).inputs.rotationFault = false ∧
    (serving .claiming []).tt.retryTime = none ∧
    (serving .aboard []).tt.holder = some ⟨12, 0, 2⟩ ∧
    ({ serving .awaitExit [] with
        tt := { (serving .awaitExit []).tt with exitOwed := .toMake, releasePending := true }
        claims := { entries := [{ own 3 .listening .guard with drop := true }] } } : Station).guardReleaseOpen = true ∧
    ({ serving .awaitExit [] with
        tt := { (serving .awaitExit []).tt with exitOwed := .toMake, clearHeard := true } } : Station).tt.exitOwed =
      .toMake := by decide +kernel

/-- A turntable in AWAIT-EXIT as the EXIT stands, with and without TURN-CLEAR heard, the deck clear or not, and the holder
(station 12) seen on the deck or not; the transmit queue empty or full of PROMPT frames. -/
def leaving (owed : ExitOwed) (heard clear onDeck : Bool) (full : Bool := false) : Station :=
  { serving .awaitExit [] with
    tt := { (serving .awaitExit []).tt with exitOwed := owed, clearHeard := heard }, inputs := { deckClear := clear }
    line := { queue := if full then List.replicate 8 { frame := .object 1 .holds ⟨0, false⟩ 12 } else [] }
    peers := (Vector.replicate 29 {}).set 11 (if onDeck then { state := .fresh, frame := .deck, deckTurntable := 0 } else {}) }

/-- In AWAIT-EXIT the deck is left or is not, the EXIT is owed in each way, and the queue has room or has none. -/
theorem wit_TurntableServesItsQueueAwaitExit :
    ∀ o ∈ [ExitOwed.none, .toMake, .toOffer], ∀ h ∈ [true, false], ∀ c ∈ [true, false], ∀ d ∈ [true, false],
      ∀ f ∈ [true, false], let v := leaving o h c d f
      v.turning = true ∧ v.tt.deck = .awaitExit ∧ v.tt.holder = some ⟨12, 0, 2⟩ ∧ v.tt.releasePending = false ∧
      v.map.deckSegment v.par.turntable = some 4 ∧ (v.peer 12).occupies v.map 4 = d ∧
      v.line.queue.length = (if f then 8 else 0) ∧ ∀ y ∈ v.line.queue, y.frame.prompt = true := by decide +kernel

/-- A deck in CLAIMING with both guards HELD, segment 3 listed by station 12 in this freshness. -/
def contested (st : Freshness) : Station :=
  { inDeck { deck := .claiming, target := some 2, purpose := .entry, aligned := 0, reason := .none } with
    claims := rotatingClaims, peers := (Vector.replicate 29 {}).set 11 { state := st, held := [⟨3, false⟩] } }

theorem wit_TurntableServesItsQueueListed : ∀ st ∈ [Freshness.fresh, .stale, .lost, .absent], let v := contested st
    v.turning = true ∧ v.tt.deck = .claiming ∧ v.tt.releasePending = false ∧ 3 ∈ v.guards ∧
    v.guards.filter (fun n => !v.claims.isHeld n) = [] ∧ v.tt.purpose = .entry ∧ v.inputs.deckClear = true ∧
    ((v.peer 12).state ≠ .absent ↔ st ≠ .absent) ∧ 3 ∈ (v.peer 12).held.map (·.seg) := by decide +kernel

/-- A peer that lists a guard keeps the deck in CLAIMING, however old its entry is (R46, R158). -/
theorem test_listed_guard_keeps_claiming : ([.fresh, .stale, .lost, .absent] : List Freshness).map (fun st =>
    (contested st).ttEval.tt.deck) = [.claiming, .claiming, .claiming, .rotating] := by decide +kernel

/-- A GRANT owed in AWAIT-ENTRY or not; NO-ARM with and without a holder at a reported arm. -/
theorem wit_TurntableServesItsQueueOwedAndFault :
    (∀ owed ∈ [true, false], let v := inDeck { heldBy .awaitEntry with grantOwed := owed }
      v.turning = true ∧ v.tt.holder = some ⟨12, 0, 2⟩ ∧ v.tt.aboard = false ∧ v.line.queue.length < 8) ∧
    ∀ h ∈ [none, some (⟨12, 0, 2⟩ : Holder)],
      let v := (deckFaulted h false 0).withTt { deck := .fault, reason := .noArm, holder := h }
      v.turning = true ∧ v.tt.deck = .fault ∧ v.inputs.armAligned = some 0 ∧ v.inputs.rotationFault = false ∧
      v.tt.queue = [] ∧ v.claims.bounded ∧ own 3 .held .guard ∈ v.claims.entries := by
  unfold ClaimBlock.bounded; decide +kernel

/-- `car` at `centre`, on its one leg UP line 0 to 100 000, with these claims, where station 12 holds `held`. -/
def driver (centre : Int) (l : List ClaimEntry) (held : List HeldItem) : Station :=
  { claiming l held with
    start := { phase := .ready }, pos := { car.pos with centre := centre, acc := centre * 1000 }
    claims := { entries := l, waitCount := 1 }
    order := { state := .running, target := .point 0 100000, line := 0, chainage := 100000, legStop := some 100000
               route := [⟨0, .up, .target⟩], cursor := 1 } }

/-- R109: REVOKED leaves the stop point of a TARGET leg, here of an order that drives off the deck still GRANTED. -/
theorem test_revoked_target_leg : let u := driver 60000 [own 1 .held .body] []
    (match exec (.turnAnswerRevoked 0 ⟨1, .turntable⟩ 5 0) (at' { u with passage := { state := .granted } }) with
     | .next t => (t.station.order.legStop, t.station.passage.state)
     | _ => (none, .granted)) = (some 100000, .none) := by decide +kernel

/-- R115, R19: aboard, segment 2 (80 000 to 108 000) lies behind the guarded rear of 132 000 − 6 010 on the entry line. -/
theorem test_release_behind_aboard : let u := driver 132000 [own 2 .held .body] []
    (match exec (.orderEvaluationTimer 0) (at' { u with
        pos := { u.pos with frame := .deck }, order := { u.order with evalTimer := some 10000 } }) with
     | .next t => (t.station.claims.lists 2, t.station.trail)
     | _ => (true, [])) = (false, [2]) := by decide +kernel

theorem wit_OrderUnitClaimsReleasesAndWaits :
    (driver 73000 [own 1 .held .body] []).nearestUnheld = some 2 ∧
    (driver 73000 [own 1 .held .body] []).claimTest 2 1 = none ∧
    (driver 73000 [own 1 .held .body] []).line.queue.length < 8 ∧
    (driver 73000 [own 1 .held .body, own 2 .listening .ahead] []).nearestUnheld = some 2 ∧
    (driver 73000 [own 1 .held .body] [⟨2, false⟩]).claimTest 2 1 = some (.heldBy 12) ∧
    ((driver 73000 [own 1 .held .body] [⟨2, false⟩]).peer 12).state ≠ .lost ∧
    (driver 73000 [own 1 .held .body] [⟨2, false⟩]).holders 2 = [12] ∧
    outranks (driver 73000 [] []).plainRank 5 ⟨0, false⟩ 12 = true ∧ (driver 73000 [] []).order.askTimes[2]? = some none ∧
    (driver 60000 [own 1 .held .body] []).order.leg? = some ⟨0, .up, .target⟩ ∧ car.order.leg? = none ∧
    (driver 95000 [own 1 .held .body, own 2 .held .ahead] []).behindSegs = [1] ∧
    (driver 60000 [own 1 .held .body, own 2 .yielding .ahead] []).pos.frame ≠ .unknown ∧
    (((driver 60000 [own 1 .held .body, own 2 .yielding .ahead] []).dEff + 1500 : Nat) : Int) ≤
      (driver 60000 [own 1 .held .body, own 2 .yielding .ahead] []).dClaim ∧
    (driver 78000 [own 1 .held .body, own 2 .yielding .ahead] []).dClaim < 1500 ∧
    ((twoLines.railStretches 0).map (·.seg)).Nodup ∧
    (let v := driver 73000 [own 1 .held .body] []
     v.order.state = .running ∧ v.effective = 0 ∧ v.appr.state ≠ .attempt ∧ v.driving = true ∧
     v.pClaim ≠ 0 ∧ v.passage.state = .none ∧ v.askWanted = none) ∧
    (let v := driver 75400 [own 1 .held .body] []
     v.pClaim = 0 ∧ v.nearestUnheld = some 2 ∧ v.claims.listens 2 = false) ∧
    (inOrder .waiting).order.state = .waiting := by decide +kernel

theorem wit_OrderUnitClaimsReleasesAndWaits_bounded : (driver 73000 [own 1 .held .body] []).bounded where
  claims := by unfold ClaimBlock.bounded; decide +kernel
  owed := by decide
  peers := by unfold PeerEntry.bounded; decide +kernel
  queue := by unfold LineIf.queueBounded; decide
  counts := by decide
  trail := by decide
  requests := ⟨by decide, by decide, fun _ h => nomatch h⟩

/-- `blocking` asked by station 12 for segment 2, with these popped. -/
def retreat (st : OrderState) (released : Bool) (trail : List Nat) (l : List Popped) : Backing × Station :=
  let b : Backing := { asker := 12, seg := 2, origin := .waiting, forward := .up, stop := 72490, horizon := 64913, popped := l
                       released := released }
  (b, { blocking .lowered with
    pos := { (blocking .lowered).pos with dir := .down }, order := { state := st }, trail := trail, backing := some b })

/-- R130, R135: a BACK claim that is not made in the end clears the claimed mark in BACKING and leaves a STOPPED record. -/
theorem test_stopped_record_keeps_marks : ([.backing, .stopped] : List OrderState).map (fun st =>
      (((retreat st false [0] [{ seg := 1, claimed := true }]).2.tell .backing 1 .notNow).backing.map fun b =>
        b.popped.map (·.claimed))) = [some [false], some [true]] := by decide +kernel

theorem wit_BackingAdvancesAndEnds :
    (retreat .backing false [0] []).2.claims.bounded ∧
    (retreat .backing false [0] []).2.backing = some (retreat .backing false [0] []).1 ∧
    (retreat .backing false [0] []).2.claims.entry? 2 = some (own 2 .held .body) ∧
    (retreat .backing false [0] []).2.guardedHi = 85510 ∧
    (let v : Station := { (retreat .backing false [0] []).2 with pos := { car.pos with centre := 72000, dir := .down } }
     v.guardedHi ≤ 80000 - 1500) ∧
    (retreat .backing true [0] []).2.order.state = .backing ∧
    (retreat .backing true [0] []).2.wantedBack (retreat .backing true [0] []).1 = [1, 2] ∧
    (let w : Backing × Station := retreat .backing true [0] []
     let v : Station := { w.2 with
       pos := { w.2.pos with centre := 48000 }, backing := some { w.1 with horizon := 38000 } }
     v.wantedBack { w.1 with horizon := 38000 } = [0, 1] ∧ v.claims.lists 0 = false ∧ v.trail = [0] ∧
     v.claimTest 0 1 = none ∧ v.line.queue.length < 8) ∧
    ((retreat .backing true [] [{ seg := 0, claimed := true, lost := true }]).1.popped.any (·.lost)) = true ∧
    (retreat .backing true [] [{ seg := 0, claimed := true }]).2.claims.lists 0 = false ∧
    (retreat .backing true [] [{ seg := 0, claimed := true }]).2.env.latch = false ∧
    (retreat .backing true [] [{ seg := 0 }]).2.trail = [] ∧
    (let v : Station := { (retreat .backing true [] [{ seg := 0, claimed := true }]).2 with
       env := { latch := true }, claims := { entries := [own 1 .held .body, own 2 .held .body] } }
     v.env.latch = true ∧ v.claims.lists 0 = false ∧ v.order.state = .backing ∧ v.backingRelease = v ∧
     v.markEntered = v) ∧
    (retreat .backing false [] []).2.overlaps 2 = true ∧ (retreat .backing false [] []).2.effective = 0 ∧
    (retreat .stopped false [0] []).2.order.state = .stopped ∧
    (let w := retreat .backing false [0] []
     w.2.order.state = .backing ∧ w.2.backingRelease = w.2 ∧ w.2.markEntered = w.2) ∧
    (let w : Backing × Station := retreat .backing false [] [{ seg := 0, claimed := true, entered := true }]
     let v (x : Int) : Station := { w.2 with
       pos := { w.2.pos with centre := x }, claims := { entries := [own 0 .held .back, own 2 .held .body] } }
     (v 72490).overlaps 2 = false ∧ (v 72490).overlaps 0 = false ∧ (v 46000).overlaps 0 = true ∧ (v 72490).effective = 0 ∧
     (∃ p ∈ w.1.popped, p.seg = 0 ∧ p.entered = true) ∧ (own 0 .held .back).holding = true ∧
     (v 72490).claims.entry? 2 = some (own 2 .held .body) ∧ (0 : Nat) ≠ w.1.seg) ∧
    (∃ p ∈ (retreat .backing true [] [{ seg := 0, claimed := true }]).1.popped, p.seg = 0 ∧ p.listedBefore = false) ∧
    (0 : Nat) ∉ (retreat .backing true [0] []).2.wantedBack (retreat .backing true [0] []).1 := by
  unfold ClaimBlock.bounded; decide +kernel

theorem wit_TurntablePortIsRead : table.turning = true ∧
    (inDeck { deck := .rotating, target := some 2, purpose := .exit }).turning = true ∧
    (inDeck { deck := .rotating, target := some 2 }).tt.target ≠ some 0 ∧ (inDeck { deck := .fault }).tt.deck = .fault ∧
    some 0 = some table.tt.aligned ∧ none ≠ some table.tt.aligned ∧ table.tt.deck ≠ .rotating := by decide +kernel

/-- In direction UP, 100 000 000 000 µm past the range, and the last µm within it (R22). -/
theorem wit_CountReportMovesTheCentre : car.onLine = true ∧ car.isCarriage = true ∧ car.pos.frame ≠ .unknown ∧
    car.pos.acc + 16160000 * car.par.scale = 4100000000 ∧ 4100000000 < car.pos.acc + 16160001 * car.par.scale ∧
    car.pos.acc + (-640000) * car.par.scale = -100000000 ∧ car.pos.acc + (-640001) * car.par.scale < -100000000 ∧
    (inOrder .running).order.state.active = true ∧ car.order.state.resting = true := by decide +kernel

theorem wit_DriveFaultStopsTheOrder : car.onLine = true ∧ car.isCarriage = true ∧ car.inputs.driveFault = false ∧
    (inOrder .loading).order.state.active = true ∧ OrderState.loading ≠ .stopped ∧
    ({ car with order := { state := .stopped, reason := .emergency } } : Station).order.reason = .emergency ∧
    ({ car with order := { state := .stopped, reason := .conflict } } : Station).order.reason = .conflict := by
  decide +kernel

/-- `driver` 5 mm short of its stop point, its attempt `n` ended, to be checked. -/
def checked (k : StopKind) (n : Nat) : Station :=
  { driver 99995 [] [] with
    appr := { state := .checking, kind := k, stop := 100000, attempts := n, tolerance := 20 }, index := ⟨.active, none⟩ }

theorem wit_InPositionEndsTheAttempt : car.onLine = true ∧ car.isCarriage = true ∧
    ({ car with appr := { state := .attempt } } : Station).appr.state = .attempt ∧
    (driver 99950 [own 2 .held .body] []).stopPoint = some 100000 ∧
    (driver 99950 [] []).env.handedOn = false ∧ ((100000 : Int) - 99950).natAbs ≤ (driver 99950 [] []).d 1 ∧
    (driver 99000 [] []).d 1 < ((100000 : Int) - 99000).natAbs ∧ (driver 99950 [] []).effective = 0 ∧
    (driver 99950 [] []).order.leg? = some ⟨0, .up, .target⟩ ∧ (twoLines.pad? 3).isSome = true ∧
    (checked .pad 1).inputs.confirmed = 0 ∧ (checked .pad 1).index.reading = .active ∧
    (checked .pad 1).appr.attempts < 3 ∧ 3 ≤ (checked .deck 3).appr.attempts ∧ (checked .pad 1).order.state = .running ∧
    (checked .pad 3).order.state.active = true ∧
    ((checked .pad 1).appr.stop - (checked .pad 1).pos.centre).natAbs ≤ 10 := by decide +kernel

/-- `car` about to take marker `n`. -/
def atMarker (n : Nat) : Station := { car with pos := { car.pos with latch := .settling n 10000 } }

theorem wit_IndexAndMarkerAreRead : car.onLine = true ∧ car.isCarriage = true ∧
    ({ car with index := ⟨.settling, some 10000⟩ } : Station).index.reading = .settling ∧
    dueAt (some 10000) ((at' car).old 0).ms = true ∧ car.pos.latch = .idle ∧ car.par.debounce ≠ 0 ∧
    (atMarker 41).pos.latch = .settling 41 10000 ∧ 10000 ≤ ((at' (atMarker 41)).old 0).ms ∧
    (atMarker 9).map.marker? 9 = none ∧ (atMarker 41).pos.frame = .line ∧
    (atMarker 41).map.marker? 41 = some ⟨true, 0, 60020⟩ ∧ 10 < ((60020 : Int) - car.pos.centre).natAbs ∧
    ((60010 : Int) - car.pos.centre).natAbs ≤ car.pos.u ∧ (1 : Nat) ≠ car.pos.line ∧
    ({ car with pos := { car.pos with latch := .taken (some 10000) } } : Station).pos.latch = .taken (some 10000) := by
  decide +kernel

theorem wit_LiftEndsJudgeFetchAndPlace : (inLift .raising).onLine = true ∧ (inLift .raising).isCarriage = true ∧
    (inLift .raising).inputs.atTop = false ∧ (inLift .raising).inputs.atBottom = false ∧
    (inLift .raising).lift.returning = false ∧ (inLift .lowering).lift.returning = false ∧
    ({ car with lift := { state := .raising, returning := true, startRaised := true } } : Station).lift.startRaised = true ∧
    ({ car with lift := { state := .lowering, returning := true } } : Station).lift.startRaised = false := by decide +kernel

/-- A carriage in a lift operation, docked or not: at rest, midway and in travel, its order LOADING or HALTED. -/
theorem wit_LiftTravelsUnderTheInterlock :
    ∀ st ∈ [LiftState.lowered, .raised, .stoppedMid, .raising, .lowering], ∀ os ∈ [OrderState.loading, .halted],
      ∀ k ∈ [OrderKind.fetch, .place], ∀ d ∈ [true, false],
      let v := { inLift st with order := { state := os, kind := k }, appr := { docked := d }
                                lift := { state := st, operation := if k = OrderKind.fetch then .fetch else .place } }
      v.driving = true ∧ v.inputs.confirmed = 0 ∧ v.env.commanded = 0 ∧ v.lift.operation ≠ .none := by decide +kernel

/-- `car` with its lift in travel, the lift timer due, at the top. -/
def lifting : Station :=
  { inLift .raising with lift := { state := .raising, timer := some 10000 }, inputs := { atTop := true } }

theorem wit_LiftFaultsBeginAndEnd : lifting.lift.state ≠ .fault ∧ lifting.inputs.liftFault = false ∧
    dueAt lifting.lift.timer ((at' lifting).old 0).ms = true ∧ lifting.lift.state.travelling = true ∧
    lifting.inputs.atTop = true ∧ ({ lifting with inputs := { atBottom := true } } : Station).inputs.atBottom = true ∧
    lifting.order.state.active = false ∧ (inOrder .loading).order.state.active = true ∧
    (inLift .fault).onLine = true ∧ (inLift .fault).isCarriage = true ∧ (inLift .fault).lift.state = .fault ∧
    (inLift .fault).order.state.resting = true := by decide +kernel

/-- The carriage that climbs from step 0. -/
def climber : Station := { car with order := { state := .running, legStop := some 70000 } }

/-- A record with the write in flight, and one waiting. -/
def record : ParkRecord := parked
def writing (w : Option ParkRecord) : Station := { car with park := { inFlight := some record, waiting := w } }

theorem wit_ParkRecordIsWrittenAndReadBack : (writing none).park.inFlight = some record ∧ (writing none).park.waiting = none ∧
    (writing (some record)).park.waiting = some record ∧ car.park.inFlight = none ∧ record.line < 256 ∧
    -8388608 ≤ record.centre ∧ record.centre < 8388608 ∧
    twoLines.line? record.line = some ⟨true, 0, 120000, {}, ⟨true, 0, 0⟩⟩ := by decide +kernel

/-- A record due at rest, with a write in flight and without; a valid record out when the carriage moves off; the first raise
from step 0; a backing that began at rest. -/
theorem wit_ParkRecordIsAskedFor :
    (∀ w ∈ [none, some record], ∀ out ∈ [true, false],
      let v := { car with park := { due := true, restOpen := true, validOut := out, inFlight := w } }
      v.order.state = .idle ∧ v.inputs.confirmed = 0 ∧ v.pos.frame = .line ∧ v.env.commanded = 0) ∧
    climber.env.commanded = 0 ∧ climber.raiseTest.env.commanded ≠ 0 ∧
    OrderState.idle.resting = true ∧ ({ car with inputs := { confirmed := 1 } } : Station).inputs.confirmed ≠ 0 := by
  decide +kernel

/-! ### The statements about every step -/

theorem wit_bounded : climber.bounded where
  claims := by unfold ClaimBlock.bounded; decide +kernel
  owed := by decide
  peers := fun i => by simp [climber, car, PeerEntry.bounded]
  queue := by unfold LineIf.queueBounded; decide
  counts := by decide
  trail := by decide
  requests := ⟨by decide, by decide, fun _ h => nomatch h⟩

theorem wit_StepKeepsSizes : climber.bounded ∧
    answers (step { station := climber, pending := [.confirmedStepChange 0 0] }) (fun _ => true) = true :=
  ⟨wit_bounded, by decide +kernel⟩

/-- A turntable whose deck rotates over its two guards. -/
def rotating : Station := { inDeck { deck := .rotating, target := some 2 } with claims := rotatingClaims }

theorem wit_rotating : rotating.bounded ∧ rotating.turnSafe ∧ rotating.rotationOutput ≠ none where
  left :=
    { claims := by unfold ClaimBlock.bounded; decide +kernel
      owed := by decide
      peers := fun i => by simp [rotating, inDeck, table, PeerEntry.bounded]
      queue := by unfold LineIf.queueBounded; decide
      counts := by decide
      trail := by decide
      requests := ⟨by decide, by decide, fun _ h => nomatch h⟩ }
  right :=
    ⟨{ guardsOnly := fun _ => by decide +kernel
       noneYet := fun h => absurd h (by decide +kernel)
       rotating := fun _ => by decide +kernel }, by decide +kernel⟩

theorem wit_StepKeepsRotationGuarded :
    answers (step { station := rotating, pending := [.echoGood 0] }) (fun t => t.rotationOutput.isSome) = true ∧
    (contested .absent).tt.deck ≠ .rotating ∧
    answers (step { station := contested .absent, pending := [.deckSensorChange 0 false false true] })
      (fun t => t.tt.deck = .rotating) = true := by decide +kernel

theorem wit_StepWritesOnlyTheParkRecord : (at' (writing none)).station.bootMem.wf = true ∧
    answers (step { station := writing none, pending := [.parkWriteComplete 0] })
      (fun t => t.bootMem.read 3133 = some 2#8) = true := by decide +kernel

/-- The tables of chapter 5 rise with the step. -/
theorem wit_tablesRise : climber.env.tablesRise := by unfold Envelope.tablesRise; decide +kernel

theorem wit_figures : climber.figures where
  u := by decide
  uRef := by decide
  unknown := fun h => nomatch h
  centring := by decide
  tables := wit_tablesRise

theorem wit_StepKeepsFigures :
    answers (step { station := climber, pending := [.countReport 0 4] }) (fun t => 10 < t.pos.u) = true := by decide +kernel

theorem wit_MovingMeansHeldTrack :
    answers (exec (.confirmedStepChange 0 0) (at' climber)) (fun t => 0 < t.env.commanded) = true := by decide +kernel

/-- A run that is broken, with the drive at step 3 or at rest, the latch set or not, the order STOPPED or not active; a run
that is long enough. -/
theorem wit_MovingMeansHeldTrack_emergency :
    (∀ k ∈ [3, 0], ∀ l ∈ [true, false], ∀ st ∈ [OrderState.running, .stopped, .failed],
      let r := runner 3 [own 31 .held .ahead, own 32 .held .ahead]
      let v := { r with inputs := { confirmed := k }, env := { r.env with latch := l }, order := { r.order with state := st } }
      let w := v.applyPending.handOver
      v.driving = true ∧ 0 < max w.env.commanded w.inputs.confirmed ∧ w.pos.frame ≠ .unknown ∧
      w.dHold < (w.dEff : Int)) ∧
    let v := runner 5 [own 30 .held .body, own 31 .held .ahead]
    let w := v.applyPending.handOver
    v.driving = true ∧ v.env.latch = false ∧ ¬w.dHold < (w.dEff : Int) := by decide +kernel

theorem wit_StepsRiseByOneAndTurnsWaitForRest : 1 ≤ climber.par.dwell ∧
    answers (exec (.confirmedStepChange 0 0) (at' climber)) (fun t => climber.env.commanded < t.env.commanded) = true ∧
    answers (exec (.orderMove 0 (order 5) ⟨.point 0 30000, [⟨0, .down, .target⟩]⟩) (at' car))
      (fun t => t.pos.dir ≠ car.pos.dir) = true := by decide +kernel

/-- A marker within U clears DOUBT, SET-POSITION sets it, a lift end changes the load state, FAULT stays. -/
theorem wit_FixedUntilReset :
    answers (exec (.markerDebounceExpiry 0) (at' { atMarker 41 with
      pos := { (atMarker 41).pos with doubt := true, u := 2000 } })) (fun t => !t.pos.doubt) = true ∧
    answers (exec (.orderSetPosition 0 (order 5) 0 60000 10) (at' car)) (fun t => t.pos.doubt) = true ∧
    answers (exec (.atTopChange 0 true true) (at' (inLift .raising))) (fun t => t.lift.load ≠ car.lift.load) = true ∧
    answers (exec (.echoGood 0) (at' (inLine { fault := true }))) (fun t => t.line.fault) = true := by decide +kernel

theorem wit_ClaimAndStopTerms : climber.unheldBelow = false ∧ climber.pos.frame = .line ∧
    ({ car with claims := {} } : Station).unheldBelow = true ∧ car.dStop = none ∧ climber.dStop = some 10000 ∧
    climber.env.handedOn = false ∧ 0 < climber.pClaim ∧ 0 < climber.pStop := by decide +kernel

theorem wit_FramesDecodeAsEncoded :
    WireFrame.fits ⟨5, 0, .carriageBeacon { held := [⟨127, true⟩], centre := -8388608 }⟩ = true ∧
    WireFrame.fits ⟨31, 2, .order 5 65535 (.route .move ⟨.point 7 8388607, List.replicate 27 ⟨7, .down, .turntable 3 3⟩⟩)⟩ =
      true := by decide +kernel

end Sys2Proof.Tests
end

section
/-! PROOFS. The claim term and the stop term (R86, R87) and the cap term (R88) of the motion envelope. -/

namespace Sys2Proof.Machine

/-! ## The greatest step that passes -/

theorem highestBelow_succ (n : Nat) (p : Nat → Bool) :
    highestBelow (n + 1) p = if p n then n else highestBelow n p := by
  simp [highestBelow, List.range_succ]

theorem highestBelow_le (n : Nat) (p : Nat → Bool) : highestBelow n p ≤ n - 1 := by
  induction n with
  | zero => exact Nat.le_refl 0
  | succ n ih =>
    rw [highestBelow_succ]
    split <;> omega

theorem le_highestBelow {n k : Nat} {p : Nat → Bool} (hk : k < n) (hp : p k = true) : k ≤ highestBelow n p := by
  induction n with
  | zero => exact absurd hk (Nat.not_lt_zero k)
  | succ n ih =>
    rw [highestBelow_succ]
    split
    · omega
    · next hn =>
      have hne : k ≠ n := fun e => hn (e ▸ hp)
      exact ih (by omega)

theorem highestBelow_passes {n : Nat} {p : Nat → Bool} (h : 0 < highestBelow n p) : p (highestBelow n p) = true := by
  induction n with
  | zero => exact absurd h (Nat.lt_irrefl 0)
  | succ n ih =>
    rw [highestBelow_succ] at h ⊢
    split
    · assumption
    · next hn => exact ih (by simpa [hn] using h)

/-- The highest step that meets `q`, as R86 and R87 ask for it. -/
theorem highestBelow_eight_spec (q : Nat → Prop) [DecidablePred q] :
    highestBelow 8 (fun k => q k) ≤ 7 ∧ (∀ k, k ≤ 7 → q k → k ≤ highestBelow 8 (fun k => q k)) ∧
    (0 < highestBelow 8 (fun k => q k) → q (highestBelow 8 fun k => q k)) :=
  ⟨highestBelow_le 8 _, fun _ hk hq => le_highestBelow (Nat.lt_succ_of_le hk) (decide_eq_true hq),
    fun h => of_decide_eq_true (highestBelow_passes h)⟩

/-! ## The claim term (R86) -/

theorem Station.pClaim_eq_zero {s : Station} (h : s.unheldBelow = true ∨ s.pos.frame ≠ .line) : s.pClaim = 0 := by
  simp [Station.pClaim, h]

theorem Station.pClaim_eq_highest {s : Station} (hu : s.unheldBelow = false) (hf : s.pos.frame = .line) :
    s.pClaim = highestBelow 8 fun k => ((s.d k + s.par.margin : Nat) : Int) ≤ s.dClaim := by
  simp [Station.pClaim, hu, hf]

/-! ## The stop term (R87) -/

theorem Station.pStop_of_no_stop {s : Station} (h : s.dStop = none) : s.pStop = 0 := by
  simp [Station.pStop, h]

theorem Station.pStop_before_handOn {s : Station} {x : Nat} (hx : s.dStop = some x) (hh : s.env.handedOn = false) :
    s.pStop = highestBelow 8 fun k => s.d k ≤ x := by
  simp [Station.pStop, hx, hh]

theorem Station.pStop_after_handOn {s : Station} {x : Nat} (hx : s.dStop = some x) (hh : s.env.handedOn = true) :
    s.pStop = if s.appr.state = .attempt then 1 else 0 := by
  simp [Station.pStop, hx, hh]

/-- Settles O58: each clause is one case of the two terms; where a term searches, `highestBelow` finds the highest step. -/
theorem claimAndStopTerms : Obligations.ClaimAndStopTerms := by
  intro s
  refine ⟨Station.pClaim_eq_zero, fun hu hf => ?claim, Station.pStop_of_no_stop, fun x hx hh => ?stop,
    fun x => Station.pStop_after_handOn⟩
  case claim =>
    rw [Station.pClaim_eq_highest hu hf]
    exact highestBelow_eight_spec fun k => ((s.d k + s.par.margin : Nat) : Int) ≤ s.dClaim
  case stop =>
    rw [Station.pStop_before_handOn hx hh]
    exact highestBelow_eight_spec fun k => s.d k ≤ x

/-! ## The cap term (R88) -/

/-- The lowest value of the rows that apply, and 7 when none does. -/
def lowestApplying (rows : List (Bool × Nat)) : Nat := ((rows.filter (·.1)).map (·.2)).foldr min 7

theorem lowestApplying_nil : lowestApplying [] = 7 := rfl

theorem lowestApplying_cons (b : Bool) (v : Nat) (rows : List (Bool × Nat)) :
    lowestApplying ((b, v) :: rows) = if b then min v (lowestApplying rows) else lowestApplying rows := by
  cases b <;> rfl

/-- A row of value 0 settles the matter when it applies. -/
theorem lowestApplying_cons_zero (b : Bool) (rows : List (Bool × Nat)) :
    lowestApplying ((b, 0) :: rows) = if b then 0 else lowestApplying rows := by
  rw [lowestApplying_cons, Nat.zero_min]

/-- Rows of equal value count as one row, which applies when either does. -/
theorem lowestApplying_cons_same (a b : Bool) (v : Nat) (rows : List (Bool × Nat)) :
    lowestApplying ((a, v) :: (b, v) :: rows) = lowestApplying ((a || b, v) :: rows) := by
  cases a <;> cases b <;> simp [lowestApplying_cons]

theorem LiftState.not_atRest_eq (l : LiftState) : (!l.atRest) = (l != .lowered && l != .raised) := by
  cases l <;> rfl

theorem SegKind.ne_plain_eq (k : SegKind) : decide (k ≠ .plain) = (k == .guard || k == .deck) := by
  cases k <;> rfl

/-- Settles O59: the tests of `Station.pCap` are the rows of R88 from the top, those of value 0 one by one and those of
value 1 together. -/
theorem capTermIsLowestThatApplies : Obligations.CapTermIsLowestThatApplies := by
  intro s rows
  have order_row : (!(s.order.state = .running || s.order.state = .backing : Bool)) =
      (s.order.state != .running && s.order.state != .backing) := Bool.not_or _ _
  have turntable_row : s.nearTurntable = s.touched.any fun b => b.kind == .guard || b.kind == .deck := by
    simp only [Station.nearTurntable, SegKind.ne_plain_eq]
  change s.pCap = lowestApplying rows
  simp only [rows, lowestApplying_cons_zero]
  simp only [lowestApplying_cons_same]
  rw [lowestApplying_cons, lowestApplying_nil, ← turntable_row, ← order_row, ← LiftState.not_atRest_eq]
  rfl

end Sys2Proof.Machine
end

section
/-! PROOFS. The sizes of the transmit queue (R181, R183) under its operations, said over the kinds of its frames. -/

namespace Sys2Proof.Machine

/-- The kinds of the frames of a queue, in order. -/
def queueKinds (q : List QueueItem) : List FrameKind := q.map (·.frame.kind)

/-- Kinds of a queue that R181 and R183 allow: at most 8, PROMPT before ROUTINE, at most one beacon. -/
structure KindsFit (ks : List FrameKind) : Prop where
  size : ks.length ≤ 8
  classes : ks.Pairwise fun a b => b.prompt = true → a.prompt = true
  beacons : (ks.filter (· = .beacon)).length ≤ 1

theorem KindsFit.sublist {ks ls : List FrameKind} (h : KindsFit ls) (hs : ks.Sublist ls) : KindsFit ks :=
  ⟨hs.length_le.trans h.size, h.classes.sublist hs, (hs.filter _).length_le.trans h.beacons⟩

theorem OutFrame.kind_eq_beacon (f : OutFrame) : f.kind = .beacon ↔ f = .beacon := by
  cases f <;> simp [OutFrame.kind]

/-- A list stands with its `p` members first exactly when no `p` member follows another. -/
theorem eq_filter_append_iff {α : Type} (p : α → Bool) (l : List α) :
    l = l.filter p ++ l.filter (fun x => !p x) ↔ l.Pairwise fun a b => p b = true → p a = true := by
  induction l with
  | nil => simp
  | cons x l ih =>
    cases hx : p x
    · simp only [List.filter_cons, hx, Bool.not_false, if_true, Bool.false_eq_true, if_false, List.pairwise_cons,
        imp_false, Bool.not_eq_true]
      constructor
      · intro h
        have hall : l.filter p = [] := by
          cases hf : l.filter p with
          | nil => rfl
          | cons y ys =>
            rw [hf, List.cons_append, List.cons.injEq] at h
            have hy : p y = true := (List.mem_filter.1 (hf ▸ List.mem_cons_self : y ∈ l.filter p)).2
            rw [← h.1, hx] at hy
            cases hy
        have hnone : ∀ y ∈ l, p y = false := by simpa [List.filter_eq_nil_iff] using hall
        exact ⟨hnone, List.pairwise_of_forall_mem_list fun a _ b hb hp => by simp [hnone b hb] at hp⟩
      · rintro ⟨hnone, -⟩
        have h1 : l.filter p = [] := by simpa [List.filter_eq_nil_iff] using hnone
        have h2 : l.filter (fun x => !p x) = l := by simpa [List.filter_eq_self] using hnone
        rw [h1, h2, List.nil_append]
    · simp only [List.filter_cons, hx, Bool.not_true, Bool.false_eq_true, if_false, if_true, List.cons_append,
        List.cons.injEq, true_and, List.pairwise_cons, implies_true, ih]

/-- The bounds of the queue are bounds of its kinds. -/
theorem LineIf.queueBounded_iff (l : LineIf) : l.queueBounded ↔ KindsFit (queueKinds l.queue) := by
  have hb : ((queueKinds l.queue).filter (· = .beacon)).length = (l.queue.filter (·.isBeacon)).length := by
    have : ((fun k => decide (k = FrameKind.beacon)) ∘ fun x : QueueItem => x.frame.kind) = fun x => x.isBeacon := by
      funext x; simp [QueueItem.isBeacon, OutFrame.kind_eq_beacon]
    rw [queueKinds, List.filter_map, List.length_map, this]
  have hp : (queueKinds l.queue).Pairwise (fun a b => b.prompt = true → a.prompt = true) ↔
      l.queue.Pairwise fun a b => QueueItem.prompt b = true → QueueItem.prompt a = true := List.pairwise_map
  constructor
  · rintro ⟨h1, h2, h3⟩
    exact ⟨by simpa [queueKinds] using h1, hp.2 ((eq_filter_append_iff _ _).1 h2), hb ▸ h3⟩
  · rintro ⟨h1, h2, h3⟩
    exact ⟨by simpa [queueKinds] using h1, (eq_filter_append_iff _ _).2 (hp.1 h2), hb ▸ h3⟩

/-! ## What each operation does to the kinds -/

theorem queueKinds_takeBack (p : OutFrame → Bool) (q : List QueueItem) :
    (queueKinds (takeBack p q)).Sublist (queueKinds q) := by
  induction q with
  | nil => exact .slnil
  | cons x q ih =>
    unfold takeBack at ih ⊢
    rw [List.filterMap_cons]
    split
    · exact ih.cons _
    · next y hy =>
      have hk : y.frame.kind = x.frame.kind := by
        split at hy
        · split at hy
          · cases hy; rfl
          · cases hy
        · cases hy; rfl
      simpa [queueKinds, hk] using ih

theorem queueKinds_withoutInFlight (q : List QueueItem) : (queueKinds (withoutInFlight q)).Sublist (queueKinds q) :=
  List.filter_sublist.map _

theorem queueKinds_map (q : List QueueItem) (f : QueueItem → QueueItem) (hf : ∀ x, (f x).frame = x.frame) :
    queueKinds (q.map f) = queueKinds q := by
  simp [queueKinds, hf, Function.comp_def]

theorem queueKinds_dropLastRoutine {q rest : List QueueItem} {x : QueueItem} (h : dropLastRoutine q = some (x, rest)) :
    (queueKinds rest).Sublist (queueKinds q) ∧ rest.length + 1 = q.length := by
  obtain ⟨a, b, rfl, rfl, -, -⟩ := dropLastRoutine_some h
  exact ⟨((List.Sublist.refl a).append (List.sublist_cons_self x b)).map _, by simp [Nat.add_assoc]⟩

theorem queueKinds_mergeRelease (new : List Nat) (q : List QueueItem) :
    queueKinds (mergeRelease new q).1 = queueKinds q := by
  induction q with
  | nil => rfl
  | cons x q ih =>
    unfold mergeRelease
    split
    · next segs hx =>
      split
      · simp [queueKinds, hx, OutFrame.kind]
      · simpa [queueKinds] using ih
    · simpa [queueKinds] using ih

/-- A frame taken by a queue with a free place keeps the queue within its bounds, where it is not a second beacon. -/
theorem KindsFit.enqueue {q : List QueueItem} {f : OutFrame} (h : KindsFit (queueKinds q)) (hroom : q.length < 8)
    (hb : f = .beacon → q.find? (·.isBeacon) = none) : KindsFit (queueKinds (enqueue q f)) := by
  have hf : ∀ x : QueueItem, f = .beacon → x ∈ q → x.frame.kind ≠ .beacon := fun x e hx hk => by
    have := List.find?_eq_none.1 (hb e) x hx
    simp [QueueItem.isBeacon, (OutFrame.kind_eq_beacon _).1 hk] at this
  have hcount : ((queueKinds q ++ [f.kind]).filter (· = .beacon)).length ≤ 1 := by
    by_cases e : f = .beacon
    · have : (queueKinds q).filter (· = .beacon) = [] := by
        simpa [List.filter_eq_nil_iff, queueKinds] using fun x => hf x e
      simp [List.filter_append, this, e, OutFrame.kind]
    · have : f.kind ≠ .beacon := fun k => e ((OutFrame.kind_eq_beacon f).1 k)
      simpa [List.filter_append, List.filter_cons, this] using h.beacons
  have hqp : q = q.filter (·.prompt) ++ q.filter (fun x => !x.prompt) :=
    (eq_filter_append_iff _ _).2 (List.pairwise_map.1 h.classes)
  have hsort : ∃ l, (queueKinds (Machine.enqueue q f)).Perm l ∧ l = queueKinds q ++ [f.kind] := by
    refine ⟨_, ?_, rfl⟩
    unfold Machine.enqueue
    split
    · conv => rhs; rw [hqp]
      simp only [queueKinds, List.map_append, List.map_cons, List.map_nil, List.append_assoc]
      exact (List.perm_append_comm).append_left _
    · simp [queueKinds]
  obtain ⟨l, hperm, rfl⟩ := hsort
  refine ⟨?_, ?_, ?_⟩
  · have := hperm.length_eq
    simp only [queueKinds, List.length_append, List.length_map, List.length_cons, List.length_nil] at this ⊢
    omega
  · exact List.pairwise_map.2 ((eq_filter_append_iff _ _).1 (enqueue_classes q f hqp))
  · rw [(hperm.filter _).length_eq]; exact hcount

end Sys2Proof.Machine
end

section
/-! PROOFS. What the evaluations after a command are made of: a property that each of their elementary changes keeps is
kept by every block's evaluation, by a round, and by the whole of `Station.settle` (log 3). -/

namespace Sys2Proof.Machine

theorem dropRepeats_nodup {α : Type} [DecidableEq α] (seen l : List α) :
    (dropRepeats seen l).Nodup ∧ ∀ x ∈ dropRepeats seen l, x ∉ seen := by
  induction l generalizing seen with
  | nil => simp [dropRepeats]
  | cons x l ih =>
    unfold dropRepeats
    split
    · exact ih seen
    · next hx =>
      obtain ⟨hn, hm⟩ := ih (x :: seen)
      refine ⟨List.nodup_cons.2 ⟨fun h => hm x h List.mem_cons_self, hn⟩, fun y hy => ?_⟩
      obtain rfl | hy := List.mem_cons.1 hy
      · exact hx
      · exact fun h => hm y hy (List.mem_cons_of_mem _ h)

theorem Station.guards_nodup (s : Station) : s.guards.Nodup := (dropRepeats_nodup [] _).1

/-- The raise test of R91 passes. -/
def Station.mayRaise (s : Station) : Prop :=
  s.env.latch = false ∧ s.env.pendingDir = none ∧ s.inputs.confirmed = s.env.commanded ∧ s.dwellOver = true ∧
  s.env.commanded < s.permitted

/-- One step up (R91). -/
def Station.raised (s : Station) : Station :=
  s.withEnv { s.env with commanded := s.env.commanded + 1, lastRaise := some s.ms }

/-- The drive starts to rotate the deck (R159). -/
def Station.rotated (s : Station) : Station :=
  s.withTt { s.tt with deck := .rotating, rotationTimer := some (s.ms + s.par.rotationTimeout * 1000) }

/-- `P` survives each elementary change that the carriage's evaluations, and most commands, are made of, under what they make
sure of first; the emergency latch is left alone. -/
structure Station.Calm (P : Station → Prop) : Prop where
  passage : ∀ {s : Station} x, P s → P (s.withPassage x)
  appr : ∀ {s : Station} x, P s → P (s.withAppr x)
  backing : ∀ {s : Station} x, P s → P (s.withBacking x)
  park : ∀ {s : Station} x, P s → P (s.withPark x)
  write : ∀ {s : Station} r, P s → P (s.beginWrite r)
  lift : ∀ {s : Station} x, x.load = s.lift.load → P s → P (s.withLift x)
  trail : ∀ {s : Station} l, (s.trail.length ≤ 8 → l.length ≤ 8) → P s → P (s.withTrail l)
  order : ∀ {s : Station} x, (s.order.bodyOwed.Nodup → x.bodyOwed.Nodup) → P s → P (s.withOrder x)
  claims : ∀ {s : Station} x, (s.order.bodyOwed.Nodup → s.claims.bounded → x.bounded) → P s → P (s.withClaims x)
  queue : ∀ {s : Station} q, (KindsFit (queueKinds s.line.queue) → KindsFit (queueKinds q)) → P s → P (s.setQueue q)
  schedule : ∀ {s : Station} timer due period, P s →
    P (s.withLine { s.line with beaconTimer := timer, beaconDue := due, period := period })
  start : ∀ {s : Station} x, x.clamped = s.start.clamped →
    x.phase = s.start.phase ∨ (s.start.phase = .bodyClaim ∧ x.phase = .ready) → P s → P (s.withStart x)
  tt : ∀ {s : Station} x, (s.tt.bounded → x.bounded) → (x.deck = .rotating → s.tt.deck = .rotating) → P s →
    P (s.withTt x)
  env : ∀ {s : Station} x, x.commanded ≤ s.env.commanded → x.lastRaise = s.env.lastRaise →
    x.emptyTable = s.env.emptyTable → x.loadedTable = s.env.loadedTable → x.latch = s.env.latch → P s → P (s.withEnv x)
  raise : ∀ {s : Station}, s.mayRaise → P s → P s.raised
  dir : ∀ {s : Station} d, s.effective = 0 → P s → P (s.setDir d)
  deck : ∀ {s : Station}, P s → P s.enterDeck

/-- `P` survives the changes of the emergency latch too, each of which sets the command to 0 (R94, R95). -/
structure Station.Stable (P : Station → Prop) : Prop extends Station.Calm P where
  latch : ∀ {s : Station} b, P s → P (s.withEnv { s.env with commanded := 0, latch := b })

/-- `P` survives the start of a rotation too, the one elementary change that evaluations alone make. -/
structure Station.EvalStable (P : Station → Prop) : Prop extends Station.Stable P where
  rotate : ∀ {s : Station}, s.turning = true → s.guardsHeld = true → s.guardsFree = true → P s → P s.rotated

/-! ## What is known of a claim request -/

/-- A ROUTINE frame is taken where the queue has a free place, and refused elsewhere (R181). -/
theorem Station.offer_routine (s : Station) {f : OutFrame} (hf : f.prompt = false) :
    s.offer f = if s.line.queue.length < 8 then (s.setQueue (enqueue s.line.queue f), true) else (s, false) := by
  simp [Station.offer, hf, Config.places]

/-- A claim that is made stands last in the list, and its CLAIM last in the queue (R57). -/
theorem Station.makeClaim_taken {s t : Station} {n g : Nat} {p : Purpose} {a : Asker}
    (h : s.makeClaim n p a g = (t, true)) :
    let e : ClaimEntry := { seg := n, purpose := p, asker := a, tag := g, courtesy := s.wouldBeCourteous n }
    t = (s.setEntries (s.claims.entries ++ [e])).setQueue (enqueue s.line.queue (.claim n g (s.entryRank e))) := by
  intro e
  unfold Station.makeClaim at h
  dsimp only at h
  rw [Station.offer_routine _ rfl] at h
  split at h <;> next ho => split at ho <;> simp_all [Station.entryRank, Station.setEntries, e]

theorem Station.claimTest_none {s : Station} {n k : Nat} (h : s.claimTest n k = none) :
    s.claims.lists n = false ∧ s.claims.room k = true := by
  unfold Station.claimTest at h
  split at h
  · cases h
  · split at h
    · cases h
    · split at h
      · cases h
      · next hl =>
        split at h
        · cases h
        · next hr => exact ⟨by simpa using hl, by simpa using hr⟩

theorem ClaimBlock.room_le {c : ClaimBlock} {k : Nat} (h : c.room k = true) : c.entries.length + k ≤ 8 := by
  simp only [ClaimBlock.room, decide_eq_true_eq] at h
  split at h <;> simp [Config.places] at h <;> omega

namespace Station.Calm

variable {P : Station → Prop} {s t : Station} (h : Station.Calm P)
include h

/-! ## The claim list -/

theorem filterEntries (p : ClaimEntry → Bool) (hs : P s) : P (s.setEntries (s.claims.entries.filter p)) :=
  h.claims _ (fun _ ⟨hl, hn, hw⟩ =>
    ⟨(List.length_filter_le ..).trans hl, hn.sublist (List.filter_sublist.map _), hw⟩) hs

theorem editEntries (f : ClaimEntry → ClaimEntry) (hf : ∀ e, (f e).seg = e.seg) (hs : P s) :
    P (s.setEntries (s.claims.entries.map f)) :=
  h.claims _ (fun _ ⟨hl, hn, hw⟩ => ⟨by simpa using hl, by simpa [hf, Function.comp_def] using hn, hw⟩) hs

theorem addEntry (e : ClaimEntry)
    (hfree : s.order.bodyOwed.Nodup → s.claims.bounded → s.claims.lists e.seg = false ∧ s.claims.entries.length < 8)
    (hs : P s) : P (s.setEntries (s.claims.entries ++ [e])) :=
  h.claims _ (fun ho hc => by
    obtain ⟨hnew, hroom⟩ := hfree ho hc
    obtain ⟨hl, hn, hw⟩ := hc
    refine ⟨by simpa using hroom, ?_, hw⟩
    simp only [ClaimBlock.lists, List.any_eq_false, decide_eq_true_eq] at hnew
    simpa [List.nodup_append, hn] using hnew) hs

theorem mapEntry (n : Nat) (f : ClaimEntry → ClaimEntry) (hf : ∀ e, (f e).seg = e.seg) (hs : P s) : P (s.mapEntry n f) :=
  h.editEntries _ (fun e => by split <;> simp [hf]) hs

theorem loseClaim (hs : P s) : P s.loseClaim :=
  h.claims _ (fun _ ⟨hl, hn, hw⟩ => ⟨hl, hn, by dsimp only [bump]; split <;> omega⟩) hs

theorem clearWait (hs : P s) : P s.clearWait := h.claims _ (fun _ ⟨hl, hn, _⟩ => ⟨hl, hn, Nat.zero_le _⟩) hs
theorem setOwed (l : List Nat) (b : Bool) (hs : P s) : P (s.setOwed l b) := h.claims _ (fun _ hc => hc) hs
theorem setReserve (b : Bool) (hs : P s) : P (s.setReserve b) := h.claims _ (fun _ hc => hc) hs
theorem removeDeckEntry (n : Nat) (hs : P s) : P (s.removeDeckEntry n) := h.filterEntries _ hs

theorem aheadToBody (hs : P s) : P s.aheadToBody := h.editEntries _ (fun e => by split <;> rfl) hs
theorem backToBody (l : List Nat) (hs : P s) : P (s.backToBody l) := h.editEntries _ (fun e => by split <;> rfl) hs

/-! ## Answers to the asking blocks -/

theorem enterReady (hp : s.start.phase = .bodyClaim) (hs : P s) : P s.enterReady := h.start _ rfl (.inr ⟨hp, rfl⟩) hs

theorem retryBodyClaim (hp : s.start.phase = .bodyClaim) (hs : P s) : P s.retryBodyClaim := by
  unfold Station.retryBodyClaim
  split
  · exact h.enterReady hp hs
  · exact h.start _ rfl (.inl rfl) hs

theorem markPopped (n : Nat) (f : Popped → Popped) (hs : P s) : P (s.markPopped n f) := by
  unfold Station.markPopped
  split
  · exact hs
  · exact h.backing _ hs

theorem tell (a : Asker) (n : Nat) (r : Told) (hs : P s) : P (s.tell a n r) := by
  unfold Station.tell
  split
  · split
    · next hp => exact h.enterReady hp hs
    · exact hs
  · split
    · next hp => exact h.retryBodyClaim hp hs
    · exact hs
  · split
    · next hp => exact h.retryBodyClaim hp hs
    · exact hs
  · exact h.order _ (fun ho => ho.sublist List.filter_sublist) hs
  · exact h.markPopped _ _ hs
  · exact h.markPopped _ _ hs
  · exact h.tt _ id id hs
  · exact hs

theorem removeGroup (e : ClaimEntry) (hs : P s) : P (s.removeGroup e) :=
  h.queue _ (fun hq => hq.sublist (queueKinds_takeBack _ _)) (h.filterEntries _ hs)

theorem withdrawUnsent (n : Nat) (hs : P s) : P (s.withdrawUnsent n) :=
  h.queue _ (fun hq => hq.sublist (queueKinds_takeBack _ _)) (h.filterEntries _ hs)

theorem abandon (e : ClaimEntry) (hs : P s) : P (s.abandon e) := by
  unfold Station.abandon
  split
  · exact h.tell _ _ _ (h.removeGroup _ hs)
  · exact h.tell _ _ _ (h.loseClaim (h.removeGroup _ hs))

theorem claimNotSent (n : Nat) (hs : P s) : P (s.claimNotSent n) := by
  unfold Station.claimNotSent
  split
  · split
    · exact h.tell _ _ _ (h.removeGroup _ hs)
    · exact hs
  · exact hs

/-! ## The transmit queue -/

theorem oweClear (n : Nat) (hs : P s) : P (s.oweClear n) := by
  unfold Station.oweClear
  split
  · exact hs
  · exact h.passage _ hs

theorem displaced (x : QueueItem) (hs : P s) : P (s.displaced x) := by
  unfold Station.displaced
  split
  · split
    · exact hs
    · exact h.claimNotSent _ hs
  · exact h.setOwed _ _ hs
  · exact h.order _ id hs
  · exact h.passage _ hs
  · exact h.oweClear _ hs
  · exact hs

theorem offer (f : OutFrame) (hb : f = .beacon → s.line.queue.find? (·.isBeacon) = none) (hs : P s) :
    P (s.offer f).1 := by
  unfold Station.offer
  split
  · next hroom => exact h.queue _ (fun hq => hq.enqueue hroom hb) hs
  · split
    · split
      · next x rest hd =>
        obtain ⟨hsub, hlen⟩ := queueKinds_dropLastRoutine hd
        refine h.displaced _ (h.queue _ (fun hq => (hq.sublist hsub).enqueue ?_ fun e => ?_) hs)
        · have : s.line.queue.length ≤ 8 := by simpa [queueKinds] using hq.size
          omega
        · obtain ⟨a, b, hq', rfl, -, -⟩ := dropLastRoutine_some hd
          have := List.find?_eq_none.1 (hb e)
          rw [hq'] at this
          exact List.find?_eq_none.2 fun y hy => this y (by simp at hy ⊢; tauto)
      · exact hs
    · exact hs

theorem send (f : OutFrame) (hb : f ≠ .beacon) (hs : P s) : P (s.send f) := h.offer f (fun e => absurd e hb) hs

theorem object (n : Nat) (k : Objection) (r : Rank) (c : Nat) (hs : P s) : P (s.object n k r c) :=
  h.send _ (by simp) hs

theorem of_offer {f : OutFrame} {b : Bool} (hb : f ≠ .beacon) (ho : s.offer f = (t, b)) (hs : P s) : P t := by
  have := h.offer f (fun e => absurd e hb) hs
  rwa [ho] at this

theorem offerReleases (hs : P s) : P s.offerReleases := by
  unfold Station.offerReleases
  dsimp only
  split
  · exact hs
  · have hq : P (s.setQueue (mergeRelease (s.claims.owedSegs.take Config.places) s.line.queue).1) :=
      h.queue _ (fun hk => by rwa [queueKinds_mergeRelease]) hs
    split
    · exact h.setOwed _ _ hq
    · split
      · next ho => exact h.setOwed _ _ (h.of_offer (by simp) ho hq)
      · next ho => exact h.setOwed _ _ (h.of_offer (by simp) ho hq)

theorem releaseEntry (n : Nat) (hs : P s) : P (s.releaseEntry n) := by
  unfold Station.releaseEntry
  exact h.offerReleases (h.claims _ (fun _ ⟨hl, hn, hw⟩ =>
    ⟨(List.length_filter_le ..).trans hl, hn.sublist (List.filter_sublist.map _), hw⟩) hs)

theorem releaseRequest (n : Nat) (hs : P s) : P (s.releaseRequest n) := by
  unfold Station.releaseRequest
  split
  · exact hs
  · split
    · exact hs
    · split
      · exact h.tell _ _ _ (h.releaseEntry _ hs)
      · exact hs
      · next e _ _ _ _ =>
        have hd := h.editEntries (fun x => if e.groupedWith x then { x with drop := true } else x)
          (fun e => by split <;> rfl) hs
        dsimp only
        split
        · exact h.tell _ _ _ (h.withdrawUnsent _ hd)
        · exact hd

theorem releaseAll (l : List Nat) (hs : P s) : P (s.releaseAll l) :=
  List.foldlRecOn l _ hs fun _ hb n _ => h.releaseRequest n hb

theorem releaseAhead (hs : P s) : P s.releaseAhead := h.releaseAll _ hs

theorem beaconFallsDue (hs : P s) : P s.beaconFallsDue := by
  unfold Station.beaconFallsDue
  split
  · split
    · exact h.schedule _ _ _ hs
    · exact h.schedule s.line.beaconTimer false s.line.period (h.queue _ (fun hq => by
        rwa [queueKinds_map _ (fun y => if y.isBeacon then { y with sends := 0 } else y) fun y => by split <;> rfl]) hs)
  · next hn =>
    have hb := h.offer .beacon (fun _ => hn) hs
    split <;> next ho =>
      rw [ho] at hb
      exact h.schedule _ _ _ hb

theorem queueDueBeacon (hs : P s) : P s.queueDueBeacon := by
  unfold Station.queueDueBeacon
  split
  · exact h.beaconFallsDue hs
  · exact hs

theorem lineEval (hs : P s) : P s.lineEval := by
  have hp : P s.periodEval := by
    unfold Station.periodEval
    dsimp only
    split
    · exact hs
    · split
      · exact h.beaconFallsDue (h.schedule _ _ _ (h.schedule s.line.beaconTimer s.line.beaconDue s.periodNow hs))
      · exact h.schedule _ _ _ hs
  exact h.queueDueBeacon hp

/-! ## Claim requests -/

theorem makeClaim (n : Nat) (p : Purpose) (a : Asker) (g : Nat)
    (hfree : s.order.bodyOwed.Nodup → s.claims.bounded → s.claims.lists n = false ∧ s.claims.entries.length < 8)
    (hs : P s) : P (s.makeClaim n p a g).1 := by
  unfold Station.makeClaim
  dsimp only
  have he := h.addEntry { seg := n, purpose := p, asker := a, tag := g, courtesy := s.wouldBeCourteous n } hfree hs
  split
  · next ho => exact h.of_offer (by simp) ho he
  · next ho => exact h.removeGroup _ (h.of_offer (by simp) ho he)

theorem of_makeClaim {n g : Nat} {p : Purpose} {a : Asker} {b : Bool}
    (hfree : s.order.bodyOwed.Nodup → s.claims.bounded → s.claims.lists n = false ∧ s.claims.entries.length < 8)
    (hm : s.makeClaim n p a g = (t, b)) (hs : P s) : P t := by
  have := h.makeClaim n p a g hfree hs
  rwa [hm] at this

theorem claim (n : Nat) (p : Purpose) (a : Asker) (hs : P s) : P (s.claim n p a).1 := by
  unfold Station.claim
  split
  · exact hs
  · next ht =>
    obtain ⟨hnew, hroom⟩ := Station.claimTest_none ht
    have hfree : s.order.bodyOwed.Nodup → s.claims.bounded →
        s.claims.lists n = false ∧ s.claims.entries.length < 8 := fun _ _ =>
      ⟨hnew, ClaimBlock.room_le hroom⟩
    split <;> next hm => exact h.of_makeClaim hfree hm hs

theorem of_claim {n : Nat} {p : Purpose} {a : Asker} {x : ClaimAnswer} (hc : s.claim n p a = (t, x)) (hs : P s) : P t := by
  have := h.claim n p a hs
  rwa [hc] at this

/-- The members of a group: distinct, none listed, and room for all of them (R63). -/
theorem makeGroup (p : Purpose) (a : Asker) (g : Nat) (l : List Nat)
    (hl : s.order.bodyOwed.Nodup → l.Nodup ∧ (∀ n ∈ l, s.claims.lists n = false) ∧
      s.claims.entries.length + l.length ≤ 8) (hs : P s) : P (s.makeGroup p a g l).1 := by
  induction l generalizing s with
  | nil => exact hs
  | cons n l ih =>
    have hfree : s.order.bodyOwed.Nodup → s.claims.bounded →
        s.claims.lists n = false ∧ s.claims.entries.length < 8 := fun ho _ => by
      obtain ⟨-, hnew, hroom⟩ := hl ho
      exact ⟨hnew n List.mem_cons_self, by simp only [List.length_cons] at hroom; omega⟩
    unfold Station.makeGroup
    split
    · next s1 hm =>
      have hs1 := h.of_makeClaim hfree hm hs
      have he := Station.makeClaim_taken hm
      subst he
      refine ih (fun ho => ?_) hs1
      obtain ⟨hnd, hnew, hroom⟩ := hl ho
      obtain ⟨hn, hnd⟩ := List.nodup_cons.1 hnd
      refine ⟨hnd, fun m hm => ?_, ?_⟩
      · have hne : n ≠ m := fun e => hn (e ▸ hm)
        simpa [ClaimBlock.lists, Station.setEntries, Station.setQueue, hne] using hnew m (List.mem_cons_of_mem _ hm)
      · simp only [List.length_cons] at hroom
        simp [Station.setEntries, Station.setQueue]
        omega
    · next hm => exact h.of_makeClaim hfree hm hs

theorem claimGroup (l : List Nat) (p : Purpose) (a : Asker) (hl : s.order.bodyOwed.Nodup → l.Nodup) (hs : P s) :
    P (s.claimGroup l p a).1 := by
  unfold Station.claimGroup
  split
  · exact hs
  · exact h.claim _ _ _ hs
  · next hne _ =>
    split
    · exact hs
    · next hnone =>
      have htest : ∀ n ∈ sortBy (fun a b => decide (a ≤ b)) l, s.claims.lists n = false ∧
          s.claims.room (sortBy (fun a b => decide (a ≤ b)) l).length = true := fun n hn =>
        Station.claimTest_none (List.findSome?_eq_none_iff.1 hnone n hn)
      have hg := h.makeGroup (s := s.withClaims { s.claims with
          nextTag := stepTag (freshTag s.claims.entries (Config.places + 1) s.claims.nextTag) })
        p a (freshTag s.claims.entries (Config.places + 1) s.claims.nextTag) (sortBy (fun a b => decide (a ≤ b)) l)
        (fun ho => by
          refine ⟨(sortBy_perm _ _).nodup_iff.2 (hl ho), fun n hn => (htest n hn).1, ?_⟩
          cases hm : sortBy (fun a b => decide (a ≤ b)) l with
          | nil => exact absurd hm hne
          | cons n ns => exact ClaimBlock.room_le (hm ▸ (htest n (hm ▸ List.mem_cons_self)).2))
        (h.claims _ (fun _ hc => hc) hs)
      dsimp only
      split <;> next hm =>
        rw [hm] at hg
        exact hg

/-! ## Order, park record, lift -/

theorem requestWrite (r : ParkRecord) (hs : P s) : P (s.requestWrite r) := by
  unfold Station.requestWrite
  split
  · exact h.park _ hs
  · exact h.write _ hs

theorem openPark (hs : P s) : P s.openPark := h.park _ hs

theorem touchPark (hs : P s) : P s.touchPark := by
  unfold Station.touchPark
  split
  · exact h.park _ hs
  · exact hs

theorem parkEval (hs : P s) : P s.parkEval := by
  unfold Station.parkEval
  split
  · exact h.requestWrite _ (h.park _ hs)
  · exact hs

theorem movedOff (hs : P s) : P s.movedOff := by
  unfold Station.movedOff
  have h1 := h.park { s.park with restOpen := false, due := false, validOut := false }
    (h.appr { s.appr with docked := false, dockedPad := none } hs)
  dsimp only
  split
  · exact h.requestWrite _ h1
  · exact h1

theorem stopLift (hs : P s) : P s.stopLift := by
  unfold Station.stopLift
  split
  · exact h.lift _ rfl hs
  · exact hs

theorem stopOrder (r : Reason) (hs : P s) : P (s.stopOrder r) := by
  unfold Station.stopOrder
  split
  · exact hs
  · split
    · split
      · exact h.order _ id hs
      · exact hs
    · exact h.stopLift (h.order _ id hs)

theorem haltWith (f : OrderUnit → OrderUnit) (hf : ∀ o, (f o).bodyOwed = o.bodyOwed) (hs : P s) : P (s.haltWith f) := by
  have hf' : ∀ o, s.order.bodyOwed.Nodup → o.bodyOwed = s.order.bodyOwed → (f o).bodyOwed.Nodup := fun o ho he => by
    rwa [hf, he]
  unfold Station.haltWith
  split
  · exact h.order _ (fun ho => hf' _ ho rfl) hs
  iterate 4 exact h.stopLift (h.order _ (fun ho => hf' _ ho rfl) hs)
  · exact hs

theorem returnTo (st : OrderState) (hs : P s) : P (s.returnTo st) := h.order _ id hs

theorem unhalt (hs : P s) : P s.unhalt := by
  unfold Station.unhalt
  split
  · exact h.returnTo _ hs
  · exact hs

theorem haltForLine (hs : P s) : P s.haltForLine := h.haltWith _ (fun _ => rfl) hs

theorem lineRecovered (hs : P s) : P s.lineRecovered := by
  unfold Station.lineRecovered
  split
  · exact h.unhalt (h.order _ id hs)
  · exact hs

theorem giveUpAttempt (hs : P s) : P s.giveUpAttempt := by
  unfold Station.giveUpAttempt
  split
  · exact h.appr _ hs
  · exact hs

theorem endOrder (st : OrderState) (r : Reason) (hs : P s) : P (s.endOrder st r) :=
  h.openPark (h.clearWait (h.setReserve _ (h.releaseAhead (h.giveUpAttempt (h.lift _ rfl (h.order _ id hs))))))

/-! ## Direction and stop point -/

theorem setPending (d : Option Dir) (hs : P s) : P (s.setPending d) := h.env _ (Nat.le_refl _) rfl rfl rfl rfl hs

theorem requestDirection (d : Dir) (hs : P s) : P (s.requestDirection d) := by
  unfold Station.requestDirection
  split
  · exact h.setPending _ hs
  · split
    · next he => exact h.dir _ he (h.setPending _ hs)
    · exact h.env _ (Nat.zero_le _) rfl rfl rfl rfl hs

theorem applyPending (hs : P s) : P s.applyPending := by
  unfold Station.applyPending
  split
  · split
    · next he => exact h.dir _ he (h.setPending _ hs)
    · exact hs
  · exact hs

theorem dropStop (hs : P s) : P s.dropStop := h.env _ (Nat.le_refl _) rfl rfl rfl rfl hs
theorem freshStop (hs : P s) : P s.freshStop := h.appr _ (h.dropStop hs)

/-! ## The backing rule -/

theorem setBacking (b : Backing) (hs : P s) : P (s.setBacking b) := h.backing _ hs

theorem pushedBack (l : List Nat) (hs : P s) : P (s.withTrail (pushBack s.trail l)) :=
  h.trail _ (fun _ => by simp [pushBack, Config.places]) hs

theorem unwindBacking (b : Backing) (hs : P s) : P (s.unwindBacking b) := by
  unfold Station.unwindBacking
  refine h.requestDirection _ (h.freshStop ?_)
  have h3 := h.pushedBack (b.segs fun p => !p.entered) (h.releaseAll
    ((s.backToBody (b.segs (·.entered))).backEntries (b.segs fun p => !p.entered && !p.listedBefore))
    (h.backToBody (b.segs (·.entered)) hs))
  split
  · exact h3
  · exact h.object _ _ _ _ h3

theorem leaveBacking (b : Backing) (hs : P s) : P (s.leaveBacking b) := by
  unfold Station.leaveBacking
  have h2 := h.order (s := s.withBacking none) { s.order with
    state := b.origin, waitStart := if b.origin = .waiting then some s.ms else none } id (h.backing none hs)
  dsimp only
  split
  · exact h.openPark h2
  · exact h2

theorem failBacking (b : Backing) (hs : P s) : P (s.failBacking b) := h.leaveBacking _ (h.unwindBacking _ hs)

theorem cutBacking (hs : P s) : P s.cutBacking := by
  unfold Station.cutBacking
  split
  · exact h.backing _ (h.unwindBacking _ hs)
  · exact hs

theorem finishBacking (b : Backing) (hs : P s) : P (s.finishBacking b) :=
  h.leaveBacking _ (h.requestDirection _ (h.freshStop (h.pushedBack _ (h.releaseAll _ (h.backToBody _ hs)))))

theorem arriveBacking (hs : P s) : P s.arriveBacking := by
  unfold Station.arriveBacking
  split
  · exact hs
  · split
    · exact h.finishBacking _ hs
    · split
      · exact h.failBacking _ hs
      · exact h.finishBacking _ (h.releaseRequest _ hs)

theorem backingRelease (hs : P s) : P s.backingRelease := by
  unfold Station.backingRelease
  split
  · exact hs
  · split
    · exact hs
    · split
      · exact h.setBacking _ hs
      · split
        · exact h.setBacking _ (h.releaseRequest _ hs)
        · exact hs

theorem markEntered (hs : P s) : P s.markEntered := by
  unfold Station.markEntered
  split
  · exact hs
  · exact h.backing _ hs

theorem askBack (b : Backing) (n : Nat) (hs : P s) : P (s.askBack b n) := by
  unfold Station.askBack
  split
  · next hc => exact h.setBacking _ (h.of_claim hc hs)
  · next hc => exact h.of_claim hc hs
  · exact h.failBacking _ (h.of_claim (by assumption) hs)

theorem backingCases (n : Nat) (hs : P s) : P (s.backingCases n) := by
  induction n generalizing s with
  | zero => exact hs
  | succ n ih =>
    unfold Station.backingCases
    split
    · exact hs
    · split
      · exact hs
      · split
        · exact hs
        · split
          · exact h.askBack _ _ hs
          · split
            · exact h.failBacking _ hs
            · next top rest ht =>
              have h1 : P (s.withTrail rest) := h.trail _ (fun hl => by rw [ht] at hl; simp at hl; omega) hs
              dsimp only
              split
              · exact ih (h.setBacking _ h1)
              · split
                · exact h.askBack _ _ (h.setBacking _ h1)
                · exact h.failBacking _ (h.setBacking _ h1)

theorem backingEval (hs : P s) : P s.backingEval := by
  have h1 := h.markEntered (h.backingRelease hs)
  unfold Station.backingEval
  extract_lets u
  split
  · exact h1
  · split
    · exact h1
    · split
      · exact h1
      · split
        · exact h.failBacking _ h1
        · exact h.backingCases _ h1

/-! ## Final approach -/

theorem startAttempt (hs : P s) : P s.startAttempt := by
  unfold Station.startAttempt
  have h1 := h.env (s := s.withAppr { s.appr with
      state := .attempt, attempts := s.appr.attempts + 1, docked := false, dockedPad := none })
    { s.env with finalStop := some s.appr.stop } (Nat.le_refl _) rfl rfl rfl rfl (h.appr _ hs)
  dsimp only
  split
  · exact h.requestDirection _ h1
  · split
    · exact h.requestDirection _ h1
    · exact h1

theorem handOn (x : Chainage) (hs : P s) : P (s.handOn x) :=
  h.startAttempt (h.appr _ (h.env { s.env with handedOn := true } (Nat.le_refl _) rfl rfl rfl rfl hs))

theorem handOver (hs : P s) : P s.handOver := by
  unfold Station.handOver
  split
  · exact hs
  · split
    · exact h.handOn _ hs
    · exact hs

theorem failAttempt (hs : P s) : P s.failAttempt := by
  unfold Station.failAttempt
  split
  · exact h.startAttempt hs
  · split
    · exact h.appr _ (h.endOrder _ _ hs)
    · exact h.appr _ hs

theorem sendAboard (hs : P s) : P s.sendAboard := h.send _ (by simp) (h.passage _ hs)

theorem endTargetLeg (hs : P s) : P s.endTargetLeg := by
  unfold Station.endTargetLeg
  split
  · exact h.endOrder _ _ hs
  · exact h.lift _ rfl (h.order _ id hs)
  · exact h.lift _ rfl (h.order _ id hs)

theorem approachCheck (hs : P s) : P s.approachCheck := by
  unfold Station.approachCheck
  split
  · split
    · split
      · exact h.endTargetLeg (h.appr _ hs)
      · exact h.failAttempt hs
    · split
      · exact h.endTargetLeg (h.appr _ hs)
      · exact h.failAttempt hs
    · split
      · exact h.deck (h.sendAboard (h.appr _ hs))
      · exact h.failAttempt hs
    · exact h.arriveBacking (h.appr _ hs)
  · exact hs

/-! ## The motion envelope and the lift -/

theorem dropStep (hs : P s) : P s.dropStep := by
  unfold Station.dropStep
  extract_lets top
  split
  · next hlt => exact h.env _ (Nat.le_of_lt hlt) rfl rfl rfl rfl hs
  · exact hs

theorem releaseTest (hs : P s) : P s.releaseTest := by
  unfold Station.releaseTest
  dsimp only
  split
  · exact List.foldlRecOn _ _ hs fun _ hb n _ => h.releaseEntry n hb
  · exact hs

theorem raiseTest (hs : P s) : P s.raiseTest := by
  unfold Station.raiseTest
  split
  · next hr =>
    simp only [Bool.and_eq_true, Bool.not_eq_true', decide_eq_true_eq, Option.isNone_iff_eq_none] at hr
    obtain ⟨⟨⟨⟨hlatch, hpend⟩, hconf⟩, hdwell⟩, hlt⟩ := hr
    have h1 := h.raise ⟨hlatch, hpend, hconf, hdwell, hlt⟩ hs
    dsimp only
    split
    · exact h.movedOff h1
    · exact h1
  · exact hs

theorem withdrawDemand (hs : P s) : P s.withdrawDemand := by
  unfold Station.withdrawDemand
  split
  · exact h.env _ (Nat.le_refl _) rfl rfl rfl rfl hs
  · exact hs

theorem liftEval (hs : P s) : P s.liftEval := by
  unfold Station.liftEval
  split
  · exact hs
  · split
    · split
      · exact h.lift _ rfl hs
      · exact hs
    · exact h.stopLift hs

/-! ## The order unit and the passage side -/

theorem giveStop (g : Leg) (hs : P s) : P (s.giveStop g) := h.order _ id (h.freshStop hs)

theorem beginLeg (hs : P s) : P s.beginLeg := by
  unfold Station.beginLeg
  split
  · exact hs
  · split
    · exact h.requestDirection _ (h.order _ id hs)
    · exact h.requestDirection _ (h.giveStop _ hs)

theorem yieldAsk (n p : Nat) (hs : P s) : P (s.yieldAsk n p) := by
  unfold Station.yieldAsk
  extract_lets
  split
  · split
    · next ho => exact h.order _ id (h.of_offer (by simp) ho hs)
    · next ho => exact h.of_offer (by simp) ho hs
  · exact hs

theorem claimAhead (hs : P s) : P s.claimAhead := by
  unfold Station.claimAhead
  split
  · exact hs
  · split
    · exact hs
    · split
      · next hc =>
        split
        · exact h.of_claim hc hs
        · exact h.yieldAsk _ _ (h.of_claim hc hs)
      · exact h.of_claim (by assumption) hs

theorem releaseBehind (hs : P s) : P s.releaseBehind := by
  unfold Station.releaseBehind
  split
  · exact hs
  · split
    · exact List.foldlRecOn _ _ hs fun _ hb n _ =>
        h.trail _ (fun _ => by simp [pushTrail, Config.places]) (h.releaseRequest n hb)
    · exact hs

theorem firstAsk (hs : P s) : P s.firstAsk := by
  unfold Station.firstAsk
  split
  · exact hs
  · split
    · next ho => exact h.setReserve _ (h.passage _ (h.of_offer (by simp) ho hs))
    · next ho => exact h.of_offer (by simp) ho hs

theorem askAgain (hs : P s) : P s.askAgain := by
  unfold Station.askAgain
  have h1 := h.passage { s.passage with askTime := none, retryDue := none, askOwed := false } hs
  dsimp only
  split
  · next ho => exact h.of_offer (by simp) ho h1
  · next ho => exact h.passage _ (h.of_offer (by simp) ho h1)

theorem clearTo (n : Nat) (hs : P s) : P (s.clearTo n) := by
  unfold Station.clearTo Station.sendClear
  split
  · next ho => exact h.of_offer (by simp) ho hs
  · next ho => exact h.oweClear _ (h.of_offer (by simp) ho hs)

theorem offerClears (hs : P s) : P s.offerClears :=
  List.foldlRecOn _ _ (h.passage _ hs) fun b hb n _ => by
    unfold Station.offerClear
    split
    · exact hb
    · exact h.clearTo _ hb

theorem clearPassage (hs : P s) : P s.clearPassage := by
  unfold Station.clearPassage Station.sendClear
  split
  · next ho => exact h.passage _ (h.setReserve _ (h.removeDeckEntry _ (h.of_offer (by simp) ho hs)))
  · next ho => exact h.of_offer (by simp) ho hs

theorem passageEval (hs : P s) : P s.passageEval := by
  have h1 := h.offerClears hs
  unfold Station.passageEval Station.passageRule
  split
  · exact h.firstAsk h1
  · split
    · exact h.clearPassage h1
    · split
      · exact h.askAgain h1
      · exact h1
  · split
    · exact h.clearPassage h1
    · exact h1
  · split
    · exact h.clearPassage h1
    · exact h1
  · exact h1

theorem waitingTest (hs : P s) : P s.waitingTest := by
  unfold Station.waitingTest
  split
  · split
    · exact h.order _ id hs
    · exact hs
  · split
    · exact hs
    · exact h.order _ id hs
  · exact hs

theorem orderEval (hs : P s) : P s.orderEval := by
  unfold Station.orderEval
  split
  · have h1 := h.passageEval (h.releaseBehind (h.backingEval hs))
    dsimp only
    split
    · exact h.waitingTest (h.claimAhead h1)
    · exact h1
  · exact hs

/-! ## The turntable unit -/

theorem releaseGuards (hs : P s) : P s.releaseGuards := h.tt _ id id (h.releaseAll _ hs)

theorem releaseDone (hs : P s) : P s.releaseDone := by
  unfold Station.releaseDone
  split
  · exact h.tt _ id id hs
  · exact hs

theorem deckFault (r : DeckReason) (hs : P s) : P (s.deckFault r) := h.tt _ id (by simp) hs

theorem deckIdle (hs : P s) : P s.deckIdle := h.tt _ (fun ⟨hl, hn, _⟩ => ⟨hl, hn, by simp⟩) (by simp) hs

theorem offerGrant (hs : P s) : P s.offerGrant := by
  unfold Station.offerGrant
  split
  · exact hs
  · exact h.tt _ id id (h.offer _ (by simp) hs)

theorem offerExit (hs : P s) : P s.offerExit := by
  unfold Station.offerExit
  split
  · exact hs
  · exact h.tt _ id id (h.offer _ (by simp) hs)

theorem makeGrant (r : Request) (rest : List Request) (hq : s.tt.queue = r :: rest) (hs : P s) : P (s.makeGrant r) :=
  h.offerGrant (h.tt _ (fun ⟨hl, hn, _⟩ => by
    rw [hq, List.map_cons, List.nodup_cons] at hn
    obtain ⟨hr, hn⟩ := hn
    rw [hq, List.length_cons] at hl
    refine ⟨by simp [hq]; omega, by simpa [hq] using hn, ?_⟩
    rintro _ ⟨⟩
    simpa [hq] using hr) (by simp) hs)

theorem reoffer (hs : P s) : P s.reoffer := by
  unfold Station.reoffer
  split
  · split
    · exact h.offerGrant hs
    · exact hs
  · split
    · exact hs
    · split
      · exact hs
      · exact h.offerExit (h.tt _ id id hs)
    · split
      · exact hs
      · exact h.offerExit hs
  · exact hs

theorem endRotation (a : Nat) (hs : P s) : P (s.endRotation a) :=
  h.releaseGuards (h.tt _ id (by dsimp only; split <;> simp) hs)

theorem leaveFault (a : Nat) (hs : P s) : P (s.leaveFault a) := by
  unfold Station.leaveFault
  extract_lets _ u
  have h1 : P u := h.releaseGuards (h.tt _ id id hs)
  split
  · exact h.deckIdle h1
  · split
    · split
      · exact h.tt _ id (by simp) h1
      · exact h.tt _ id (by simp) h1
    · split
      · exact h.tt _ id (by simp) h1
      · exact h.tt _ id (by simp) h1

theorem selfClear (hs : P s) : P s.selfClear := by
  unfold Station.selfClear
  split
  · split
    · exact h.leaveFault _ hs
    · exact hs
  · exact hs

end Station.Calm

namespace Station.Stable

variable {P : Station → Prop} {s : Station} (h : Station.Stable P)
include h

theorem raiseEmergency (hs : P s) : P s.raiseEmergency := h.latch true hs

theorem clearLatch (hs : P s) : P s.clearLatch := by
  unfold Station.clearLatch
  split
  · exact h.stopOrder _ (h.latch false hs)
  · exact hs

theorem envEval (hs : P s) : P s.envEval := by
  unfold Station.envEval
  split
  · have h1 := h.handOver (h.applyPending hs)
    dsimp only
    split
    · exact h.withdrawDemand (h.raiseTest (h.releaseTest (h.clearLatch (h.raiseEmergency h1))))
    · exact h.withdrawDemand (h.raiseTest (h.releaseTest (h.clearLatch (h.dropStep h1))))
  · exact hs

end Station.Stable

/-- A part that is READY stays so. -/
theorem Station.ready_stable : Station.Stable fun s => s.start.phase = .ready where
  passage _ hs := hs
  appr _ hs := hs
  backing _ hs := hs
  park _ hs := hs
  write _ hs := hs
  lift _ _ hs := hs
  trail _ _ hs := hs
  order _ _ hs := hs
  claims _ _ hs := hs
  queue _ _ hs := hs
  schedule _ _ _ hs := hs
  start _ _ hp hs := by
    obtain hp | ⟨-, hp⟩ := hp
    · exact hp.trans hs
    · exact hp
  tt _ _ _ hs := hs
  env _ _ _ _ _ _ hs := hs
  latch _ hs := hs
  raise _ hs := hs
  dir _ _ hs := hs
  deck hs := hs

theorem Station.turning_iff (s : Station) : s.turning = true ↔ s.par.role ≠ .carriage ∧ s.start.phase = .ready := by
  simp [Station.turning, Station.isCarriage]

namespace Station.EvalStable

variable {P : Station → Prop} {s : Station} (h : Station.EvalStable P)
include h

theorem startRotation (ht : s.turning = true) (hs : P s) : P s.startRotation := by
  obtain he | ⟨hheld, hfree, -, he⟩ := s.startRotation_cases
  · rwa [he]
  · rw [he]
    split
    · exact h.deckFault _ hs
    · exact h.rotate ht hheld hfree hs

theorem claimGuards (ht : s.turning = true) (hs : P s) : P s.claimGuards := by
  unfold Station.claimGuards
  dsimp only
  split
  · exact h.startRotation ht hs
  · split
    · exact hs
    · split
      · exact hs
      · exact h.claimGroup _ _ _ (fun _ => (Station.guards_nodup _).sublist List.filter_sublist) (h.tt _ id id hs)

theorem beginClaim (a : Nat) (p : RotationPurpose) (ht : s.turning = true) (hs : P s) : P (s.beginClaim a p) :=
  h.claimGuards ht (h.tt _ id (by simp) hs)

theorem serve (ht : s.turning = true) (hs : P s) : P s.serve := by
  unfold Station.serve
  split
  · exact hs
  · next hq =>
    split
    · exact hs
    · split
      · exact h.makeGrant _ _ hq hs
      · split
        · exact h.beginClaim _ _ ht hs
        · exact hs

theorem ttEval (hs : P s) : P s.ttEval := by
  unfold Station.ttEval
  split
  · next ht =>
    extract_lets u
    have h1 : P u := h.selfClear (h.reoffer (h.releaseDone hs))
    have hu : u.turning = true := by
      obtain ⟨hrole, hphase⟩ := s.turning_iff.1 ht
      have hst : u.steady = s.steady := by simp [u]
      have hpar : u.par = s.par := (congrArg Station.par hst : u.steady.par = s.steady.par)
      refine u.turning_iff.2 ⟨by rwa [hpar], ?_⟩
      exact Station.ready_stable.selfClear (Station.ready_stable.reoffer (Station.ready_stable.releaseDone hphase))
    split
    · exact h.serve hu h1
    · exact h.claimGuards hu h1
    · split
      · split
        · exact h1
        · exact h.beginClaim _ _ hu h1
      · exact h1
    · split
      · exact h.deckIdle h1
      · exact h1
    · exact h1
  · exact hs

/-! ## Rounds -/

/-- A round ends with the evaluation of the line interface (R183, R186). -/
theorem round_lineEval (old : Station) (ev : Events) (hs : P s) : ∃ x, P x ∧ Station.round old s ev = x.lineEval := by
  unfold Station.round
  extract_lets s1 s2 s3 s4 s5
  have h1 : P s1 := by
    simp only [s1]
    split
    · refine h.liftEval (h.approachCheck ?_)
      unfold Station.extentEval
      split
      · exact hs
      · exact h.aheadToBody hs
    · exact hs
  have h2 : P s2 := by
    simp only [s2, Station.envRound]
    split
    · exact h.envEval h1
    · exact h1
  have h3 : P s3 := by
    simp only [s3, Station.orderRound]
    split
    · exact h.orderEval h2
    · exact h2
  have h4 : P s4 := by
    simp only [s4, Station.ttRound]
    split
    · exact h.ttEval h3
    · exact h3
  have h5 : P s5 := h.offerReleases h4
  refine ⟨_, ?_, rfl⟩
  split
  · exact h.parkEval h5
  · exact h5

theorem round (old : Station) (ev : Events) (hs : P s) : P (Station.round old s ev) := by
  obtain ⟨x, hx, hround⟩ := h.round_lineEval old ev hs
  rw [hround]
  exact h.lineEval hx

theorem rounds (n : Nat) (old : Station) (ev : Events) (hs : P s) : P (Station.rounds n old s ev) := by
  induction n generalizing old s ev with
  | zero => exact hs
  | succ n ih =>
    unfold Station.rounds
    dsimp only
    split
    · exact h.round _ _ hs
    · exact ih _ _ (h.round _ _ hs)

theorem finalDrop (hs : P s) : P s.finalDrop := by
  unfold Station.finalDrop
  split
  · exact h.dropStep hs
  · exact h.env _ (Nat.zero_le _) rfl rfl rfl rfl hs

/-- What every elementary change keeps, the evaluations after a command keep. -/
theorem settle (old : Station) (ev : Events) (hs : P s) : P (Station.settle old s ev) := by
  unfold Station.settle
  split
  · exact h.finalDrop (h.rounds _ _ _ hs)
  · exact h.finalDrop hs

end Station.EvalStable
end Sys2Proof.Machine
end

section
/-! PROOFS. What the 68 commands are made of: a property that each elementary change of a command and of the evaluations keeps
is kept by every command. -/

namespace Sys2Proof

/-! ## Which commands make a change of their own -/

/-- The command is a report that gives the position anew, or sets DOUBT: a count report, a marker, SET-POSITION. -/
def Instr.places : Instr → Prop
  | .countReport .. | .markerPresentChange .. | .markerDebounceExpiry .. | .orderSetPosition .. => True
  | _ => False

/-- The command may take a marker report (R25). -/
def Instr.marks : Instr → Prop
  | .markerPresentChange .. | .markerDebounceExpiry .. => True
  | _ => False

/-- The command may make the EXIT transfer (R33, R171). -/
def Instr.exits : Instr → Prop
  | .turnAnswerExit .. | .turntableBeaconReceived .. => True
  | _ => False

/-- The command may end a travel of the lift (R145, R146). -/
def Instr.endsLift : Instr → Prop
  | .atTopChange .. | .atBottomChange .. => True
  | _ => False

/-- The command reports the confirmed step (R92). -/
def Instr.confirms : Instr → Prop
  | .confirmedStepChange .. => True
  | _ => False

/-- The command is a reset (R188). -/
def Instr.resets : Instr → Prop
  | .resetAsserted .. => True
  | _ => False

/-- The command ends BOOT-READ (R189). -/
def Instr.boots : Instr → Prop
  | .bootReadComplete .. => True
  | _ => False

end Sys2Proof

namespace Sys2Proof.Machine

/-! ## Figures of a position, and sizes of a peer entry -/

/-- U and U_ref lie in their range, and U is 2000 mm in frame UNKNOWN (R18, R23). -/
structure Position.Fits (p : Position) : Prop where
  u : 10 ≤ p.u ∧ p.u ≤ 2000
  uRef : 10 ≤ p.uRef ∧ p.uRef ≤ 2000
  unknown : p.frame = .unknown → p.u = 2000

theorem computeU_fits (f : Frame) {r : Nat} (t d : Nat) (hr : 10 ≤ r) :
    10 ≤ computeU f r t d ∧ computeU f r t d ≤ 2000 ∧ (f = .unknown → computeU f r t d = 2000) := by
  cases f <;> simp [computeU, Config.uMax] <;> omega

theorem Position.fits_recompute {p : Position} (d : Nat) (hr : 10 ≤ p.uRef ∧ p.uRef ≤ 2000) : (p.recompute d).Fits := by
  obtain ⟨h1, h2, h3⟩ := computeU_fits p.frame p.travel d hr.1
  exact ⟨⟨h1, h2⟩, hr, h3⟩

theorem PeerEntry.bounded_default : PeerEntry.bounded {} := by simp [PeerEntry.bounded]

theorem PeerEntry.bounded_refresh {e : PeerEntry} (r : Role) (n : Nat) (h : e.bounded) : (e.refresh r n).bounded := by
  unfold PeerEntry.refresh
  dsimp only
  split
  · exact h
  · exact PeerEntry.bounded_default

theorem dropRepeats_length {α : Type} [DecidableEq α] (seen l : List α) : (dropRepeats seen l).length ≤ l.length := by
  induction l generalizing seen with
  | nil => simp [dropRepeats]
  | cons x l ih =>
    unfold dropRepeats
    split
    · exact (ih seen).trans (Nat.le_succ _)
    · simpa using ih (x :: seen)

theorem knownHeld_length (m : TrackMap) (l : List HeldItem) : (knownHeld m l).length ≤ 8 := by
  have h1 := dropRepeats_length [] ((l.take Config.places).map (·.seg))
  have h2 : (l.take Config.places).length ≤ 8 := by simp [Config.places]
  refine (List.length_filter_le ..).trans ((List.length_filterMap_le ..).trans ?_)
  simp only [List.length_map] at h1
  omega

theorem PeerEntry.bounded_takeHeld {e : PeerEntry} (m : TrackMap) (l : List HeldItem) (h : e.bounded) :
    (e.takeHeld m l).bounded :=
  ⟨knownHeld_length m l, (List.length_filter_le ..).trans h.2.1, h.2.2⟩

theorem PeerEntry.bounded_takeCarriage {e : PeerEntry} (m : TrackMap) (b : CarriageBeacon) (h : e.bounded) :
    (e.takeCarriage m b).bounded := PeerEntry.bounded_takeHeld m b.held h

theorem PeerEntry.bounded_takeTurntable {e : PeerEntry} (m : TrackMap) (b : TurntableBeacon) (h : e.bounded) :
    (e.takeTurntable m b).bounded := by
  obtain ⟨hh, hn, -⟩ := PeerEntry.bounded_takeHeld m b.held h
  refine ⟨hh, hn, (dropRepeats_length _ _).trans ((List.length_filter_le ..).trans ?_)⟩
  simp [Config.places]

theorem PeerEntry.bounded_dropNotes {e : PeerEntry} (p : Nat → Bool) (h : e.bounded) : (e.dropNotes p).bounded :=
  ⟨h.1, (List.length_filter_le ..).trans h.2.1, h.2.2⟩

theorem dropEarliest_length {l : List Note} (h : l ≠ []) : (dropEarliest l).length + 1 = l.length := by
  unfold dropEarliest
  have hp := sortBy_perm (fun a b : Note => decide (a.expiry ≤ b.expiry)) l
  split
  · next hs => exact absurd (hp.symm.trans (hs ▸ .refl _)).eq_nil h
  · next x _ hs =>
    have hx : x ∈ l := hp.subset (hs ▸ List.mem_cons_self)
    rw [List.length_erase_of_mem hx]
    have := List.length_pos_of_mem hx
    omega

theorem PeerEntry.bounded_takeClaim {e : PeerEntry} (m : TrackMap) (n : Nat) (r : Rank) (x : Nat) (h : e.bounded) :
    (e.takeClaim m n r x).bounded := by
  obtain ⟨hh, hn, hq⟩ := h
  unfold PeerEntry.takeClaim
  dsimp only
  split
  · exact ⟨hh, hn, hq⟩
  · split
    · exact ⟨hh, hn, hq⟩
    · refine ⟨hh, ?_, hq⟩
      have hrest := (List.length_filter_le (fun t : Note => t.seg ≠ n) e.notes).trans hn
      dsimp only
      rw [List.length_append]
      split
      · next hlt => simpa [Config.places] using hlt
      · next hge =>
        have hne : e.notes.filter (fun t => t.seg ≠ n) ≠ [] := fun e0 => hge (by rw [e0]; decide)
        have := dropEarliest_length hne
        simp only [List.length_cons, List.length_nil]
        omega

theorem PeerEntry.bounded_takeHolds {e : PeerEntry} (m : TrackMap) (n : Nat) (h : e.bounded) : (e.takeHolds m n).bounded := by
  have h1 := PeerEntry.bounded_dropNotes (· = n) h
  unfold PeerEntry.takeHolds
  dsimp only
  split
  · exact h1
  · obtain ⟨hh, hn, hq⟩ := h1
    refine ⟨?_, hn, hq⟩
    dsimp only
    rw [List.length_append]
    split
    · next hlt => simpa [Config.places] using hlt
    · simp only [List.length_tail, List.length_cons, List.length_nil]
      omega

theorem PeerEntry.bounded_takeRelease {e : PeerEntry} (l : List Nat) (h : e.bounded) : (e.takeRelease l).bounded :=
  ⟨(List.length_filter_le ..).trans h.1, (List.length_filter_le ..).trans h.2.1, h.2.2⟩

theorem PeerEntry.bounded_expireNotes {e : PeerEntry} (n x : Nat) (h : e.bounded) : (e.expireNotes n x).bounded :=
  ⟨h.1, (List.length_filter_le ..).trans h.2.1, h.2.2⟩

theorem PeerEntry.bounded_age {e : PeerEntry} (k x : Nat) (a b : Freshness) (h : e.bounded) : (e.age k x a b).bounded := by
  unfold PeerEntry.age
  split <;> exact h

/-! ## The elementary changes of the commands -/

/-- The phases in which the line interface is in use (R173). -/
def Phase.online : Phase → Bool
  | .listenIn | .bodyClaim | .ready => true
  | _ => false

theorem Station.onLine_eq (s : Station) : s.onLine = s.start.phase.online := by
  unfold Station.onLine
  cases s.start.phase <;> rfl

/-- `P` survives, besides the changes of an evaluation, a frame counted as bad and the return from DECK to LINE. -/
structure Station.PassageStable (P : Station → Prop) : Prop extends Station.Stable P where
  line : ∀ {s : Station} x, x.queue = s.line.queue →
    (s.line.badCount ≤ 255 ∧ s.line.resendCount ≤ 255 → x.badCount ≤ 255 ∧ x.resendCount ≤ 255) →
    (s.line.fault = true → x.fault = true) → P s → P (s.withLine x)
  pos : ∀ {s : Station} p, p.dir = s.pos.dir → p.doubt = s.pos.doubt → (s.pos.Fits → p.Fits) → P s → P (s.withPos p)

/-- `P` survives the EXIT transfer's change of place. -/
def Station.PassageStable.Exits (P : Station → Prop) : Prop :=
  ∀ {s : Station} p, p.doubt = s.pos.doubt → (10 ≤ s.par.centring ∧ s.par.centring ≤ 1000 → p.Fits) → P s → P (s.withPos p)

namespace Station.PassageStable

variable {P : Station → Prop} {s : Station} (h : Station.PassageStable P)
include h

theorem countBad (hs : P s) : P s.countBad :=
  h.line _ rfl (fun ⟨_, hr⟩ => ⟨by dsimp only [bump]; split <;> omega, hr⟩) id hs

theorem makeDeckEntry (n : Nat) (hs : P s) : P (s.makeDeckEntry n).1 := by
  unfold Station.makeDeckEntry
  split
  · exact hs
  · split
    · exact hs
    · next hl =>
      split
      · next hlen => exact h.addEntry _ (fun _ _ => ⟨by simpa using hl, hlen⟩) hs
      · exact hs

theorem regiveDeckStop (hs : P s) : P s.regiveDeckStop := by
  unfold Station.regiveDeckStop
  split
  · split
    · split
      · exact h.order _ id hs
      · exact h.giveStop _ hs
    · exact hs
  · exact hs

theorem takeGrant (hs : P s) : P s.takeGrant := by
  unfold Station.takeGrant
  have hd := h.makeDeckEntry s.passage.turntable hs
  split
  · next s1 hm =>
    rw [hm] at hd
    have h2 := h.passage { s1.passage with retryDue := none, askOwed := false } (h.setReserve false hd)
    dsimp only
    split
    · exact h.sendAboard h2
    · exact h.regiveDeckStop (h.passage _ h2)
  · next hm =>
    rw [hm] at hd
    exact h.passage _ (h.setReserve _ (h.clearTo _ hd))

theorem backToLine (hs : P s) : P s.backToLine := by
  unfold Station.backToLine
  split
  · exact h.pos _ rfl rfl (fun hp => Position.fits_recompute _ hp.uRef) hs
  · exact hs

theorem withdrawDeckStop (hs : P s) : P s.withdrawDeckStop := by
  have h1 : P (if s.nearsDeck then s.dropStop.dropApproach else s) := by
    split
    · exact h.appr _ (h.dropStop hs)
    · exact hs
  unfold Station.withdrawDeckStop
  dsimp only
  split
  · exact h.order _ id h1
  · exact h1

theorem takeRevoked (hs : P s) : P s.takeRevoked :=
  h.passage _ (h.removeDeckEntry _ (h.withdrawDeckStop (h.backToLine hs)))

theorem takeNotCentred (hs : P s) : P s.takeNotCentred := by
  unfold Station.takeNotCentred
  have h1 := h.passage { s.backToLine.passage with state := .granted } (h.backToLine hs)
  dsimp only
  split
  · exact h.failAttempt h1
  · exact h1

theorem learnAccepted (hs : P s) : P s.learnAccepted := h.releaseAll _ (h.passage _ hs)

theorem legAfterExit (hs : P s) : P s.legAfterExit := by
  unfold Station.legAfterExit
  split
  · exact hs
  · split
    · exact h.beginLeg hs
    · split
      · exact h.beginLeg (h.order _ id hs)
      · exact hs

theorem doExit (hexit : Exits P) (e : Nat) (hs : P s) : P (s.doExit e) := by
  unfold Station.doExit
  split
  · exact h.countBad hs
  · refine h.legAfterExit (h.passage _ (h.setPending _ (h.freshStop (h.trail _ (fun _ => Nat.zero_le _)
      (hexit _ rfl (fun hp => ?_) hs)))))
    have := Position.fits_recompute (p := { s.pos with uRef := s.par.centring, frame := .line, travel := 0 }) s.par.drift
      ⟨hp.1, hp.2.trans (by decide)⟩
    exact ⟨this.u, this.uRef, this.unknown⟩

theorem takeExit (hexit : Exits P) (e : Nat) (hs : P s) : P (s.takeExit e) := by
  have h1 : P (if s.passage.state = .aboardSent then s.learnAccepted else s) := by
    split
    · exact h.learnAccepted hs
    · exact hs
  have hend : ∀ {v}, P v → P (if v.pos.frame = .deck then v.doExit e else v) := fun hv => by
    split
    · exact h.doExit hexit _ hv
    · exact hv
  unfold Station.takeExit
  split
  · exact h.countBad hs
  · exact hend h1

theorem lostAboard (hexit : Exits P) (b : TurntableBeacon) (hs : P s) : P (s.lostAboard b) := by
  unfold Station.lostAboard
  split
  · exact h.takeExit hexit _ hs
  · exact h.askAgain (h.passage _ hs)

theorem servingBeacon (hexit : Exits P) (b : TurntableBeacon) (n : Nat) (hs : P s) : P (s.servingBeacon b n) := by
  unfold Station.servingBeacon
  split
  · split
    · exact h.takeGrant hs
    · split
      · exact h.askAgain hs
      · exact hs
  · split
    · exact h.takeRevoked hs
    · exact hs
  · split
    · dsimp only
      split
      · exact h.takeExit hexit _ (h.learnAccepted hs)
      · exact h.learnAccepted hs
    · split
      · exact h.sendAboard hs
      · split
        · exact h.lostAboard hexit _ hs
        · exact hs
  · split
    · exact h.takeExit hexit _ hs
    · split
      · exact h.lostAboard hexit _ hs
      · exact hs
  · exact hs

theorem passageBeacon (hexit : Exits P) (n : Nat) (b : TurntableBeacon) (hs : P s) : P (s.passageBeacon n b) := by
  unfold Station.passageBeacon
  split
  · exact h.servingBeacon hexit _ _ hs
  · exact hs

end Station.PassageStable

/-- `P` survives each elementary change that the command `c` may make, under what the command makes sure of first. -/
structure Station.CommandStable (c : Instr) (P : Station → Prop) : Prop extends Station.PassageStable P where
  inputs : ∀ {s : Station} x, x.confirmed = s.inputs.confirmed ∨ c.confirms → P s → P (s.withInputs x)
  peers : ∀ {s : Station} n f, (∀ e : PeerEntry, e.bounded → (f e).bounded) → P s → P (s.mapPeer n f)
  index : ∀ {s : Station} x, P s → P (s.withIndex x)
  phase : ∀ {s : Station} x, x.clamped = s.start.clamped → (s.start.phase.online = true → x.phase.online = true) →
    (s.start.phase = .ready → x.phase = .ready) → P s → P (s.withStart x)
  place : c.places → ∀ {s : Station} p, p.dir = s.pos.dir → (p.doubt = false → s.pos.doubt = true → c.marks) →
    (s.pos.Fits → p.Fits) → P s → P (s.withPos p)
  exit : c.exits → ∀ {s : Station} p, p.doubt = s.pos.doubt →
    (10 ≤ s.par.centring ∧ s.par.centring ≤ 1000 → p.Fits) → P s → P (s.withPos p)
  load : c.endsLift → ∀ {s : Station} x, P s → P (s.withLift x)
  mem : ∀ {s : Station}, P s → P (s.withBootMem (s.bootMem.write parkBase 2#8))
  reset : c.resets → ∀ {s : Station}, P s → P s.resetAll
  boot : c.boots → ∀ {s : Station} i, s.start.phase = .bootRead → P s → P (s.bootRead i)

namespace Station.CommandStable

variable {c : Instr} {P : Station → Prop} {s t : Station} (h : Station.CommandStable c P)
include h

/-! ## Reception -/

theorem fallQuiet (hs : P s) : P s.fallQuiet := by
  unfold Station.fallQuiet
  split
  · exact hs
  · exact h.inputs _ (.inl rfl) hs

theorem restartSilence (hs : P s) : P s.restartSilence := by
  unfold Station.restartSilence
  split
  · exact h.line _ rfl id id hs
  · exact hs

theorem heardOther (k : FrameKind) (hs : P s) : P (s.heardOther k) := by
  have h1 : P (if s.line.state = .heard then s.restartSilence else s) := by
    split
    · exact h.restartSilence hs
    · exact hs
  unfold Station.heardOther
  dsimp only
  split
  · exact h1
  · exact h.line _ rfl id id h1

theorem refreshPeer (n : Nat) (r : Role) (hs : P s) : P (s.refreshPeer n r) := by
  unfold Station.refreshPeer
  split
  · exact hs
  · exact h.peers _ _ (fun _ he => PeerEntry.bounded_refresh _ _ he) hs

theorem enterReady (hs : P s) : P s.enterReady := h.phase _ rfl (fun _ => rfl) (fun _ => rfl) hs

theorem duplicateFault (hs : P s) : P s.duplicateFault := by
  unfold Station.duplicateFault
  split
  · exact hs
  · have h1 : P (s.withLine { s.line with fault := true }) := h.line _ rfl id (fun _ => rfl) hs
    have h2 : P (if (s.withLine { s.line with fault := true }).isCarriage then
        (s.withLine { s.line with fault := true }).duplicateOrder else s.withLine { s.line with fault := true }) := by
      split
      · exact h.order _ id (h.stopOrder _ h1)
      · exact h1
    have hend : ∀ {v}, P v → P (if v.start.phase = .bodyClaim && !v.start.asking then v.enterReady else v) := fun hv => by
      split
      · exact h.enterReady hv
      · exact hv
    exact hend h2

theorem receive (n : Nat) (r : Role) (k : FrameKind) (act : Station → Station) (hact : ∀ {v}, P v → P (act v)) (hs : P s) :
    P (s.receive n r k act) := by
  have h1 := h.fallQuiet hs
  unfold Station.receive Station.takeFrame
  split
  · split
    · exact h.countBad h1
    · split
      · exact h.duplicateFault (h.heardOther _ h1)
      · exact hact (h.refreshPeer _ _ (h.heardOther _ h1))
  · exact h1

/-! ## Double holds, claims and objections of others -/

theorem bothOccupy (hs : P s) : P s.bothOccupy := by
  unfold Station.bothOccupy
  split
  · exact h.stopOrder _ (h.raiseEmergency hs)
  · split
    · exact h.deckFault _ hs
    · exact hs

theorem giveUp (n : Nat) (hs : P s) : P (s.giveUp n) := by
  unfold Station.giveUp
  split
  · exact h.loseClaim (h.releaseRequest _ hs)
  · exact hs

theorem doubleHold (p n : Nat) (hs : P s) : P (s.doubleHold p n) := by
  unfold Station.doubleHold Station.resolveDouble
  split
  · split
    · split
      · exact h.bothOccupy hs
      · exact hs
    · split
      · exact h.giveUp _ hs
      · split
        · exact hs
        · exact h.giveUp _ hs
  · exact hs

theorem beaconHolds (p : Nat) (hs : P s) : P (s.beaconHolds p) :=
  List.foldlRecOn _ _ hs fun _ hb _ _ => h.doubleHold _ _ hb

theorem answerClaim (p n : Nat) (r : Rank) (hs : P s) : P (s.answerClaim p n r) := by
  unfold Station.answerClaim
  split
  · exact h.countBad hs
  · split
    · exact hs
    · split
      · exact h.object _ _ _ _ hs
      · split
        · exact h.abandon _ hs
        · split
          · exact h.object _ _ _ _ hs
          · exact h.abandon _ hs

theorem peerObject (p n : Nat) (k : Objection) (r : Rank) (a : Nat) (hs : P s) : P (s.peerObject p n k r a) := by
  have h1 := h.peers p (fun e => if k = .holds then ({ e with rank := r } : PeerEntry).takeHolds s.map n
    else { e with rank := r }) (fun e he => by
      split
      · exact PeerEntry.bounded_takeHolds (e := { e with rank := r }) _ _ he
      · exact he) hs
  unfold Station.peerObject
  dsimp only
  split
  · exact h.peers _ _ (fun _ he => PeerEntry.bounded_dropNotes _ he) h1
  · exact h1

theorem takeObject (p n : Nat) (k : Objection) (a : Nat) (hs : P s) : P (s.takeObject p n k a) := by
  unfold Station.takeObject
  split
  · split
    · exact h.countBad hs
    · split
      · exact hs
      · split
        · exact h.abandon _ hs
        · split
          · exact hs
          · exact h.doubleHold _ _ hs
  · split
    · exact h.doubleHold _ _ hs
    · exact hs

theorem yieldEntry (e : ClaimEntry) (p : Nat) (hs : P s) : P (s.yieldEntry e p) := by
  unfold Station.yieldEntry
  split <;> exact h.mapEntry _ _ (fun _ => rfl) hs

theorem takeAsk (p n : Nat) (hs : P s) : P (s.takeAsk p n).1 := by
  unfold Station.takeAsk
  split
  · exact hs
  · dsimp only
    split
    · exact h.requestDirection _ (h.setBacking _ (h.freshStop (h.order _ id hs)))
    · exact h.object _ _ _ _ hs

theorem takeYieldAsk (p n w : Nat) (hs : P s) : P (s.takeYieldAsk p n w).1 := by
  unfold Station.takeYieldAsk
  split
  · exact hs
  · split
    · exact hs
    · split
      · exact h.object _ _ _ _ hs
      · split
        · exact h.object _ _ _ _ hs
        · split
          · exact h.object _ _ _ _ hs
          · split
            · exact h.takeAsk _ _ hs
            · exact h.yieldEntry _ _ hs

theorem holdLimit (n : Nat) (hs : P s) : P (s.holdLimit n) := by
  unfold Station.holdLimit
  split
  · exact hs
  · split
    · exact hs
    · split
      · split
        · exact h.object _ _ _ _ (h.mapEntry _ _ (fun _ => rfl) hs)
        · exact h.mapEntry _ _ (fun _ => rfl) hs
      · exact hs

theorem endWindow (n : Nat) (hs : P s) : P (s.endWindow n) := by
  unfold Station.endWindow
  split
  · exact hs
  · next e _ =>
    split
    · extract_lets won members s1 s2
      have h1 : P s1 := h.editEntries _ (fun x => by split <;> rfl) hs
      have h2 : P s2 := by
        simp only [s2]
        split
        · exact h.clearWait h1
        · exact h1
      split
      · exact h.releaseAll _ h2
      · exact h.tell _ _ _ h2
    · exact hs

theorem setRetry (n : Nat) (hs : P s) : P (s.setRetry n) := by
  unfold Station.setRetry
  split
  · exact h.passage _ hs
  · exact hs

/-! ## Orders -/

theorem answer (o : OrderHead) (st : OrderState) (r : Reason) (i : Nat) (hs : P s) : P (s.answer o st r i) := by
  unfold Station.answer
  split
  · exact hs
  · exact h.order _ id hs

theorem accept (k : OrderKind) (o : OrderHead) (r : RouteOrder) (hs : P s) : P (s.accept k o r) := by
  unfold Station.accept
  exact h.beginLeg (h.trail _ (fun _ => Nat.zero_le _) (h.appr _ (h.setReserve _ (h.order _ id hs))))

theorem takeRoute (k : OrderKind) (o : OrderHead) (r : RouteOrder) (hs : P s) : P (s.takeRoute k o r) := by
  unfold Station.takeRoute
  split
  · exact hs
  · split
    · exact h.answer _ _ _ _ hs
    · exact h.accept _ _ _ hs

theorem resumeStopped (hs : P s) : P s.resumeStopped := by
  unfold Station.resumeStopped
  split
  · exact h.returnTo _ hs
  · split
    · exact h.returnTo _ (h.cutBacking hs)
    · exact h.returnTo _ hs
  · exact h.returnTo _ hs

theorem takeResume (hs : P s) : P s.takeResume := by
  unfold Station.takeResume
  split
  · exact hs
  · split
    · exact h.unhalt (h.order _ id hs)
    · split
      · unfold Station.reopenPark
        split
        · exact h.openPark (h.resumeStopped hs)
        · exact h.resumeStopped hs
      · exact h.endOrder _ _ (h.cutBacking (h.giveUpAttempt hs))
    · exact hs

theorem reverseLift (hs : P s) : P s.reverseLift := by
  have hend : ∀ {v}, P v → P (if v.lift.state.travelling then v.startTravel else v) := fun hv => by
    split
    · exact h.lift _ rfl hv
    · exact hv
  exact hend (h.lift _ rfl hs)

theorem takeCancel (hs : P s) : P s.takeCancel := by
  unfold Station.takeCancel
  split
  · exact hs
  · split
    · split
      · exact hs
      · exact h.reverseLift (h.order _ id hs)
    · exact h.endOrder _ _ (h.cutBacking (h.giveUpAttempt hs))

theorem askBody (hs : P s) : P s.askBody := by
  unfold Station.askBody
  split
  · exact hs
  · exact h.claimGroup _ _ _ (fun ho => ho.sublist List.filter_sublist) hs

theorem retryBody (hs : P s) : P s.retryBody := h.askBody (h.order _ (fun ho => ho.sublist List.filter_sublist) hs)

theorem placeAt (hc : c.places) (l : Nat) (x : Chainage) (u : Nat) (hs : P s) : P (s.placeAt l x u) := by
  unfold Station.placeAt
  refine h.appr _ (h.trail _ (fun _ => Nat.zero_le _) (h.releaseAll _ (h.touchPark (h.stopOrder _
    (h.place hc _ rfl nofun (fun _ => ?_) hs)))))
  have hr : 10 ≤ clampTo Config.uMin Config.uMax u ∧ clampTo Config.uMin Config.uMax u ≤ 2000 := by
    simp only [clampTo, Config.uMin, Config.uMax]
    split
    · decide
    · split <;> omega
  have := Position.fits_recompute (p := { s.pos with
    frame := .line, travel := 0, uRef := clampTo Config.uMin Config.uMax u }) s.par.drift hr
  exact ⟨this.u, this.uRef, this.unknown⟩

theorem takeSetPosition (hc : c.places) (o : OrderHead) (l : Nat) (x : Chainage) (u : Nat) (hs : P s) :
    P (s.takeSetPosition o l x u) := by
  unfold Station.takeSetPosition
  split
  · exact h.answer _ _ _ _ hs
  · exact h.answer _ _ _ _ (h.askBody (h.order _ (Station.bodyToWin_nodup _) (h.placeAt hc l x u hs)))

theorem unqueue (n : Nat) (hs : P s) : P (s.unqueue n) :=
  h.tt _ (fun ⟨hl, hn, hh⟩ => ⟨(List.length_filter_le ..).trans hl, hn.sublist (List.filter_sublist.map _), fun x hx hm =>
    hh x hx ((List.filter_sublist.map _).subset hm)⟩) id hs

theorem takeClearPeer (o : OrderHead) (n : Nat) (hs : P s) : P (s.takeClearPeer o n) := by
  unfold Station.takeClearPeer
  split
  · exact h.countBad hs
  · have h1 : P (s.clearPeer n) := by
      unfold Station.clearPeer
      split
      · exact hs
      · exact h.peers n (fun _ => {}) (fun _ _ => PeerEntry.bounded_default) hs
    unfold Station.byRole
    split
    · exact h.answer _ _ _ _ h1
    · exact h.unqueue _ h1

theorem orderFor (o : OrderHead) (b : Bool) (act : Station → Station) (hact : ∀ {v}, P v → P (act v)) (hs : P s) :
    P (s.orderFor o b act) := by
  unfold Station.orderFor
  split
  · exact hs
  · split
    · exact h.countBad hs
    · exact hact hs

theorem carriageOnly (act : Station → Station) (hact : ∀ {v}, P v → P (act v)) (hs : P s) : P (s.carriageOnly act) := by
  unfold Station.carriageOnly
  split
  · exact hact hs
  · exact h.countBad hs

/-! ## The turntable unit -/

theorem turnAnswer (n : Nat) (a : TurnAnswer) (arm : Nat) (hs : P s) : P (s.turnAnswer n a arm) := h.send _ (by simp) hs

theorem ttResume (hs : P s) : P s.ttResume := by
  have h1 := h.tt { s.tt with grantHold := false } id id hs
  unfold Station.ttResume
  dsimp only
  split
  · split
    · exact h1
    · exact h.leaveFault _ h1
  · exact h1

theorem takeAskFrame (n : Nat) (r : Role) (a e : Nat) (hs : P s) : P (s.takeAskFrame n r a e) := by
  unfold Station.takeAskFrame
  split
  · exact hs
  · split
    · exact h.countBad hs
    · split
      · exact hs
      · next hholder =>
        split
        · refine h.tt _ (fun ⟨hl, hn, hh⟩ => ?_) id hs
          have he : (s.tt.queue.map fun r => if r.station = n then { r with entryArm := a, exitArm := e } else r).map
              (·.station) = s.tt.queue.map (·.station) := by
            rw [List.map_map]
            refine List.map_congr_left fun r _ => ?_
            simp only [Function.comp_apply]
            split <;> rfl
          exact ⟨by simpa using hl, by rw [he]; exact hn, fun x hx => by rw [he]; exact hh x hx⟩
        · next hqueue =>
          split
          · exact h.turnAnswer _ _ _ hs
          · split
            · exact h.turnAnswer _ _ _ hs
            · next hroom =>
              refine h.tt _ (fun ⟨hl, hn, hh⟩ => ?_) id hs
              have hq : n ∉ s.tt.queue.map (·.station) := by
                simpa [List.any_eq_true] using hqueue
              refine ⟨?_, ?_, fun x hx hm => ?_⟩
              · simp only [Config.places] at hroom
                simp only [List.length_append, List.length_cons, List.length_nil]
                omega
              · rw [List.map_append, List.nodup_append]
                refine ⟨hn, by simp, fun y hy z hz hyz => hq ?_⟩
                simp only [List.map_cons, List.map_nil, List.mem_singleton] at hz
                rwa [← hz, ← hyz]
              · rw [List.map_append, List.mem_append] at hm
                obtain hm | hm := hm
                · exact hh x hx hm
                · simp only [List.map_cons, List.map_nil, List.mem_singleton] at hm
                  exact hholder (by simp [show s.tt.holder = some x from hx, hm])

theorem takeAboardFrame (n : Nat) (hs : P s) : P (s.takeAboardFrame n) := by
  unfold Station.takeAboardFrame
  split
  · split
    · exact h.turnAnswer _ _ _ hs
    · split
      · split
        · exact h.tt _ id (by simp) hs
        · exact h.turnAnswer _ _ _ hs
      · exact hs
  · exact h.turnAnswer _ _ _ hs

theorem takeClearFrame (n : Nat) (hs : P s) : P (s.takeClearFrame n) := by
  unfold Station.takeClearFrame
  split
  · split
    · split
      · exact h.tt _ id id (h.deckIdle hs)
      · exact h.tt _ id (by simp) hs
    · exact h.tt _ id id hs
    · split
      · exact h.tt _ (fun ⟨hl, hn, _⟩ => ⟨hl, hn, by simp⟩) id hs
      · exact h.tt _ id id hs
    · exact hs
  · exact h.unqueue _ hs

omit h in
theorem atTurntable (n : Nat) (act : Station → Station) (hact : ∀ {v}, P v → P (act v)) (hs : P s) :
    P (s.atTurntable n act) := by
  unfold Station.atTurntable
  split
  · exact hact hs
  · exact hs

theorem entryExpired (hs : P s) : P s.entryExpired := by
  unfold Station.entryExpired
  split
  · exact hs
  · dsimp only
    split
    · exact h.turnAnswer _ _ _ (h.deckIdle hs)
    · exact h.tt _ id id hs

theorem armReport (a : Option Nat) (hs : P s) : P (s.armReport a) := by
  unfold Station.armReport
  split
  · split
    · exact h.endRotation _ hs
    · exact hs
  · exact hs
  · split
    · exact hs
    · exact h.deckFault _ hs

theorem readArm (hs : P s) : P s.readArm := by
  unfold Station.readArm
  split
  · exact h.tt _ id (by simp) hs
  · exact hs

/-! ## The line interface -/

theorem sendHead (hs : P s) : P s.sendHead := by
  unfold Station.sendHead
  split
  · exact hs
  · next x rest hq =>
    split
    · extract_lets _ s1 _ s2 _ s3
      have hc : P (s.withLine { s.line with
          courtesy := s.nextCourtesy x
          resendCount := if 0 < x.sends then bump 255 s.line.resendCount else s.line.resendCount }) :=
        h.line _ rfl (fun ⟨hb, hr⟩ => ⟨hb, by dsimp only [bump]; split <;> [split <;> omega; exact hr]⟩) id hs
      have h1 : P s1 := h.queue ({ x with sends := x.sends + 1, inFlight := true } :: rest) (fun hk => by
        have : s.line.queue = x :: rest := hq
        simpa [queueKinds, this] using hk) hc
      have h2 : P s2 := h.line _ rfl id id h1
      have h3 : P s3 := by
        simp only [s3]
        split
        · exact h.order _ id h2
        · exact h2
      exact h.inputs _ (.inl rfl) h3
    · exact hs

theorem reportSent (x : QueueItem) (hs : P s) : P (s.reportSent x) := by
  unfold Station.reportSent
  split
  · split
    · exact hs
    · exact h.mapEntry _ _ (fun e => by split <;> rfl) hs
  · exact h.passage _ hs
  · exact h.passage _ hs
  · exact hs

theorem reportDropped (x : QueueItem) (hs : P s) : P (s.reportDropped x) := by
  unfold Station.reportDropped
  split
  · split
    · exact hs
    · exact h.claimNotSent _ hs
  · split
    · exact h.tt _ id id hs
    · exact hs
  · split
    · exact h.tt _ id id hs
    · exact hs
  · exact h.oweClear _ hs
  · exact hs

theorem heardSelf (hs : P s) : P s.heardSelf := by
  unfold Station.heardSelf
  split
  · exact h.restartSilence hs
  · exact h.line _ rfl id id hs
  · exact hs

theorem goodEcho (x : QueueItem) (hs : P s) : P (s.goodEcho x) := by
  unfold Station.goodEcho
  refine h.reportSent _ (h.heardSelf (h.inputs _ (.inl rfl) ?_))
  have h1 := h.queue (withoutInFlight s.line.queue) (fun hk => hk.sublist (queueKinds_withoutInFlight _)) hs
  exact h.line (s := s.setQueue (withoutInFlight s.line.queue)) _ rfl id id h1

theorem failedEcho (x : QueueItem) (hs : P s) : P (s.failedEcho x) := by
  have h1 := h.line { s.line with sending := none, sentRecovered := false } rfl id id hs
  have h2 : P (s.withLine (if s.line.state = .recovering then
      { s.line with sending := none, sentRecovered := false, state := .silent, recoveryTimer := none }
      else { s.line with sending := none, sentRecovered := false })) := by
    split
    · exact h.line (s := s.withLine { s.line with sending := none, sentRecovered := false }) _ rfl id id h1
    · exact h1
  have hend : ∀ {v}, P v → P (if x.sends < 4 then
      v.setQueue (v.line.queue.map fun y => if y.inFlight then { y with inFlight := false } else y)
      else (v.setQueue (withoutInFlight v.line.queue)).reportDropped x) := fun {v} hv => by
    split
    · exact h.queue _ (fun hk => by
        rwa [queueKinds_map _ (fun y => if y.inFlight then { y with inFlight := false } else y) fun y => by split <;> rfl]) hv
    · exact h.reportDropped _ (h.queue _ (fun hk => hk.sublist (queueKinds_withoutInFlight _)) hv)
  exact hend (h.inputs _ (.inl rfl) h2)

omit h in
theorem judgeEcho (f : Station → QueueItem → Station) (hf : ∀ x, P (f s x)) (hs : P s) : P (s.judgeEcho f) := by
  unfold Station.judgeEcho
  split
  · exact hf _
  · exact hs

theorem beaconExpired (hs : P s) : P s.beaconExpired := h.schedule _ _ _ (h.beaconFallsDue hs)

theorem lineSilent (hs : P s) : P s.lineSilent := h.haltForLine (h.line _ rfl id id hs)

theorem lineRecover (hs : P s) : P s.lineRecover := h.lineRecovered (h.restartSilence (h.line _ rfl id id hs))

/-! ## The vehicle-side ports -/

theorem positionFault (hs : P s) : P s.positionFault := h.touchPark (h.stopOrder _ (h.raiseEmergency hs))

theorem markerReport (hc : c.places) (hm : c.marks) (n : Nat) (hs : P s) : P (s.markerReport n) := by
  unfold Station.markerReport
  split
  · exact h.countBad hs
  · split
    · exact h.countBad hs
    · next k _ =>
      have hfit : ∀ b, ({ s.pos.reference k.line k.chainage Config.uMin s.par.drift with doubt := b } : Position).Fits :=
        fun b => by
          have := Position.fits_recompute (p := { s.pos with frame := .line, travel := 0, uRef := Config.uMin }) s.par.drift
            ⟨Nat.le_refl 10, by simp [Config.uMin]⟩
          exact ⟨this.u, this.uRef, this.unknown⟩
      dsimp only
      split
      · exact h.touchPark (h.place hc _ rfl (fun _ _ => hm) (fun _ => hfit _) hs)
      · exact h.positionFault (h.place hc _ rfl (fun _ _ => hm) (fun _ => hfit _) hs)

theorem takeCounts (hc : c.places) (n : Int) (hs : P s) : P (s.takeCounts n) := by
  unfold Station.takeCounts
  split
  · exact hs
  · extract_lets move acc held run
    split
    · exact h.positionFault (h.place hc _ rfl nofun (fun hp => ⟨hp.u, hp.uRef, hp.unknown⟩) hs)
    · exact h.place hc _ rfl (fun h0 h1 => nomatch h0.symm.trans h1) (fun hp => Position.fits_recompute _ hp.uRef) hs

theorem setLatch (l : MarkerLatch) (hs : P s) : P (s.setLatch l) :=
  h.pos _ rfl rfl (fun hp => ⟨hp.u, hp.uRef, hp.unknown⟩) hs

theorem settleMarker (hc : c.places) (hm : c.marks) (n : Nat) (hs : P s) : P (s.settleMarker n) := by
  unfold Station.settleMarker
  split
  · exact h.markerReport hc hm _ (h.setLatch _ hs)
  · exact h.setLatch _ hs

theorem markerChange (hc : c.places) (hm : c.marks) (b : Bool) (n : Nat) (hs : P s) : P (s.markerChange b n) := by
  unfold Station.markerChange
  split
  · split
    · exact h.settleMarker hc hm _ hs
    · exact hs
  · split
    · exact h.setLatch _ hs
    · split
      · exact hs
      · exact h.settleMarker hc hm _ hs
  · split
    · exact h.setLatch _ hs
    · split
      · exact h.setLatch _ hs
      · split
        · exact hs
        · exact h.setLatch _ hs

theorem markerSettled (hc : c.places) (hm : c.marks) (hs : P s) : P s.markerSettled := by
  unfold Station.markerSettled
  split
  · split
    · exact h.markerReport hc hm _ (h.setLatch _ hs)
    · exact hs
  · split
    · exact h.setLatch _ hs
    · exact hs
  · exact hs

theorem takeInPosition (hs : P s) : P s.takeInPosition := by
  unfold Station.takeInPosition
  split
  · exact h.envEval (h.appr _ (h.env { s.env with finalStop := none } (Nat.le_refl _) rfl rfl rfl rfl hs))
  · exact hs

theorem indexChanged (hs : P s) : P s.indexChanged := by
  unfold Station.indexChanged
  split <;> exact h.index _ hs

theorem indexSettled (hs : P s) : P s.indexSettled := by
  unfold Station.indexSettled
  split
  · exact h.index _ hs
  · exact hs

theorem reachTop (hc : c.endsLift) (hs : P s) : P s.reachTop := by
  have h1 : P (s.restLift true) := h.lift _ rfl hs
  unfold Station.reachTop
  split
  · split
    · split
      · exact h.endOrder _ _ (h.load hc _ h1)
      · exact hs
    · split
      · exact h.endOrder _ _ (h.load hc _ h1)
      · exact h.endOrder _ _ h1
  · exact hs

theorem reachBottom (hc : c.endsLift) (hs : P s) : P s.reachBottom := by
  have h1 : P (s.restLift false) := h.lift _ rfl hs
  unfold Station.reachBottom
  split
  · split
    · split
      · exact hs
      · exact h.endOrder _ _ (h.load hc _ h1)
    · split
      · exact h.endOrder _ _ h1
      · exact h.endOrder _ _ (h.load hc _ h1)
  · exact hs

theorem faultLift (hs : P s) : P s.faultLift := by
  have h1 := h.lift { s.lift with state := .fault, timer := none, operation := .none, returning := false } rfl hs
  unfold Station.faultLift
  dsimp only
  split
  · exact h.endOrder _ _ (h.cutBacking (h.giveUpAttempt h1))
  · exact h1

theorem liftInput (act : Station → Station) (hact : ∀ {v}, P v → P (act v)) (hs : P s) : P (s.liftInput act) := by
  unfold Station.liftInput
  split
  · exact hs
  · split
    · unfold Station.restTest
      split
      · exact h.lift _ rfl hs
      · exact hs
    · split
      · exact h.faultLift hs
      · exact hact hs

theorem writeComplete (hs : P s) : P s.writeComplete := by
  unfold Station.writeComplete
  split
  · exact hs
  · dsimp only
    split
    · exact h.write _ (h.park _ (h.mem hs))
    · exact h.park _ (h.mem hs)

/-! ## Start-up -/

theorem askStart (hs : P s) : P s.askStart := by
  have hg := h.claimGroup s.startWanted .body .startup (fun _ => s.touched_nodup _ fun b hb => by simp_all) hs
  unfold Station.askStart
  split
  · exact h.enterReady hs
  · split
    · next hm =>
      rw [hm] at hg
      exact h.phase _ rfl id id hg
    · have hr : P (s.claimGroup s.startWanted .body .startup).1.retryBodyClaim := by
        unfold Station.retryBodyClaim
        split
        · exact h.enterReady hg
        · exact h.phase _ rfl id id hg
      simpa [*] using hr

theorem endListen (hp : s.start.phase = .listenIn) (hs : P s) : P s.endListen := by
  have h1 := h.phase { s.start with listenEnd := none } rfl id id hs
  unfold Station.endListen
  dsimp only
  split
  · split
    · exact h.askStart (h.phase _ rfl (fun _ => rfl) (fun hr => by cases hp.symm.trans hr) h1)
    · exact h.enterReady h1
  · exact h.enterReady (h.readArm h1)

end Station.CommandStable
end Sys2Proof.Machine
end

section
/-! PROOFS. Every command keeps what its elementary changes and the evaluations keep. -/

namespace Sys2Proof.Machine

/-- What `f` and the evaluations keep, a command made of them keeps. -/
theorem State.reactWith_keeps {R : Station → Prop} {s t : State} {dt : Nat} {ev : Events} {f : Station → Station}
    (he : s.reactWith dt ev f = .next t) (hr : Station.EvalStable R) (hf : R (f (s.old dt))) : R t.station := by
  cases he
  exact hr.settle _ _ hf

theorem State.reactWith_acts {P : Station → Prop} {s t : State} {dt : Nat} {ev : Events} {f : Station → Station}
    (he : s.reactWith dt ev f = .next t) (hf : P (f (s.old dt))) : ∃ dt u ev, P u ∧ t = s.settled dt u ev := by
  cases he
  exact ⟨dt, _, ev, hf, rfl⟩

theorem State.onTimer_acts {P : Station → Prop} {s t : State} {dt : Nat} {timer : Station → Option Nat} {ev : Events}
    {f : Station → Station} (he : s.onTimer dt timer ev f = .next t) (hold : P (s.old dt)) (hf : P (f (s.old dt))) :
    ∃ dt u ev, P u ∧ t = s.settled dt u ev := by
  cases he
  refine ⟨dt, _, _, ?_, rfl⟩
  dsimp only
  split
  · exact hf
  · exact hold

/-- What survives the elementary changes of `c`, the part has when the evaluations begin. -/
theorem exec_acts {c : Instr} {P : Station → Prop} (h : Station.CommandStable c P) {s t : State}
    (hold : ∀ dt, P (s.old dt)) (he : exec c s = .next t) : ∃ dt u ev, P u ∧ t = s.settled dt u ev := by
  cases c with
  | resetAsserted dt =>
    dsimp only [exec, execResetAsserted] at he
    exact State.reactWith_acts he (h.reset trivial (hold dt))
  | resetReleased dt =>
    dsimp only [exec, execResetReleased] at he
    refine State.reactWith_acts he ?_
    split
    · next hp => exact h.phase _ rfl (fun ho => by rw [hp] at ho; cases ho) (fun hr => by cases hp.symm.trans hr) (hold dt)
    · exact hold dt
  | bootReadComplete dt i l =>
    dsimp only [exec, execBootReadComplete] at he
    have h1 := h.inputs { (s.old dt).inputs with loadSensed := l } (.inl rfl) (hold dt)
    refine State.reactWith_acts he ?_
    split
    · next hp => exact h.boot trivial _ hp h1
    · exact h1
  | listenInEnd dt =>
    dsimp only [exec, execListenInEnd] at he
    refine State.onTimer_acts he (hold dt) ?_
    split
    · next hp => exact h.endListen hp (hold dt)
    · exact hold dt
  | bodyClaimRetry dt =>
    dsimp only [exec, execBodyClaimRetry] at he
    refine State.onTimer_acts he (hold dt) ?_
    split
    · exact h.askStart (h.phase _ rfl id id (hold dt))
    · exact hold dt
  | badFrameReceived dt b =>
    dsimp only [exec, execBadFrameReceived] at he
    refine State.reactWith_acts he ?_
    split
    · exact h.countBad (h.fallQuiet (hold dt))
    · exact h.fallQuiet (hold dt)
  | duplicateStationFrame dt k =>
    dsimp only [exec, execDuplicateStationFrame] at he
    exact State.reactWith_acts he (h.receive _ _ _ _ id (hold dt))
  | carriageBeaconReceived dt src b =>
    dsimp only [exec, execCarriageBeaconReceived] at he
    exact State.reactWith_acts he (h.receive _ _ _ _ (fun hv =>
      h.beaconHolds _ (h.peers _ _ (fun _ hb => PeerEntry.bounded_takeCarriage _ _ hb) hv)) (hold dt))
  | turntableBeaconReceived dt src b =>
    dsimp only [exec, execTurntableBeaconReceived] at he
    exact State.reactWith_acts he (h.receive _ _ _ _ (fun hv => h.passageBeacon (h.exit trivial) _ _
      (h.beaconHolds _ (h.peers _ _ (fun _ hb => PeerEntry.bounded_takeTurntable _ _ hb) hv))) (hold dt))
  | claimReceived dt hd n g r =>
    dsimp only [exec, execClaimReceived] at he
    exact State.reactWith_acts he (h.receive _ _ _ _ (fun hv =>
      h.answerClaim _ _ _ (h.peers _ _ (fun _ hb => PeerEntry.bounded_takeClaim _ _ _ _ hb) hv)) (hold dt))
  | objectReceived dt hd n k r a =>
    dsimp only [exec, execObjectReceived] at he
    exact State.reactWith_acts he (h.receive _ _ _ _ (fun hv =>
      h.takeObject _ _ _ _ (h.peerObject _ _ _ _ _ hv)) (hold dt))
  | releaseReceived dt hd l =>
    dsimp only [exec, execReleaseReceived] at he
    exact State.reactWith_acts he (h.receive _ _ _ _ (fun hv =>
      h.peers _ _ (fun _ hb => PeerEntry.bounded_takeRelease _ hb) hv) (hold dt))
  | yieldAskReceived dt hd n p w =>
    dsimp only [exec, execYieldAskReceived] at he
    refine State.reactWith_acts he (h.receive _ _ _ _ (fun {v} hv => ?_) (hold dt))
    have hw : P (v.mapPeer hd.src fun e => { e with rank := ⟨w, false⟩ }) := h.peers _ _ (fun _ hb => hb) hv
    split
    · split
      · exact h.takeYieldAsk _ _ _ hw
      · exact h.countBad hw
    · exact hw
  | orderMove dt o r =>
    dsimp only [exec, execOrderMove, State.takeOrder] at he
    exact State.reactWith_acts he (h.receive _ _ _ _ (fun hv =>
      h.orderFor _ _ _ (fun hw => h.carriageOnly _ (fun hx => h.takeRoute _ _ _ hx) hw) hv) (hold dt))
  | orderFetch dt o r =>
    dsimp only [exec, execOrderFetch, State.takeOrder] at he
    exact State.reactWith_acts he (h.receive _ _ _ _ (fun hv =>
      h.orderFor _ _ _ (fun hw => h.carriageOnly _ (fun hx => h.takeRoute _ _ _ hx) hw) hv) (hold dt))
  | orderPlace dt o r =>
    dsimp only [exec, execOrderPlace, State.takeOrder] at he
    exact State.reactWith_acts he (h.receive _ _ _ _ (fun hv =>
      h.orderFor _ _ _ (fun hw => h.carriageOnly _ (fun hx => h.takeRoute _ _ _ hx) hw) hv) (hold dt))
  | orderBadKind dt o k =>
    dsimp only [exec, execOrderBadKind, State.takeOrder] at he
    refine State.reactWith_acts he (h.receive _ _ _ _ (fun hv => h.orderFor _ _ _ (fun hw => ?_) hv) (hold dt))
    split
    · exact h.countBad hw
    · exact hw
  | orderHalt dt o =>
    dsimp only [exec, execOrderHalt, State.takeOrder] at he
    refine State.reactWith_acts he (h.receive _ _ _ _ (fun hv => h.orderFor _ _ _ (fun hw => ?_) hv) (hold dt))
    unfold Station.byRole
    split
    · exact h.haltWith _ (fun _ => rfl) hw
    · exact h.tt _ id id hw
  | orderResume dt o =>
    dsimp only [exec, execOrderResume, State.takeOrder] at he
    refine State.reactWith_acts he (h.receive _ _ _ _ (fun hv => h.orderFor _ _ _ (fun hw => ?_) hv) (hold dt))
    unfold Station.byRole
    split
    · exact h.takeResume hw
    · exact h.ttResume hw
  | orderCancel dt o =>
    dsimp only [exec, execOrderCancel, State.takeOrder] at he
    refine State.reactWith_acts he (h.receive _ _ _ _ (fun hv => h.orderFor _ _ _ (fun hw => ?_) hv) (hold dt))
    unfold Station.byRole
    split
    · exact h.takeCancel hw
    · exact hw
  | orderSetPosition dt o l x u =>
    dsimp only [exec, execOrderSetPosition, State.takeOrder] at he
    exact State.reactWith_acts he (h.receive _ _ _ _ (fun hv => h.orderFor _ _ _ (fun hw =>
      h.carriageOnly _ (fun hx => h.takeSetPosition trivial _ _ _ _ hx) hw) hv) (hold dt))
  | orderClearPeer dt o p =>
    dsimp only [exec, execOrderClearPeer, State.takeOrder] at he
    exact State.reactWith_acts he (h.receive _ _ _ _ (fun hv =>
      h.orderFor _ _ _ (fun hw => h.takeClearPeer _ _ hw) hv) (hold dt))
  | turnAskReceived dt hd n a e =>
    dsimp only [exec, execTurnAskReceived] at he
    exact State.reactWith_acts he (h.receive _ _ _ _ (fun hv =>
      Station.CommandStable.atTurntable _ _ (fun hw => h.takeAskFrame _ _ _ _ hw) hv) (hold dt))
  | turnAboardReceived dt hd n =>
    dsimp only [exec, execTurnAboardReceived] at he
    exact State.reactWith_acts he (h.receive _ _ _ _ (fun hv =>
      Station.CommandStable.atTurntable _ _ (fun hw => h.takeAboardFrame _ hw) hv) (hold dt))
  | turnClearReceived dt hd n =>
    dsimp only [exec, execTurnClearReceived] at he
    exact State.reactWith_acts he (h.receive _ _ _ _ (fun hv =>
      Station.CommandStable.atTurntable _ _ (fun hw => h.takeClearFrame _ hw) hv) (hold dt))
  | turnAnswerGrant dt hd a n =>
    dsimp only [exec, execTurnAnswerGrant, State.takeAnswer] at he
    refine State.reactWith_acts he (h.receive _ _ _ _ (fun hv => ?_) (hold dt))
    split
    · split
      · exact h.takeGrant hv
      · exact h.clearTo _ hv
    · exact hv
  | turnAnswerExit dt hd a n =>
    dsimp only [exec, execTurnAnswerExit, State.takeAnswer] at he
    refine State.reactWith_acts he (h.receive _ _ _ _ (fun hv => ?_) (hold dt))
    split
    · split
      · exact h.countBad hv
      · split
        · exact h.takeExit (h.exit trivial) _ hv
        · exact hv
    · exact hv
  | turnAnswerRefusedFull dt hd a n =>
    dsimp only [exec, execTurnAnswerRefusedFull, State.takeAnswer] at he
    refine State.reactWith_acts he (h.receive _ _ _ _ (fun hv => ?_) (hold dt))
    split
    · exact h.setRetry _ hv
    · exact hv
  | turnAnswerFault dt hd a n =>
    dsimp only [exec, execTurnAnswerFault, State.takeAnswer] at he
    refine State.reactWith_acts he (h.receive _ _ _ _ (fun hv => ?_) (hold dt))
    split
    · exact h.setRetry _ hv
    · exact hv
  | turnAnswerRevoked dt hd a n =>
    dsimp only [exec, execTurnAnswerRevoked, State.takeAnswer] at he
    refine State.reactWith_acts he (h.receive _ _ _ _ (fun hv => ?_) (hold dt))
    split
    · split
      · exact h.countBad hv
      · split
        · exact h.takeRevoked hv
        · exact hv
    · exact hv
  | turnAnswerNotCentred dt hd a n =>
    dsimp only [exec, execTurnAnswerNotCentred, State.takeAnswer] at he
    refine State.reactWith_acts he (h.receive _ _ _ _ (fun hv => ?_) (hold dt))
    split
    · split
      · exact h.countBad hv
      · split
        · exact h.takeNotCentred hv
        · exact hv
    · exact hv
  | sendPointReached dt =>
    dsimp only [exec, execSendPointReached] at he
    refine State.reactWith_acts he ?_
    split
    · exact h.sendHead (hold dt)
    · exact hold dt
  | echoGood dt =>
    dsimp only [exec, execEchoGood] at he
    refine State.reactWith_acts he ?_
    split
    · exact Station.CommandStable.judgeEcho _ (fun _ => h.goodEcho _ (hold dt)) (hold dt)
    · exact hold dt
  | echoFailed dt =>
    dsimp only [exec, execEchoFailed] at he
    refine State.reactWith_acts he ?_
    split
    · exact Station.CommandStable.judgeEcho _ (fun _ => h.failedEcho _ (hold dt)) (hold dt)
    · exact hold dt
  | beaconTimerExpiry dt =>
    dsimp only [exec, execBeaconTimerExpiry] at he
    exact State.onTimer_acts he (hold dt) (h.beaconExpired (hold dt))
  | silenceTimerExpiry dt =>
    dsimp only [exec, execSilenceTimerExpiry] at he
    refine State.onTimer_acts he (hold dt) ?_
    split
    · exact h.lineSilent (hold dt)
    · exact hold dt
  | recoveryTimerExpiry dt =>
    dsimp only [exec, execRecoveryTimerExpiry] at he
    refine State.onTimer_acts he (hold dt) ?_
    split
    · exact h.lineRecover (hold dt)
    · exact hold dt
  | listenWindowEnd dt n =>
    dsimp only [exec, execListenWindowEnd] at he
    refine State.reactWith_acts he ?_
    split
    · exact h.endWindow _ (hold dt)
    · exact hold dt
  | holdLimitReached dt n =>
    dsimp only [exec, execHoldLimitReached] at he
    refine State.reactWith_acts he ?_
    split
    · exact h.holdLimit _ (hold dt)
    · exact hold dt
  | pendingNoteExpiry dt p n =>
    dsimp only [exec, execPendingNoteExpiry] at he
    refine State.reactWith_acts he ?_
    split
    · exact h.peers _ _ (fun _ hb => PeerEntry.bounded_expireNotes _ _ hb) (hold dt)
    · exact hold dt
  | peerStale dt p =>
    dsimp only [exec, execPeerStale] at he
    refine State.reactWith_acts he ?_
    split
    · exact h.peers _ _ (fun _ hb => PeerEntry.bounded_age _ _ _ _ hb) (hold dt)
    · exact hold dt
  | peerLost dt p =>
    dsimp only [exec, execPeerLost] at he
    refine State.reactWith_acts he ?_
    split
    · exact h.peers _ _ (fun _ hb => PeerEntry.bounded_age _ _ _ _ hb) (hold dt)
    · exact hold dt
  | orderEvaluationTimer dt =>
    dsimp only [exec, execOrderEvaluationTimer] at he
    refine State.onTimer_acts he (hold dt) ?_
    split
    · exact h.retryBody (h.order _ id (hold dt))
    · exact hold dt
  | blockTimeExpiry dt =>
    dsimp only [exec, execBlockTimeExpiry] at he
    exact State.onTimer_acts he (hold dt) (h.order _ id (hold dt))
  | passageRetryDue dt =>
    dsimp only [exec, execPassageRetryDue] at he
    refine State.onTimer_acts he (hold dt) ?_
    split
    · exact h.askAgain (hold dt)
    · exact hold dt
  | turntableEvaluationTimer dt =>
    dsimp only [exec, execTurntableEvaluationTimer] at he
    exact State.onTimer_acts he (hold dt) (h.tt _ id id (hold dt))
  | guardRetryTime dt =>
    dsimp only [exec, execGuardRetryTime] at he
    exact State.onTimer_acts he (hold dt) (h.tt _ id id (hold dt))
  | entryTimerExpiry dt =>
    dsimp only [exec, execEntryTimerExpiry] at he
    refine State.onTimer_acts he (hold dt) ?_
    split
    · exact h.entryExpired (hold dt)
    · exact hold dt
  | exitTimerExpiry dt =>
    dsimp only [exec, execExitTimerExpiry] at he
    refine State.onTimer_acts he (hold dt) ?_
    split
    · exact h.tt _ id id (hold dt)
    · exact hold dt
  | rotationTimerExpiry dt =>
    dsimp only [exec, execRotationTimerExpiry] at he
    refine State.onTimer_acts he (hold dt) ?_
    split
    · exact h.deckFault _ (hold dt)
    · exact hold dt
  | armAlignedChange dt a =>
    dsimp only [exec, execArmAlignedChange] at he
    have h1 := h.inputs { (s.old dt).inputs with armAligned := a } (.inl rfl) (hold dt)
    refine State.reactWith_acts he ?_
    split
    · exact h.armReport _ h1
    · exact h1
  | rotationFaultChange dt b =>
    dsimp only [exec, execRotationFaultChange] at he
    have h1 := h.inputs { (s.old dt).inputs with rotationFault := b } (.inl rfl) (hold dt)
    refine State.reactWith_acts he ?_
    split
    · exact h.deckFault _ h1
    · exact h1
  | deckSensorChange dt a b d =>
    dsimp only [exec, execDeckSensorChange] at he
    exact State.reactWith_acts he (h.inputs _ (.inl rfl) (hold dt))
  | countReport dt n =>
    dsimp only [exec, execCountReport] at he
    refine State.reactWith_acts he ?_
    split
    · exact h.takeCounts trivial _ (hold dt)
    · exact hold dt
  | confirmedStepChange dt k =>
    dsimp only [exec, execConfirmedStepChange] at he
    exact State.reactWith_acts he (h.inputs _ (.inr trivial) (hold dt))
  | stepDwellEnd dt =>
    dsimp only [exec, execStepDwellEnd] at he
    exact State.onTimer_acts he (hold dt) (hold dt)
  | driveFaultChange dt b =>
    dsimp only [exec, execDriveFaultChange] at he
    have h1 := h.inputs { (s.old dt).inputs with driveFault := b } (.inl rfl) (hold dt)
    refine State.reactWith_acts he ?_
    split
    · exact h.stopOrder _ (h.raiseEmergency h1)
    · exact h1
  | inPositionActive dt =>
    dsimp only [exec, execInPositionActive] at he
    refine State.reactWith_acts he ?_
    split
    · exact h.takeInPosition (hold dt)
    · exact hold dt
  | dockingIndexChange dt b =>
    dsimp only [exec, execDockingIndexChange] at he
    have h1 := h.inputs { (s.old dt).inputs with dockRaw := b } (.inl rfl) (hold dt)
    refine State.reactWith_acts he ?_
    split
    · exact h.indexChanged h1
    · exact h1
  | dockingDebounceExpiry dt =>
    dsimp only [exec, execDockingDebounceExpiry] at he
    refine State.reactWith_acts he ?_
    split
    · exact h.indexSettled (hold dt)
    · exact hold dt
  | markerPresentChange dt b n =>
    dsimp only [exec, execMarkerPresentChange] at he
    have h1 := h.inputs { (s.old dt).inputs with markerPresent := b, markerNumber := n } (.inl rfl) (hold dt)
    refine State.reactWith_acts he ?_
    split
    · exact h.markerChange trivial trivial _ _ h1
    · exact h1
  | markerDebounceExpiry dt =>
    dsimp only [exec, execMarkerDebounceExpiry] at he
    refine State.reactWith_acts he ?_
    split
    · exact h.markerSettled trivial trivial (hold dt)
    · exact hold dt
  | atTopChange dt b l =>
    dsimp only [exec, execAtTopChange] at he
    refine State.reactWith_acts he ?_
    refine h.liftInput _ (fun hv => ?_) (h.inputs _ (.inl rfl) (hold dt))
    split
    · exact h.reachTop trivial hv
    · exact hv
  | atBottomChange dt b l =>
    dsimp only [exec, execAtBottomChange] at he
    refine State.reactWith_acts he ?_
    refine h.liftInput _ (fun hv => ?_) (h.inputs _ (.inl rfl) (hold dt))
    split
    · exact h.reachBottom trivial hv
    · exact hv
  | liftFaultChange dt b =>
    dsimp only [exec, execLiftFaultChange] at he
    refine State.reactWith_acts he ?_
    refine h.liftInput _ (fun hv => ?_) (h.inputs _ (.inl rfl) (hold dt))
    split
    · exact h.faultLift hv
    · exact hv
  | liftTimeout dt =>
    dsimp only [exec, execLiftTimeout] at he
    refine State.onTimer_acts he (hold dt) ?_
    split
    · exact h.faultLift (hold dt)
    · exact hold dt
  | parkWriteComplete dt =>
    dsimp only [exec, execParkWriteComplete] at he
    exact State.reactWith_acts he (h.writeComplete (hold dt))
  | carrierHeard dt =>
    dsimp only [exec, execCarrierHeard] at he
    exact State.reactWith_acts he (h.inputs _ (.inl rfl) (hold dt))

/-- What survives the elementary changes of `c`, the part has when the evaluations begin; what follows from it and survives
theirs, it has in the end. -/
theorem exec_keeps {c : Instr} {P R : Station → Prop} (h : Station.CommandStable c P) (hr : Station.EvalStable R)
    (hpr : ∀ {u}, P u → R u) {s t : State} (hold : ∀ dt, P (s.old dt)) (he : exec c s = .next t) : R t.station := by
  obtain ⟨dt, u, ev, hu, rfl⟩ := exec_acts h hold he
  exact hr.settle _ _ (hpr hu)

/-- A step runs the command at the front, or leaves the part as it is (log 23). -/
theorem step_keeps {R : Station → Prop} {s t : State} (hidle : R s.station)
    (hc : ∀ c (u : State), u.station = s.station → exec c u = .next t → R t.station) (he : step s = .next t) :
    R t.station := by
  unfold step at he
  split at he
  · cases he; exact hidle
  · next c rest _ => exact hc c { s with pending := rest } rfl he

end Sys2Proof.Machine
end

section
/-! PROOFS. No step takes a list or a count past its size (R37, R51, R55, R125, R155, R173, R181, R183). -/

namespace Sys2Proof.Machine

theorem ClaimBlock.bounded_default : ClaimBlock.bounded {} := by simp [ClaimBlock.bounded]

theorem Turntable.bounded_of_empty {t : Turntable} (hq : t.queue = []) : t.bounded := by simp [Turntable.bounded, hq]

theorem LineIf.queueBounded_of_empty {l : LineIf} (hq : l.queue = []) : l.queueBounded := by
  simp [LineIf.queueBounded, hq]

theorem Station.bounded_peers_default : ∀ i : Fin 29, PeerEntry.bounded (Vector.replicate 29 ({} : PeerEntry))[i] := by
  intro i
  simpa using PeerEntry.bounded_default

theorem Station.bounded_peer {s : Station} (h : s.bounded) (n : Nat) : (s.peer n).bounded := by
  unfold Station.peer
  split
  · exact PeerEntry.bounded_default
  · by_cases hn : n - 1 < 29
    · simpa [Vector.getElem?_eq_getElem hn] using h.peers ⟨n - 1, hn⟩
    · simpa [Vector.getElem?_eq_none (Nat.le_of_not_lt hn)] using PeerEntry.bounded_default

theorem Station.bounded_mapPeer {s : Station} (h : s.bounded) (n : Nat) {f : PeerEntry → PeerEntry}
    (hf : ∀ e : PeerEntry, e.bounded → (f e).bounded) : (s.mapPeer n f).bounded := by
  unfold Station.mapPeer Station.setPeer
  split
  · exact h
  · refine ⟨h.claims, h.owed, fun i => ?_, h.queue, h.counts, h.trail, h.requests⟩
    simp only [Station.withPeers_peers, Fin.getElem_fin, Vector.getElem_setIfInBounds]
    split
    · exact hf _ (Station.bounded_peer h n)
    · exact h.peers i

/-- Sizes survive the elementary changes. -/
theorem Station.bounded_stable : Station.EvalStable Station.bounded where
  passage _ h := ⟨h.claims, h.owed, h.peers, h.queue, h.counts, h.trail, h.requests⟩
  appr _ h := ⟨h.claims, h.owed, h.peers, h.queue, h.counts, h.trail, h.requests⟩
  backing _ h := ⟨h.claims, h.owed, h.peers, h.queue, h.counts, h.trail, h.requests⟩
  park _ h := ⟨h.claims, h.owed, h.peers, h.queue, h.counts, h.trail, h.requests⟩
  write _ h := ⟨h.claims, h.owed, h.peers, h.queue, h.counts, h.trail, h.requests⟩
  lift _ _ h := ⟨h.claims, h.owed, h.peers, h.queue, h.counts, h.trail, h.requests⟩
  trail _ ht h := ⟨h.claims, h.owed, h.peers, h.queue, h.counts, ht h.trail, h.requests⟩
  order _ ho h := ⟨h.claims, ho h.owed, h.peers, h.queue, h.counts, h.trail, h.requests⟩
  claims _ hc h := ⟨hc h.owed h.claims, h.owed, h.peers, h.queue, h.counts, h.trail, h.requests⟩
  queue _ hq h := ⟨h.claims, h.owed, h.peers, (LineIf.queueBounded_iff _).2 (hq ((LineIf.queueBounded_iff _).1 h.queue)),
    h.counts, h.trail, h.requests⟩
  schedule _ _ _ h := ⟨h.claims, h.owed, h.peers, h.queue, h.counts, h.trail, h.requests⟩
  start _ _ _ h := ⟨h.claims, h.owed, h.peers, h.queue, h.counts, h.trail, h.requests⟩
  tt _ ht _ h := ⟨h.claims, h.owed, h.peers, h.queue, h.counts, h.trail, ht h.requests⟩
  rotate _ _ _ h := ⟨h.claims, h.owed, h.peers, h.queue, h.counts, h.trail, h.requests⟩
  env _ _ _ _ _ _ h := ⟨h.claims, h.owed, h.peers, h.queue, h.counts, h.trail, h.requests⟩
  latch _ h := ⟨h.claims, h.owed, h.peers, h.queue, h.counts, h.trail, h.requests⟩
  raise _ h := ⟨h.claims, h.owed, h.peers, h.queue, h.counts, h.trail, h.requests⟩
  dir _ _ h := ⟨h.claims, h.owed, h.peers, h.queue, h.counts, h.trail, h.requests⟩
  deck h := ⟨h.claims, h.owed, h.peers, h.queue, h.counts, h.trail, h.requests⟩

theorem Station.bounded_resetAll (s : Station) : s.resetAll.bounded where
  claims := ClaimBlock.bounded_default
  owed := List.nodup_nil
  peers := Station.bounded_peers_default
  queue := LineIf.queueBounded_of_empty rfl
  counts := by simp [Station.resetAll]
  trail := Nat.zero_le _
  requests := Turntable.bounded_of_empty rfl

theorem Station.bounded_startFault (s : Station) (m : TrackMap) : (s.startFault m).bounded := by
  have h := s.bounded_resetAll
  exact ⟨h.claims, h.owed, h.peers, h.queue, h.counts, h.trail, h.requests⟩

/-- BOOT-READ ends in START-FAULT with some map tables, or every block is good (R189). -/
theorem Station.bootRead_cases (s : Station) (i : BootImage) :
    (∃ m, s.bootRead i = s.startFault m) ∨
    ∃ m k, s.bootRead i = s.bootGood (rawParams i.parameters).ordered m k i.parkDelivered := by
  unfold Station.bootRead
  split
  · exact .inl ⟨_, rfl⟩
  · extract_lets raw p m1 m2 m3
    split
    · exact .inl ⟨_, rfl⟩
    · split
      · exact .inl ⟨_, rfl⟩
      · split
        · exact .inl ⟨_, rfl⟩
        · split
          · exact .inl ⟨_, rfl⟩
          · exact .inr ⟨_, _, rfl⟩

/-- What a carriage settles at the end of BOOT-READ are tables, position, park marks, lift and docking index (R189). -/
theorem Station.bootCarriage_eq (s : Station) (b : Bool) : ∃ p k l x, s.bootCarriage b =
    ((((s.withEnv { s.env with
      emptyTable := stoppingTable s.par.ladder s.par.tr s.par.aEmpty
      loadedTable := stoppingTable s.par.ladder s.par.tr s.par.aLoaded }).withPos p).withPark k).withLift l).withIndex x := by
  refine ⟨(s.bootCarriage b).pos, (s.bootCarriage b).park, (s.bootCarriage b).lift, (s.bootCarriage b).index, ?_⟩
  unfold Station.bootCarriage
  extract_lets _ s1 _ s2 _ s3
  have h2 : s2 = (s1.withPos s2.pos).withPark s2.park := by
    simp only [s2]
    split <;> rfl
  have h3 : s3 = ((s1.withPos s3.pos).withPark s3.park).withLift s3.lift := by
    simp only [s3]
    rw [h2]
    rfl
  split
  · have h4 : s3.indexChanged = s3.withIndex s3.indexChanged.index := by
      unfold Station.indexChanged
      split <;> rfl
    rw [h4, h3]
    rfl
  · rw [h3]
    rfl

theorem Station.bounded_bringOnLine {s : Station} (h : s.bounded) : s.bringOnLine.bounded := by
  refine Station.bounded_stable.beaconFallsDue ?_
  split
  · exact ⟨h.claims, h.owed, h.peers, h.queue, h.counts, h.trail, h.requests⟩
  · exact ⟨h.claims, h.owed, h.peers, h.queue, h.counts, h.trail, h.requests⟩

theorem Station.bounded_bootGood {s : Station} (h : s.bounded) (p : Params) (m : TrackMap) (k b : Bool) :
    (s.bootGood p m k b).bounded := by
  have h1 : ((s.withPar p).withMap m).bounded := ⟨h.claims, h.owed, h.peers, h.queue, h.counts, h.trail, h.requests⟩
  unfold Station.bootGood
  extract_lets s1 s2
  have h2 : s2.bounded := by
    simp only [s2]
    split
    · obtain ⟨x, y, z, w, he⟩ := s1.bootCarriage_eq b
      rw [he]
      exact ⟨h1.claims, h1.owed, h1.peers, h1.queue, h1.counts, h1.trail, h1.requests⟩
    · exact h1
  exact Station.bounded_bringOnLine (s := s2.withStart _)
    ⟨h2.claims, h2.owed, h2.peers, h2.queue, h2.counts, h2.trail, h2.requests⟩

/-- Sizes survive every command. -/
theorem Station.bounded_commands (c : Instr) : Station.CommandStable c Station.bounded where
  toStable := Station.bounded_stable.toStable
  inputs _ _ h := ⟨h.claims, h.owed, h.peers, h.queue, h.counts, h.trail, h.requests⟩
  peers n _ hf h := Station.bounded_mapPeer h n hf
  index _ h := ⟨h.claims, h.owed, h.peers, h.queue, h.counts, h.trail, h.requests⟩
  line x hq hc _ h := ⟨h.claims, h.owed, h.peers, by
    have hb := h.queue
    rw [LineIf.queueBounded_iff] at hb
    exact (LineIf.queueBounded_iff _).2 (by rwa [← hq] at hb), hc h.counts, h.trail, h.requests⟩
  phase _ _ _ _ h := ⟨h.claims, h.owed, h.peers, h.queue, h.counts, h.trail, h.requests⟩
  pos _ _ _ _ h := ⟨h.claims, h.owed, h.peers, h.queue, h.counts, h.trail, h.requests⟩
  place _ _ _ _ _ _ h := ⟨h.claims, h.owed, h.peers, h.queue, h.counts, h.trail, h.requests⟩
  exit _ _ _ _ _ h := ⟨h.claims, h.owed, h.peers, h.queue, h.counts, h.trail, h.requests⟩
  load _ _ _ h := ⟨h.claims, h.owed, h.peers, h.queue, h.counts, h.trail, h.requests⟩
  mem h := ⟨h.claims, h.owed, h.peers, h.queue, h.counts, h.trail, h.requests⟩
  reset _ s _ := s.bounded_resetAll
  boot _ s i _ h := by
    obtain ⟨m, he⟩ | ⟨m, k, he⟩ := s.bootRead_cases i
    · rw [he]; exact s.bounded_startFault m
    · rw [he]; exact Station.bounded_bootGood h _ _ _ _

/-- Settles O49: the sizes survive each elementary change that commands and evaluations are made of. -/
theorem stepKeepsSizes : Obligations.StepKeepsSizes := by
  intro s t h he
  refine step_keeps h (fun c u hu hx => ?_) he
  have hold : ∀ dt, (u.old dt).bounded := fun dt => by
    rw [← hu] at h
    exact ⟨h.claims, h.owed, h.peers, h.queue, h.counts, h.trail, h.requests⟩
  exact exec_keeps (Station.bounded_commands c) Station.bounded_stable id hold hx

end Sys2Proof.Machine
end

section
/-! PROOFS. No step takes a figure out of its range (R18, R23, R33, R82, R190), and the stopping tables of every boot record
(R80, R82). -/

namespace Sys2Proof.Machine

/-! ## The ladder and the stopping tables (R80, R82) -/

theorem raiseToPrevious_length (x : Nat) (l : List Nat) : (raiseToPrevious x l).length = l.length := by
  induction l generalizing x with
  | nil => rfl
  | cons y l ih => simp [raiseToPrevious, ih]

/-- The second pass of R80 leaves no step below the one before it. -/
theorem raiseToPrevious_sorted (x : Nat) (l : List Nat) : (x :: raiseToPrevious x l).Pairwise (· ≤ ·) := by
  induction l generalizing x with
  | nil => simp [raiseToPrevious]
  | cons y l ih =>
    have h := ih (max x y)
    unfold raiseToPrevious
    refine List.pairwise_cons.2 ⟨fun z hz => ?_, h⟩
    obtain rfl | hz := List.mem_cons.1 hz
    · exact Nat.le_max_left ..
    · exact (Nat.le_max_left x y).trans ((List.pairwise_cons.1 h).1 z hz)

theorem raiseToPrevious_le {b x : Nat} {l : List Nat} (hx : x ≤ b) (hl : ∀ y ∈ l, y ≤ b) : ∀ y ∈ raiseToPrevious x l, y ≤ b := by
  induction l generalizing x with
  | nil => simp [raiseToPrevious]
  | cons z l ih =>
    have hm : max x z ≤ b := Nat.max_le.2 ⟨hx, hl z List.mem_cons_self⟩
    intro y hy
    obtain rfl | hy := List.mem_cons.1 hy
    · exact hm
    · exact ih hm (fun w hw => hl w (List.mem_cons_of_mem _ hw)) y hy

theorem clampTo_bounds {lo hi : Nat} (v : Nat) (h : lo ≤ hi) : lo ≤ clampTo lo hi v ∧ clampTo lo hi v ≤ hi := by
  unfold clampTo
  split
  · omega
  · split <;> omega

theorem orderLadder_sorted (l : List Nat) : (orderLadder l).Pairwise (· ≤ ·) := raiseToPrevious_sorted 0 _

theorem orderLadder_le (l : List Nat) : ∀ x ∈ orderLadder l, x ≤ 2500 := by
  intro x hx
  obtain rfl | hx := List.mem_cons.1 hx
  · exact Nat.zero_le _
  · refine raiseToPrevious_le (Nat.zero_le _) (fun y hy => ?_) x hx
    obtain ⟨z, -, rfl⟩ := List.mem_map.1 hy
    exact (clampTo_bounds z (by decide)).2

theorem orderLadder_length (l : List Nat) : (orderLadder l).length = l.length + 1 := by
  simp [orderLadder, raiseToPrevious_length]

/-- The ladder of a boot record is that of R80, whole. -/
theorem Params.ordered_ladder (p : Params) (i : Fin 8) :
    p.ordered.ladder[i] = (orderLadder p.ladder.toList.tail)[i]'(by
      rw [orderLadder_length, List.length_tail, Vector.length_toList]; exact i.isLt) := by
  have : i.val < (orderLadder p.ladder.toList.tail).length := by
    rw [orderLadder_length, List.length_tail, Vector.length_toList]; exact i.isLt
  simp [Params.ordered, List.getElem?_eq_getElem this]

theorem Params.ordered_ladder_mono (p : Params) {i j : Fin 8} (h : i ≤ j) : p.ordered.ladder[i] ≤ p.ordered.ladder[j] := by
  rw [p.ordered_ladder, p.ordered_ladder]
  obtain h | rfl := lt_or_eq_of_le h
  · exact List.pairwise_iff_getElem.1 (orderLadder_sorted _) _ _ _ _ h
  · exact Nat.le_refl _

theorem Params.ordered_ladder_le (p : Params) (i : Fin 8) : p.ordered.ladder[i] ≤ 2500 := by
  rw [p.ordered_ladder]
  exact orderLadder_le _ _ (List.getElem_mem _)

theorem ceilDiv_mono {a b : Nat} (c : Nat) (h : a ≤ b) : ceilDiv a c ≤ ceilDiv b c := Nat.div_le_div_right (by omega)

theorem stopDistance_mono {v w : Nat} (tr a : Nat) (h : v ≤ w) : stopDistance tr a v ≤ stopDistance tr a w :=
  Nat.add_le_add (ceilDiv_mono _ (Nat.mul_le_mul_right _ h)) (ceilDiv_mono _ (Nat.mul_le_mul h h))

theorem stoppingTable_getElem (l : Vector Nat 8) (tr a : Nat) (i : Fin 8) :
    (stoppingTable l tr a)[i] = stopDistance tr a l[i] := by
  simp [stoppingTable]

/-- A stopping table over an ordered ladder does not fall with the step (R82). -/
theorem stoppingTable_mono (p : Params) (tr a : Nat) {i j : Fin 8} (h : i ≤ j) :
    (stoppingTable p.ordered.ladder tr a)[i] ≤ (stoppingTable p.ordered.ladder tr a)[j] := by
  rw [stoppingTable_getElem, stoppingTable_getElem]
  exact stopDistance_mono _ _ (p.ordered_ladder_mono h)

/-- At 2500 mm/s, with the longest reaction time and the lowest deceleration, the two quotients are 5000 and 156250. -/
theorem stopDistance_le {tr a v : Nat} (hv : v ≤ 2500) (htr : tr ≤ 2000) (ha : 20 ≤ a) : stopDistance tr a v ≤ 161250 := by
  have h1 : ceilDiv (v * tr) 1000 ≤ 5000 :=
    (ceilDiv_mono _ (Nat.mul_le_mul hv htr)).trans (by decide)
  have h2 : ceilDiv (v * v) (2 * a) ≤ 156250 := by
    have hvv : v * v ≤ 6250000 := Nat.mul_le_mul hv hv
    unfold ceilDiv
    rw [Nat.div_le_iff_le_mul_add_pred (by omega)]
    omega
  exact Nat.add_le_add h1 h2

/-- Settles O57: the ladder of R80 is ordered, begins with 0 and stays within 2500 mm/s. -/
theorem stoppingTablesRise : Obligations.StoppingTablesRise := by
  intro l a p ha
  have hbounds : p.tr ≤ 2000 ∧ 20 ≤ a := by
    refine ⟨(clampTo_bounds _ (by decide)).2, ?_⟩
    obtain rfl | rfl := ha <;> exact (clampTo_bounds _ (by decide)).1
  refine ⟨?zero, fun i => ?entry, fun i j h => stoppingTable_mono _ _ _ h, fun i => ?bound⟩
  case zero =>
    have h0 : p.ladder[(0 : Fin 8)] = 0 := by
      rw [Params.ordered_ladder]; rfl
    have h := stoppingTable_getElem p.ladder p.tr a 0
    rw [h0] at h
    have hz : stopDistance p.tr a 0 = 0 := by
      have : (2 * a - 1) / (2 * a) = 0 := Nat.div_eq_of_lt (by omega)
      simp [stopDistance, ceilDiv, this]
    exact h.trans hz
  case entry =>
    rw [stoppingTable_getElem, stopDistance, ceilDiv, ceilDiv]
    have : 1 ≤ 2 * a := by omega
    rw [Nat.add_sub_assoc (by decide : 1 ≤ 1000), Nat.add_sub_assoc this]
  case bound =>
    rw [stoppingTable_getElem]
    exact stopDistance_le (Params.ordered_ladder_le _ i) hbounds.1 hbounds.2

/-! ## The figures -/

theorem Station.figures_iff (s : Station) : s.figures ↔
    s.pos.Fits ∧ (10 ≤ s.par.centring ∧ s.par.centring ≤ 1000) ∧ s.env.tablesRise :=
  ⟨fun h => ⟨⟨h.u, h.uRef, h.unknown⟩, h.centring, h.tables⟩, fun ⟨hp, hc, ht⟩ => ⟨hp.u, hp.uRef, hp.unknown, hc, ht⟩⟩

theorem Envelope.tablesRise_congr {e x : Envelope} (he : x.emptyTable = e.emptyTable) (hl : x.loadedTable = e.loadedTable)
    (h : e.tablesRise) : x.tablesRise := by
  unfold Envelope.tablesRise
  rw [he, hl]
  exact h

theorem Envelope.tablesRise_default : Envelope.tablesRise {} := by
  intro i j _
  simp

theorem Position.fits_default : Position.Fits {} := by constructor <;> simp

/-- Figures survive the elementary changes. -/
theorem Station.figures_stable : Station.EvalStable Station.figures where
  passage _ h := ⟨h.u, h.uRef, h.unknown, h.centring, h.tables⟩
  appr _ h := ⟨h.u, h.uRef, h.unknown, h.centring, h.tables⟩
  backing _ h := ⟨h.u, h.uRef, h.unknown, h.centring, h.tables⟩
  park _ h := ⟨h.u, h.uRef, h.unknown, h.centring, h.tables⟩
  write _ h := ⟨h.u, h.uRef, h.unknown, h.centring, h.tables⟩
  lift _ _ h := ⟨h.u, h.uRef, h.unknown, h.centring, h.tables⟩
  trail _ _ h := ⟨h.u, h.uRef, h.unknown, h.centring, h.tables⟩
  order _ _ h := ⟨h.u, h.uRef, h.unknown, h.centring, h.tables⟩
  claims _ _ h := ⟨h.u, h.uRef, h.unknown, h.centring, h.tables⟩
  queue _ _ h := ⟨h.u, h.uRef, h.unknown, h.centring, h.tables⟩
  schedule _ _ _ h := ⟨h.u, h.uRef, h.unknown, h.centring, h.tables⟩
  start _ _ _ h := ⟨h.u, h.uRef, h.unknown, h.centring, h.tables⟩
  tt _ _ _ h := ⟨h.u, h.uRef, h.unknown, h.centring, h.tables⟩
  rotate _ _ _ h := ⟨h.u, h.uRef, h.unknown, h.centring, h.tables⟩
  env _ _ _ he hl _ h := ⟨h.u, h.uRef, h.unknown, h.centring, Envelope.tablesRise_congr he hl h.tables⟩
  latch _ h := ⟨h.u, h.uRef, h.unknown, h.centring, h.tables⟩
  raise _ h := ⟨h.u, h.uRef, h.unknown, h.centring, h.tables⟩
  dir _ _ h := ⟨h.u, h.uRef, h.unknown, h.centring, h.tables⟩
  deck h := ⟨h.u, h.uRef, nofun, h.centring, h.tables⟩

theorem Station.figures_resetAll (s : Station) : s.resetAll.figures :=
  (Station.figures_iff _).2 ⟨Position.fits_default, by simp [Station.resetAll], Envelope.tablesRise_default⟩

/-- The position at the end of BOOT-READ is that before it, or that of an accepted park record (R35). -/
theorem Station.bootCarriage_pos (s : Station) (b : Bool) : (s.bootCarriage b).pos = s.pos ∨
    ∃ l x, (s.bootCarriage b).pos = s.pos.reference l x Config.uMin s.par.drift := by
  unfold Station.bootCarriage
  extract_lets _ s1 _ s2 _ s3
  have h3 : s2.pos = s.pos ∨ ∃ l x, s2.pos = s.pos.reference l x Config.uMin s.par.drift := by
    simp only [s2]
    split
    · exact .inr ⟨_, _, rfl⟩
    · exact .inl rfl
  split
  · have : s3.indexChanged.pos = s2.pos := by unfold Station.indexChanged; split <;> rfl
    rwa [this]
  · exact h3

theorem Position.fits_reference (p : Position) (l : Nat) (x : Chainage) {r : Nat} (d : Nat) (hr : 10 ≤ r ∧ r ≤ 2000) :
    (p.reference l x r d).Fits := Position.fits_recompute _ hr

theorem Station.figures_bringOnLine {s : Station} (h : s.figures) : s.bringOnLine.figures := by
  refine Station.figures_stable.beaconFallsDue ?_
  split
  · exact ⟨h.u, h.uRef, h.unknown, h.centring, h.tables⟩
  · exact ⟨h.u, h.uRef, h.unknown, h.centring, h.tables⟩

theorem Station.figures_bootGood {s : Station} (h : s.figures) (p : Params) (m : TrackMap) (k b : Bool) :
    (s.bootGood p.ordered m k b).figures := by
  have hcentring : 10 ≤ p.ordered.centring ∧ p.ordered.centring ≤ 1000 := clampTo_bounds _ (by decide)
  unfold Station.bootGood
  extract_lets s1 s2
  have h2 : s2.figures := by
    simp only [s2]
    split
    · have hpos := s1.bootCarriage_pos b
      obtain ⟨x, y, z, w, he⟩ := s1.bootCarriage_eq b
      rw [he] at hpos ⊢
      refine (Station.figures_iff _).2 ⟨?_, hcentring, fun i j hij => ⟨stoppingTable_mono _ _ _ hij, stoppingTable_mono _ _ _ hij⟩⟩
      obtain hpos | ⟨l, c, hpos⟩ := hpos
      · exact hpos ▸ ((Station.figures_iff s).1 h).1
      · exact hpos ▸ Position.fits_reference _ _ _ _ ⟨Nat.le_refl 10, by simp [Config.uMin]⟩
    · exact ⟨h.u, h.uRef, h.unknown, hcentring, h.tables⟩
  exact Station.figures_bringOnLine (s := s2.withStart _) ⟨h2.u, h2.uRef, h2.unknown, h2.centring, h2.tables⟩

/-- Figures survive every command. -/
theorem Station.figures_commands (c : Instr) : Station.CommandStable c Station.figures where
  toStable := Station.figures_stable.toStable
  inputs _ _ h := ⟨h.u, h.uRef, h.unknown, h.centring, h.tables⟩
  peers n f _ h := by
    rw [Station.mapPeer_eq]
    exact ⟨h.u, h.uRef, h.unknown, h.centring, h.tables⟩
  index _ h := ⟨h.u, h.uRef, h.unknown, h.centring, h.tables⟩
  line _ _ _ _ h := ⟨h.u, h.uRef, h.unknown, h.centring, h.tables⟩
  phase _ _ _ _ h := ⟨h.u, h.uRef, h.unknown, h.centring, h.tables⟩
  pos _ _ _ hp h := (Station.figures_iff _).2 ⟨hp ((Station.figures_iff _).1 h).1, h.centring, h.tables⟩
  place _ _ _ _ _ hp h := (Station.figures_iff _).2 ⟨hp ((Station.figures_iff _).1 h).1, h.centring, h.tables⟩
  exit _ _ _ _ hp h := (Station.figures_iff _).2 ⟨hp h.centring, h.centring, h.tables⟩
  load _ _ _ h := ⟨h.u, h.uRef, h.unknown, h.centring, h.tables⟩
  mem h := ⟨h.u, h.uRef, h.unknown, h.centring, h.tables⟩
  reset _ s _ := s.figures_resetAll
  boot _ s i _ h := by
    obtain ⟨m, he⟩ | ⟨m, k, he⟩ := s.bootRead_cases i
    · have hr := s.figures_resetAll
      rw [he]
      exact ⟨hr.u, hr.uRef, hr.unknown, hr.centring, hr.tables⟩
    · rw [he]; exact Station.figures_bootGood h _ _ _ _

/-- Settles O50: the figures survive each elementary change that commands and evaluations are made of. -/
theorem stepKeepsFigures : Obligations.StepKeepsFigures := by
  intro s t h he
  refine step_keeps h (fun c u hu hx => ?_) he
  have hold : ∀ dt, (u.old dt).figures := fun dt => by
    rw [← hu] at h
    exact ⟨h.u, h.uRef, h.unknown, h.centring, h.tables⟩
  exact exec_keeps (Station.figures_commands c) Station.figures_stable id hold hx

end Sys2Proof.Machine
end

section
/-! PROOFS. What no command but a reset or the end of BOOT-READ changes, the one record that a step writes, and how step and
direction may change. -/

namespace Sys2Proof

theorem Instr.not_resets {c : Instr} (h : ∀ dt, c ≠ .resetAsserted dt) : ¬c.resets := by
  cases c <;> simp_all [Instr.resets]

theorem Instr.not_boots {c : Instr} (h : ∀ dt i l, c ≠ .bootReadComplete dt i l) : ¬c.boots := by
  cases c <;> simp_all [Instr.boots]

theorem Instr.not_exits {c : Instr} (h : ∀ dt hd a b, c ≠ .turnAnswerExit dt hd a b)
    (k : ∀ dt p b, c ≠ .turntableBeaconReceived dt p b) : ¬c.exits := by
  intro hc
  cases c with
  | turnAnswerExit => exact h _ _ _ _ rfl
  | turntableBeaconReceived => exact k _ _ _ rfl
  | _ => exact hc

theorem Instr.marks_iff (c : Instr) : c.marks ↔
    (∃ dt p n, c = .markerPresentChange dt p n) ∨ ∃ dt, c = .markerDebounceExpiry dt := by
  cases c <;> simp [Instr.marks]

theorem Instr.places_iff (c : Instr) : c.places ↔
    (∃ dt n, c = .countReport dt n) ∨ (∃ dt p n, c = .markerPresentChange dt p n) ∨
      (∃ dt, c = .markerDebounceExpiry dt) ∨ ∃ dt o l x n, c = .orderSetPosition dt o l x n := by
  cases c <;> simp [Instr.places]

theorem Instr.endsLift_iff (c : Instr) : c.endsLift ↔
    (∃ dt a l, c = .atTopChange dt a l) ∨ ∃ dt a l, c = .atBottomChange dt a l := by
  cases c <;> simp [Instr.endsLift]

end Sys2Proof

namespace Sys2Proof.Machine

/-! ## The boot memory (R191) -/

/-- The memory is in canonical form, and reads outside the park record as `m` does. -/
def Memory.AgreesOffPark (m0 m : Memory) : Prop := m.wf = true ∧ ∀ a, a < 3133 ∨ 3142 < a → m.read a = m0.read a

theorem ParkRecord.bytes_length (r : ParkRecord) : r.bytes.length = 9 := by
  simp [ParkRecord.bytes, ParkRecord.fields, be16, be24Signed, be24]

theorem Memory.AgreesOffPark.write {m0 m : Memory} (h : Memory.AgreesOffPark m0 m) (v : Byte) :
    Memory.AgreesOffPark m0 (m.write parkBase v) :=
  ⟨Memory.wf_write _ _ _ h.1, fun a ha => by
    rw [Memory.read_write_other _ _ (by simp only [parkBase]; omega)]; exact h.2 a ha⟩

theorem Memory.AgreesOffPark.writeRecord {m0 m : Memory} (h : Memory.AgreesOffPark m0 m) (v : Byte) (r : ParkRecord) :
    Memory.AgreesOffPark m0 (m.writeAll parkBase (v :: r.bytes)) :=
  ⟨Memory.wf_writeAll _ _ _ h.1, fun a ha => by
    rw [Memory.read_writeAll_other _ _ _ _ (by simp only [List.length_cons, r.bytes_length, parkBase]; omega)]
    exact h.2 a ha⟩

theorem Station.bootMem_bringOnLine (s : Station) : s.bringOnLine.bootMem = s.bootMem := by
  have hb (u : Station) : u.beaconFallsDue.bootMem = u.bootMem :=
    (congrArg Station.bootMem u.bare_beaconFallsDue : u.beaconFallsDue.bare.bootMem = u.bare.bootMem)
  unfold Station.bringOnLine
  extract_lets b _ s1 _ _ s2
  rw [hb]
  simp only [s2]
  split <;> rfl

theorem Station.bootMem_bootRead (s : Station) (i : BootImage) : (s.bootRead i).bootMem = s.bootMem := by
  obtain ⟨m, he⟩ | ⟨m, k, he⟩ := s.bootRead_cases i
  · rw [he]; rfl
  · rw [he]
    unfold Station.bootGood
    extract_lets s1 s2
    rw [Station.bootMem_bringOnLine]
    change s2.bootMem = s.bootMem
    simp only [s2]
    split
    · obtain ⟨x, y, z, w, he⟩ := s1.bootCarriage_eq i.parkDelivered
      rw [he]; rfl
    · rfl

theorem Station.bootMem_stable (m : Memory) : Station.EvalStable fun s => m.AgreesOffPark s.bootMem where
  passage _ h := h
  appr _ h := h
  backing _ h := h
  park _ h := h
  write r h := h.writeRecord _ r
  lift _ _ h := h
  trail _ _ h := h
  order _ _ h := h
  claims _ _ h := h
  queue _ _ h := h
  schedule _ _ _ h := h
  start _ _ _ h := h
  tt _ _ _ h := h
  rotate _ _ _ h := h
  env _ _ _ _ _ _ h := h
  latch _ h := h
  raise _ h := h
  dir _ _ h := h
  deck h := h

theorem Station.bootMem_commands (c : Instr) (m : Memory) :
    Station.CommandStable c fun s => m.AgreesOffPark s.bootMem where
  toStable := (Station.bootMem_stable m).toStable
  inputs _ _ h := h
  peers n f _ h := by rw [Station.mapPeer_eq]; exact h
  index _ h := h
  line _ _ _ _ h := h
  phase _ _ _ _ h := h
  pos _ _ _ _ h := h
  place _ _ _ _ _ _ h := h
  exit _ _ _ _ _ h := h
  load _ _ _ h := h
  mem h := h.write _
  reset _ _ h := h
  boot _ s i _ h := by rw [Station.bootMem_bootRead]; exact h

/-- Settles O52: a park write is the one change of the boot memory among the elementary changes. -/
theorem stepWritesOnlyTheParkRecord : Obligations.StepWritesOnlyTheParkRecord := by
  intro s t h he
  have h0 : Memory.AgreesOffPark s.station.bootMem s.station.bootMem := ⟨h, fun _ _ => rfl⟩
  refine step_keeps (R := fun u => Memory.AgreesOffPark s.station.bootMem u.bootMem) h0 (fun c u hu hx => ?_) he
  rw [← hu] at h0 ⊢
  exact exec_keeps (Station.bootMem_commands c _) (Station.bootMem_stable _) id (fun _ => h0) hx

/-! ## What stays between resets -/

/-- From `s` to `u` under `c`: what O56 lists has changed only where `c` may change it. -/
structure Station.FixedFrom (c : Instr) (s u : Station) : Prop where
  map : u.map = s.map
  par : u.par = s.par
  empty : u.env.emptyTable = s.env.emptyTable
  loaded : u.env.loadedTable = s.env.loadedTable
  clamped : u.start.clamped = s.start.clamped
  fault : s.line.fault = true → u.line.fault = true
  load : ¬c.endsLift → u.lift.load = s.lift.load
  doubtSet : ¬c.places → u.pos.doubt = s.pos.doubt
  doubtCleared : ¬c.marks → s.pos.doubt = true → u.pos.doubt = true

theorem Station.fixedFrom_stable (c : Instr) (s : Station) : Station.EvalStable (Station.FixedFrom c s) where
  passage _ h := ⟨h.map, h.par, h.empty, h.loaded, h.clamped, h.fault, h.load, h.doubtSet, h.doubtCleared⟩
  appr _ h := ⟨h.map, h.par, h.empty, h.loaded, h.clamped, h.fault, h.load, h.doubtSet, h.doubtCleared⟩
  backing _ h := ⟨h.map, h.par, h.empty, h.loaded, h.clamped, h.fault, h.load, h.doubtSet, h.doubtCleared⟩
  park _ h := ⟨h.map, h.par, h.empty, h.loaded, h.clamped, h.fault, h.load, h.doubtSet, h.doubtCleared⟩
  write _ h := ⟨h.map, h.par, h.empty, h.loaded, h.clamped, h.fault, h.load, h.doubtSet, h.doubtCleared⟩
  lift _ hx h := ⟨h.map, h.par, h.empty, h.loaded, h.clamped, h.fault, fun hc => hx.trans (h.load hc), h.doubtSet,
    h.doubtCleared⟩
  trail _ _ h := ⟨h.map, h.par, h.empty, h.loaded, h.clamped, h.fault, h.load, h.doubtSet, h.doubtCleared⟩
  order _ _ h := ⟨h.map, h.par, h.empty, h.loaded, h.clamped, h.fault, h.load, h.doubtSet, h.doubtCleared⟩
  claims _ _ h := ⟨h.map, h.par, h.empty, h.loaded, h.clamped, h.fault, h.load, h.doubtSet, h.doubtCleared⟩
  queue _ _ h := ⟨h.map, h.par, h.empty, h.loaded, h.clamped, h.fault, h.load, h.doubtSet, h.doubtCleared⟩
  schedule _ _ _ h := ⟨h.map, h.par, h.empty, h.loaded, h.clamped, h.fault, h.load, h.doubtSet, h.doubtCleared⟩
  start _ hx _ h := ⟨h.map, h.par, h.empty, h.loaded, hx.trans h.clamped, h.fault, h.load, h.doubtSet, h.doubtCleared⟩
  tt _ _ _ h := ⟨h.map, h.par, h.empty, h.loaded, h.clamped, h.fault, h.load, h.doubtSet, h.doubtCleared⟩
  rotate _ _ _ h := ⟨h.map, h.par, h.empty, h.loaded, h.clamped, h.fault, h.load, h.doubtSet, h.doubtCleared⟩
  env _ _ _ he hl _ h := ⟨h.map, h.par, he.trans h.empty, hl.trans h.loaded, h.clamped, h.fault, h.load, h.doubtSet,
    h.doubtCleared⟩
  latch _ h := ⟨h.map, h.par, h.empty, h.loaded, h.clamped, h.fault, h.load, h.doubtSet, h.doubtCleared⟩
  raise _ h := ⟨h.map, h.par, h.empty, h.loaded, h.clamped, h.fault, h.load, h.doubtSet, h.doubtCleared⟩
  dir _ _ h := ⟨h.map, h.par, h.empty, h.loaded, h.clamped, h.fault, h.load, h.doubtSet, h.doubtCleared⟩
  deck h := ⟨h.map, h.par, h.empty, h.loaded, h.clamped, h.fault, h.load, h.doubtSet, h.doubtCleared⟩

theorem Station.fixedFrom_commands {c : Instr} (hreset : ¬c.resets) (hboot : ¬c.boots) (s : Station) :
    Station.CommandStable c (Station.FixedFrom c s) where
  toStable := (Station.fixedFrom_stable c s).toStable
  inputs _ _ h := ⟨h.map, h.par, h.empty, h.loaded, h.clamped, h.fault, h.load, h.doubtSet, h.doubtCleared⟩
  peers n f _ h := by
    rw [Station.mapPeer_eq]
    exact ⟨h.map, h.par, h.empty, h.loaded, h.clamped, h.fault, h.load, h.doubtSet, h.doubtCleared⟩
  index _ h := ⟨h.map, h.par, h.empty, h.loaded, h.clamped, h.fault, h.load, h.doubtSet, h.doubtCleared⟩
  line _ _ _ hf h := ⟨h.map, h.par, h.empty, h.loaded, h.clamped, fun h0 => hf (h.fault h0), h.load, h.doubtSet,
    h.doubtCleared⟩
  phase _ hx _ _ h := ⟨h.map, h.par, h.empty, h.loaded, hx.trans h.clamped, h.fault, h.load, h.doubtSet, h.doubtCleared⟩
  pos _ _ hd _ h := ⟨h.map, h.par, h.empty, h.loaded, h.clamped, h.fault, h.load, fun hc => hd.trans (h.doubtSet hc),
    fun hc h0 => hd.trans (h.doubtCleared hc h0)⟩
  place hc u p _ hd _ h := ⟨h.map, h.par, h.empty, h.loaded, h.clamped, h.fault, h.load, fun hn => absurd hc hn,
    fun hn h0 => by
      cases hp : p.doubt
      · exact absurd (hd hp (h.doubtCleared hn h0)) hn
      · exact hp⟩
  exit _ _ _ hd _ h := ⟨h.map, h.par, h.empty, h.loaded, h.clamped, h.fault, h.load, fun hc => hd.trans (h.doubtSet hc),
    fun hc h0 => hd.trans (h.doubtCleared hc h0)⟩
  load hc _ _ h := ⟨h.map, h.par, h.empty, h.loaded, h.clamped, h.fault, fun hn => absurd hc hn, h.doubtSet,
    h.doubtCleared⟩
  mem h := ⟨h.map, h.par, h.empty, h.loaded, h.clamped, h.fault, h.load, h.doubtSet, h.doubtCleared⟩
  reset hc := absurd hc hreset
  boot hc := absurd hc hboot

/-- Settles O56: none of these is among the elementary changes of another command. -/
theorem fixedUntilReset : Obligations.FixedUntilReset := by
  intro c s t hreset hboot he
  have hf : Station.FixedFrom c s.station t.station :=
    exec_keeps (Station.fixedFrom_commands (Instr.not_resets hreset) (Instr.not_boots hboot) s.station)
      (Station.fixedFrom_stable c s.station) id
      (fun dt => ⟨rfl, rfl, rfl, rfl, rfl, id, fun _ => rfl, fun _ => rfl, fun _ => id⟩) he
  refine ⟨hf.map, hf.par, hf.empty, hf.loaded, hf.clamped, hf.fault, fun hne => ?_, fun h1 h0 => ?_, fun h0 h1 => ?_⟩
  · exact c.endsLift_iff.1 (by_contra fun hn => hne (hf.load hn))
  · exact c.places_iff.1 (by_contra fun hn => by simp [hf.doubtSet hn, h0] at h1)
  · exact c.marks_iff.1 (by_contra fun hn => by simp [hf.doubtCleared hn h1] at h0)

/-! ## How the commanded step rises (R91) -/

/-- From a commanded step `k` there has been no raise beyond it, or one, now, from `k` confirmed. -/
def Station.RoseOnce (k : Nat) (s : Station) : Prop :=
  1 ≤ s.par.dwell ∧ (s.env.commanded ≤ k ∨
    (s.env.commanded = k + 1 ∧ s.inputs.confirmed = k ∧ s.env.lastRaise = some s.ms))

theorem Station.roseOnce_env {k : Nat} {s : Station} {x : Envelope} (hx : x.commanded ≤ s.env.commanded)
    (hl : x.lastRaise = s.env.lastRaise) (h : s.RoseOnce k) : (s.withEnv x).RoseOnce k := by
  obtain ⟨hd, h | ⟨hc, hi, hr⟩⟩ := h
  · exact ⟨hd, .inl (hx.trans h)⟩
  · obtain hlt | heq := Nat.lt_or_eq_of_le (hc ▸ hx)
    · exact ⟨hd, .inl (Nat.le_of_lt_succ hlt)⟩
    · exact ⟨hd, .inr ⟨heq, hi, hl.trans hr⟩⟩

/-- A second raise finds the dwell not over. -/
theorem Station.roseOnce_raised {k : Nat} {s : Station} (hm : s.mayRaise) (h : s.RoseOnce k) : s.raised.RoseOnce k := by
  obtain ⟨-, -, hconf, hdwell, -⟩ := hm
  obtain ⟨hd, h | ⟨-, -, hr⟩⟩ := h
  · obtain hlt | rfl := Nat.lt_or_eq_of_le h
    · exact ⟨hd, .inl hlt⟩
    · exact ⟨hd, .inr ⟨rfl, hconf, rfl⟩⟩
  · simp only [Station.dwellOver, hr, decide_eq_true_eq] at hdwell
    omega

theorem Station.roseOnce_stable (k : Nat) : Station.EvalStable (Station.RoseOnce k) where
  passage _ h := h
  appr _ h := h
  backing _ h := h
  park _ h := h
  write _ h := h
  lift _ _ h := h
  trail _ _ h := h
  order _ _ h := h
  claims _ _ h := h
  queue _ _ h := h
  schedule _ _ _ h := h
  start _ _ _ h := h
  tt _ _ _ h := h
  rotate _ _ _ h := h
  env _ hx hl _ _ _ h := Station.roseOnce_env hx hl h
  latch _ h := Station.roseOnce_env (Nat.zero_le _) rfl h
  raise hm h := Station.roseOnce_raised hm h
  dir _ _ h := h
  deck h := h

theorem Station.roseOnce_bringOnLine {k : Nat} {s : Station} (h : s.RoseOnce k) : s.bringOnLine.RoseOnce k := by
  refine (Station.roseOnce_stable k).beaconFallsDue ?_
  split <;> exact h

theorem Station.roseOnce_bootGood {k : Nat} {s : Station} (h : s.RoseOnce k) {p : Params} (hp : 1 ≤ p.dwell) (m : TrackMap)
    (a b : Bool) : (s.bootGood p m a b).RoseOnce k := by
  unfold Station.bootGood
  extract_lets s1 s2
  have h2 : s2.RoseOnce k := by
    simp only [s2]
    split
    · obtain ⟨x, y, z, w, he⟩ := s1.bootCarriage_eq b
      rw [he]
      exact ⟨hp, h.2⟩
    · exact ⟨hp, h.2⟩
  exact Station.roseOnce_bringOnLine (s := s2.withStart _) h2

theorem Station.roseOnce_resetAll (k : Nat) (s : Station) : s.resetAll.RoseOnce k :=
  ⟨by simp [Station.resetAll], .inl (Nat.zero_le _)⟩

theorem Station.roseOnce_bootRead {k : Nat} {s : Station} (i : BootImage) (h : s.RoseOnce k) : (s.bootRead i).RoseOnce k := by
  obtain ⟨m, he⟩ | ⟨m, b, he⟩ := s.bootRead_cases i
  · rw [he]
    exact s.roseOnce_resetAll k
  · rw [he]
    exact Station.roseOnce_bootGood h ((by decide : 1 ≤ 200).trans (clampTo_bounds (hi := 3000) _ (by decide)).1) _ _ _

theorem Station.roseOnce_commands {c : Instr} (hc : ¬c.confirms) (k : Nat) :
    Station.CommandStable c (Station.RoseOnce k) where
  toStable := (Station.roseOnce_stable k).toStable
  inputs x hx h := by
    obtain hx | hx := hx
    · obtain ⟨hd, h | ⟨he, hi, hr⟩⟩ := h
      · exact ⟨hd, .inl h⟩
      · exact ⟨hd, .inr ⟨he, hx.trans hi, hr⟩⟩
    · exact absurd hx hc
  peers n f _ h := by rw [Station.mapPeer_eq]; exact h
  index _ h := h
  line _ _ _ _ h := h
  phase _ _ _ _ h := h
  pos _ _ _ _ h := h
  place _ _ _ _ _ _ h := h
  exit _ _ _ _ _ h := h
  load _ _ _ h := h
  mem h := h
  reset _ s _ := s.roseOnce_resetAll k
  boot _ _ i _ h := Station.roseOnce_bootRead i h

/-! ## When the direction changes (R93) -/

/-- The direction is `d`, or the drive stands. -/
def Station.TurnedAtRest (d : Dir) (s : Station) : Prop := s.pos.dir ≠ d → s.inputs.confirmed = 0

theorem Station.turnedAtRest_stable (d : Dir) : Station.EvalStable (Station.TurnedAtRest d) where
  passage _ h := h
  appr _ h := h
  backing _ h := h
  park _ h := h
  write _ h := h
  lift _ _ h := h
  trail _ _ h := h
  order _ _ h := h
  claims _ _ h := h
  queue _ _ h := h
  schedule _ _ _ h := h
  start _ _ _ h := h
  tt _ _ _ h := h
  rotate _ _ _ h := h
  env _ _ _ _ _ _ h := h
  latch _ h := h
  raise _ h := h
  dir _ he _ _ := Nat.le_zero.1 (he ▸ Nat.le_max_right ..)
  deck h := h

theorem Station.turnedAtRest_commands {c : Instr} (hreset : ¬c.resets) (hboot : ¬c.boots) (hexit : ¬c.exits)
    (hconf : ¬c.confirms) (d : Dir) : Station.CommandStable c (Station.TurnedAtRest d) where
  toStable := (Station.turnedAtRest_stable d).toStable
  inputs x hx h := by
    obtain hx | hx := hx
    · exact fun hd => hx.trans (h hd)
    · exact absurd hx hconf
  peers n f _ h := by rw [Station.mapPeer_eq]; exact h
  index _ h := h
  line _ _ _ _ h := h
  phase _ _ _ _ h := h
  pos _ hp _ _ h := fun hd => h (hp ▸ hd)
  place _ _ _ hp _ _ h := fun hd => h (hp ▸ hd)
  exit hc := absurd hc hexit
  load _ _ _ h := h
  mem h := h
  reset hc := absurd hc hreset
  boot hc := absurd hc hboot

/-- CONFIRMED_STEP_CHANGE by itself moves neither step nor direction, so what the evaluations keep holds after it. -/
theorem confirms_keeps {c : Instr} (hc : c.confirms) {R : Station → Prop} (hr : Station.EvalStable R) {s t : State}
    (hold : ∀ dt i, R ((s.old dt).withInputs i)) (he : exec c s = .next t) : R t.station := by
  cases c <;> try exact hc.elim
  dsimp only [exec, execConfirmedStepChange] at he
  exact State.reactWith_keeps he hr (hold _ _)

/-- Settles O55: within a command a second raise finds the dwell not over, and the direction is set at effective step 0. -/
theorem stepsRiseByOneAndTurnsWaitForRest : Obligations.StepsRiseByOneAndTurnsWaitForRest := by
  refine ⟨fun c s t hdwell he hlt => ?_, fun c s t hreset hboot hexit hbeacon he => ?_⟩
  · have h : t.station.RoseOnce s.station.env.commanded := by
      by_cases hc : c.confirms
      · exact confirms_keeps hc (Station.roseOnce_stable _) (fun _ _ => ⟨hdwell, .inl (Nat.le_refl _)⟩) he
      · exact exec_keeps (Station.roseOnce_commands hc _) (Station.roseOnce_stable _) id
          (fun _ => ⟨hdwell, .inl (Nat.le_refl _)⟩) he
    obtain ⟨-, h | h⟩ := h
    · omega
    · exact h
  · by_cases hc : c.confirms
    · exact confirms_keeps hc (Station.turnedAtRest_stable s.station.pos.dir) (fun _ _ hd => absurd rfl hd) he
    · exact exec_keeps (Station.turnedAtRest_commands (Instr.not_resets hreset) (Instr.not_boots hboot)
        (Instr.not_exits hexit hbeacon) hc s.station.pos.dir) (Station.turnedAtRest_stable _) id
        (fun _ hd => absurd rfl hd) he

end Sys2Proof.Machine
end

section
/-! PROOFS. The machine, the reset, the reading of the boot memory with a fault, and a part that is off the line (R12, R188,
R189): only time, inputs and the boot memory change in it. -/

namespace Sys2Proof.Machine

/-! ## The machine -/

/-- Settles O1: the two cases of `step`. -/
theorem stepTakesFrontCommand : Obligations.StepTakesFrontCommand :=
  ⟨fun _ _ _ => rfl, fun s hs => by simp [step, hs]⟩

/-- Settles O2: each command is a reaction, which always answers and leaves the queue as it is. -/
theorem everyCommandCompletes : Obligations.EveryCommandCompletes := by
  intro c s
  cases c <;> exact ⟨_, rfl⟩

/-! ## Reset -/

theorem Station.settle_of_offLine (old : Station) {s : Station} (ev : Events) (h : s.onLine = false) :
    Station.settle old s ev = s.withEnv { s.env with commanded := 0 } := by
  have hd : s.driving = false := by
    simp only [Station.onLine, Station.driving] at h ⊢
    simp_all
  simp [Station.settle, Station.finalDrop, h, hd]

/-- Settles O3: each field is the Default of its block. -/
theorem resetStateHoldsDefaults : Obligations.ResetStateHoldsDefaults := by
  have hpeer : ∀ n, State.reset.station.peer n = {} := fun n => by
    unfold Station.peer
    split
    · rfl
    · by_cases hn : n - 1 < 29 <;> simp [State.reset, hn]
  refine ⟨rfl, ?_⟩
  intro u
  refine ⟨rfl, rfl, rfl, rfl, rfl, rfl, rfl, rfl, rfl, hpeer, ?_⟩
  have h1 : u.peer 1 = {} := hpeer 1
  rw [h1]
  and_intros <;> rfl

/-- Settles O4: both commands leave the part off the line, where nothing evaluates. -/
theorem resetCommandsRestoreDefaults : Obligations.ResetCommandsRestoreDefaults := by
  refine ⟨fun dt s => ?_, fun dt s hp => ?_⟩
  · have h := Station.settle_of_offLine (s.old dt) (s := (s.old dt).resetAll) {} rfl
    exact congrArg (fun u => Host.Outcome.next { s with station := u }) h
  · have h := Station.settle_of_offLine (s.old dt)
      (s := (s.old dt).withStart { s.station.start with phase := .bootRead }) {} rfl
    dsimp only [exec, execResetReleased]
    rw [State.reactWith_eq]
    have hp' : (s.old dt).start.phase = .reset := hp
    rw [if_pos hp']
    exact congrArg (fun u => Host.Outcome.next { s with station := u }) h

/-- Settles O53: the Defaults lie within every size and range, nothing moves and nothing turns. -/
theorem resetStateIsSafe : Obligations.ResetStateIsSafe where
  sizes := Station.bounded_resetAll {}
  figures := Station.figures_resetAll {}
  moves := fun h => absurd h (Nat.lt_irrefl 0)
  turns := ⟨nofun, fun _ => rfl, nofun⟩

/-! ## Reading the boot memory -/

/-- A bad block or a map fault leads to START-FAULT (R12, R189). -/
theorem Station.bootRead_fault (s : Station) (i : BootImage)
    (h : (paramsGood i.parameters && blockGood i.mapBlock 1414 && blockGood i.pads 386 && blockGood i.markers 1282 &&
      (((readMapBlock i.mapBlock).withPads i.pads).withMarkers i.markers).checks (rawParams i.parameters).ordered) = false) :
    ∃ m, s.bootRead i = s.startFault m := by
  unfold Station.bootRead
  extract_lets raw p m1 m2 m3
  split
  · exact ⟨_, rfl⟩
  · split
    · exact ⟨_, rfl⟩
    · split
      · exact ⟨_, rfl⟩
      · split
        · exact ⟨_, rfl⟩
        · next h1 h2 h3 h4 =>
          rw [Bool.not_eq_true, Bool.not_eq_false'] at h1 h2 h3 h4
          rw [h1, h2, h3, h4] at h
          rw [if_pos (by simpa using h)]
          exact ⟨_, rfl⟩

/-- BOOT_READ_COMPLETE in BOOT-READ reads the blocks (R189). -/
theorem exec_bootReadComplete (dt : Nat) (i : BootImage) (l : Bool) (s : State) (hp : s.station.start.phase = .bootRead) :
    exec (.bootReadComplete dt i l) s =
      .next (s.settled dt (((s.old dt).withInputs { s.station.inputs with loadSensed := l }).bootRead i) {}) := by
  change Host.Outcome.next (s.settled dt (if ((s.old dt).withInputs { s.station.inputs with loadSensed := l }).start.phase =
    .bootRead then ((s.old dt).withInputs { s.station.inputs with loadSensed := l }).bootRead i
    else (s.old dt).withInputs { s.station.inputs with loadSensed := l }) {}) = _
  rw [if_pos (show ((s.old dt).withInputs { s.station.inputs with loadSensed := l }).start.phase = .bootRead from hp)]

/-- Settles O6: the part is in START-FAULT, every other block at its Defaults, and evaluates nothing. -/
theorem bootFaultHoldsThePart : Obligations.BootFaultHoldsThePart := by
  intro dt i l s hp hbad
  obtain ⟨m, hm⟩ := Station.bootRead_fault ((s.old dt).withInputs { s.station.inputs with loadSensed := l }) i hbad
  have hs := Station.settle_of_offLine (s.old dt)
    (s := ((s.old dt).withInputs { s.station.inputs with loadSensed := l }).startFault m) {} rfl
  refine ⟨_, exec_bootReadComplete dt i l s hp, rfl, ?_⟩
  dsimp only [State.settled]
  rw [hm, hs]
  exact ⟨rfl, rfl, rfl, rfl, rfl, rfl, rfl, rfl, resetStateHoldsDefaults.2.2.2.2.2.2.2.2.2.2.1⟩

/-! ## Off the line -/

/-- From `s` to `u` only time, inputs and the boot memory with its writes have moved on. -/
def Station.Asleep (s u : Station) : Prop :=
  ∃ i m k, u = ((s.withInputs i).withBootMem m).withPark k

theorem Station.Asleep.refl (s : Station) : s.Asleep s := ⟨_, _, _, rfl⟩

theorem Station.Asleep.withInputs {s u : Station} (h : s.Asleep u) (i : Inputs) : s.Asleep (u.withInputs i) := by
  obtain ⟨_, m, k, rfl⟩ := h
  exact ⟨i, m, k, rfl⟩

theorem Station.asleep_fallQuiet (s : Station) : s.Asleep s.fallQuiet := by
  rw [Station.fallQuiet_eq]
  exact (Station.Asleep.refl s).withInputs _

theorem Station.asleep_receive {s : Station} (h : s.onLine = false) (n : Nat) (r : Role) (k : FrameKind)
    (act : Station → Station) : s.Asleep (s.receive n r k act) := by
  rw [Station.receive, if_neg (by simp [h])]
  exact s.asleep_fallQuiet

theorem Station.asleep_writeComplete (s : Station) : s.Asleep s.writeComplete := by
  unfold Station.writeComplete
  split
  · exact .refl s
  · dsimp only
    split <;> exact ⟨s.inputs, _, _, rfl⟩

theorem Station.carriageOn_of_offLine {s : Station} (h : s.onLine = false) : s.carriageOn = false := by
  simp [Station.carriageOn, h]

theorem Station.turning_of_offLine {s : Station} (h : s.onLine = false) : s.turning = false := by
  rw [Station.onLine_eq] at h
  rw [← Bool.not_eq_true, Station.turning_iff]
  rintro ⟨-, hp⟩
  rw [hp] at h
  cases h

/-- From `s` to `t` off the line: time, inputs, the boot memory and its writes move on, and the commanded step is 0. -/
def Station.SleptTo (s t : Station) : Prop :=
  ∃ n i m k, t = ((((s.withNow n).withInputs i).withBootMem m).withPark k).withEnv { s.env with commanded := 0 }

theorem State.reactWith_asleep {s t : State} {dt : Nat} {ev : Events} {f : Station → Station}
    (he : s.reactWith dt ev f = .next t) (hoff : s.station.onLine = false) (hf : (s.old dt).Asleep (f (s.old dt))) :
    s.station.SleptTo t.station := by
  cases he
  obtain ⟨i, m, k, hu⟩ := hf
  have hu' : (f (s.old dt)).onLine = false := by rw [hu]; exact hoff
  refine ⟨(s.old dt).now, i, m, k, (Station.settle_of_offLine _ _ hu').trans ?_⟩
  rw [hu]
  rfl

theorem State.onTimer_asleep {s t : State} {dt : Nat} {timer : Station → Option Nat} {ev : Events} {f : Station → Station}
    (he : s.onTimer dt timer ev f = .next t) (hoff : s.station.onLine = false) : s.station.SleptTo t.station := by
  refine State.reactWith_asleep (dt := dt) (ev := {}) (f := id) ?_ hoff (.refl _)
  rw [← he]
  have hoff' : (s.old dt).onLine = false := hoff
  unfold State.onTimer State.reactWith State.react
  simp only [show s.station.advance dt = s.old dt from rfl, hoff', Bool.false_and, Bool.false_eq_true, if_false, id]

/-- Off the line every command but the three of start-up leaves the part asleep (R12, R173, R189). -/
theorem exec_offLine {c : Instr} {s t : State} (hoff : s.station.onLine = false) (hreset : ¬c.resets)
    (hrel : s.station.start.phase = .reset → ∀ dt, c ≠ .resetReleased dt)
    (hboot : s.station.start.phase = .bootRead → ∀ dt i l, c ≠ .bootReadComplete dt i l) (he : exec c s = .next t) :
    s.station.SleptTo t.station := by
  have hcar : ∀ dt i, ((s.old dt).withInputs i).carriageOn = false := fun _ _ => Station.carriageOn_of_offLine hoff
  have hcar' : ∀ dt, (s.old dt).carriageOn = false := fun _ => Station.carriageOn_of_offLine hoff
  have hturn : ∀ dt i, ((s.old dt).withInputs i).turning = false := fun _ _ => Station.turning_of_offLine hoff
  have hline : ∀ dt, (s.old dt).onLine = false := fun _ => hoff
  have hlift : ∀ dt i, (((s.old dt).withInputs i).onLine && ((s.old dt).withInputs i).isCarriage) = false := fun _ i =>
    Station.carriageOn_of_offLine (s := s.station.withInputs i) hoff
  have hin : ∀ dt i, (s.old dt).Asleep ((s.old dt).withInputs i) := fun _ i => (Station.Asleep.refl _).withInputs i
  cases c with
  | resetAsserted dt =>
    exact absurd trivial hreset
  | resetReleased dt =>
    dsimp only [exec, execResetReleased] at he
    exact State.reactWith_asleep he hoff (by
      rw [if_neg (show ¬(s.old dt).start.phase = .reset from fun hp => hrel hp dt rfl)]; exact .refl _)
  | bootReadComplete dt image loadSensed =>
    dsimp only [exec, execBootReadComplete] at he
    exact State.reactWith_asleep he hoff (by
      rw [if_neg (show ¬((s.old dt).withInputs _).start.phase = .bootRead from fun hp => hboot hp dt image loadSensed rfl)]; exact hin _ _)
  | listenInEnd dt =>
    dsimp only [exec, execListenInEnd] at he
    exact State.onTimer_asleep he hoff
  | bodyClaimRetry dt =>
    dsimp only [exec, execBodyClaimRetry] at he
    exact State.onTimer_asleep he hoff
  | badFrameReceived dt bytes =>
    dsimp only [exec, execBadFrameReceived] at he
    exact State.reactWith_asleep he hoff (by
      rw [hline, Bool.false_and, if_neg Bool.false_ne_true]; exact Station.asleep_fallQuiet _)
  | duplicateStationFrame dt kind =>
    dsimp only [exec, execDuplicateStationFrame] at he
    exact State.reactWith_asleep he hoff (Station.asleep_receive (hline _) _ _ _ _)
  | carriageBeaconReceived dt src b =>
    dsimp only [exec, execCarriageBeaconReceived] at he
    exact State.reactWith_asleep he hoff (Station.asleep_receive (hline _) _ _ _ _)
  | turntableBeaconReceived dt src b =>
    dsimp only [exec, execTurntableBeaconReceived] at he
    exact State.reactWith_asleep he hoff (Station.asleep_receive (hline _) _ _ _ _)
  | claimReceived dt h seg tag rank =>
    dsimp only [exec, execClaimReceived] at he
    exact State.reactWith_asleep he hoff (Station.asleep_receive (hline _) _ _ _ _)
  | objectReceived dt h seg kind rank claimant =>
    dsimp only [exec, execObjectReceived] at he
    exact State.reactWith_asleep he hoff (Station.asleep_receive (hline _) _ _ _ _)
  | releaseReceived dt h segs =>
    dsimp only [exec, execReleaseReceived] at he
    exact State.reactWith_asleep he hoff (Station.asleep_receive (hline _) _ _ _ _)
  | yieldAskReceived dt h seg holder wait =>
    dsimp only [exec, execYieldAskReceived] at he
    exact State.reactWith_asleep he hoff (Station.asleep_receive (hline _) _ _ _ _)
  | orderMove dt o r =>
    dsimp only [exec, execOrderMove, State.takeOrder] at he
    exact State.reactWith_asleep he hoff (Station.asleep_receive (hline _) _ _ _ _)
  | orderFetch dt o r =>
    dsimp only [exec, execOrderFetch, State.takeOrder] at he
    exact State.reactWith_asleep he hoff (Station.asleep_receive (hline _) _ _ _ _)
  | orderPlace dt o r =>
    dsimp only [exec, execOrderPlace, State.takeOrder] at he
    exact State.reactWith_asleep he hoff (Station.asleep_receive (hline _) _ _ _ _)
  | orderBadKind dt o kind =>
    dsimp only [exec, execOrderBadKind, State.takeOrder] at he
    exact State.reactWith_asleep he hoff (Station.asleep_receive (hline _) _ _ _ _)
  | orderHalt dt o =>
    dsimp only [exec, execOrderHalt, State.takeOrder] at he
    exact State.reactWith_asleep he hoff (Station.asleep_receive (hline _) _ _ _ _)
  | orderResume dt o =>
    dsimp only [exec, execOrderResume, State.takeOrder] at he
    exact State.reactWith_asleep he hoff (Station.asleep_receive (hline _) _ _ _ _)
  | orderCancel dt o =>
    dsimp only [exec, execOrderCancel, State.takeOrder] at he
    exact State.reactWith_asleep he hoff (Station.asleep_receive (hline _) _ _ _ _)
  | orderSetPosition dt o line chainage uncertainty =>
    dsimp only [exec, execOrderSetPosition, State.takeOrder] at he
    exact State.reactWith_asleep he hoff (Station.asleep_receive (hline _) _ _ _ _)
  | orderClearPeer dt o peer =>
    dsimp only [exec, execOrderClearPeer, State.takeOrder] at he
    exact State.reactWith_asleep he hoff (Station.asleep_receive (hline _) _ _ _ _)
  | turnAskReceived dt h turntable entryArm exitArm =>
    dsimp only [exec, execTurnAskReceived] at he
    exact State.reactWith_asleep he hoff (Station.asleep_receive (hline _) _ _ _ _)
  | turnAboardReceived dt h turntable =>
    dsimp only [exec, execTurnAboardReceived] at he
    exact State.reactWith_asleep he hoff (Station.asleep_receive (hline _) _ _ _ _)
  | turnClearReceived dt h turntable =>
    dsimp only [exec, execTurnClearReceived] at he
    exact State.reactWith_asleep he hoff (Station.asleep_receive (hline _) _ _ _ _)
  | turnAnswerGrant dt h addressed arm =>
    dsimp only [exec, execTurnAnswerGrant, State.takeAnswer] at he
    exact State.reactWith_asleep he hoff (Station.asleep_receive (hline _) _ _ _ _)
  | turnAnswerExit dt h addressed arm =>
    dsimp only [exec, execTurnAnswerExit, State.takeAnswer] at he
    exact State.reactWith_asleep he hoff (Station.asleep_receive (hline _) _ _ _ _)
  | turnAnswerRefusedFull dt h addressed arm =>
    dsimp only [exec, execTurnAnswerRefusedFull, State.takeAnswer] at he
    exact State.reactWith_asleep he hoff (Station.asleep_receive (hline _) _ _ _ _)
  | turnAnswerFault dt h addressed arm =>
    dsimp only [exec, execTurnAnswerFault, State.takeAnswer] at he
    exact State.reactWith_asleep he hoff (Station.asleep_receive (hline _) _ _ _ _)
  | turnAnswerRevoked dt h addressed arm =>
    dsimp only [exec, execTurnAnswerRevoked, State.takeAnswer] at he
    exact State.reactWith_asleep he hoff (Station.asleep_receive (hline _) _ _ _ _)
  | turnAnswerNotCentred dt h addressed arm =>
    dsimp only [exec, execTurnAnswerNotCentred, State.takeAnswer] at he
    exact State.reactWith_asleep he hoff (Station.asleep_receive (hline _) _ _ _ _)
  | sendPointReached dt =>
    dsimp only [exec, execSendPointReached] at he
    exact State.reactWith_asleep he hoff (by rw [hline, if_neg Bool.false_ne_true]; exact .refl _)
  | echoGood dt =>
    dsimp only [exec, execEchoGood] at he
    exact State.reactWith_asleep he hoff (by rw [hline, if_neg Bool.false_ne_true]; exact .refl _)
  | echoFailed dt =>
    dsimp only [exec, execEchoFailed] at he
    exact State.reactWith_asleep he hoff (by rw [hline, if_neg Bool.false_ne_true]; exact .refl _)
  | beaconTimerExpiry dt =>
    dsimp only [exec, execBeaconTimerExpiry] at he
    exact State.onTimer_asleep he hoff
  | silenceTimerExpiry dt =>
    dsimp only [exec, execSilenceTimerExpiry] at he
    exact State.onTimer_asleep he hoff
  | recoveryTimerExpiry dt =>
    dsimp only [exec, execRecoveryTimerExpiry] at he
    exact State.onTimer_asleep he hoff
  | listenWindowEnd dt seg =>
    dsimp only [exec, execListenWindowEnd] at he
    exact State.reactWith_asleep he hoff (by rw [hline, if_neg Bool.false_ne_true]; exact .refl _)
  | holdLimitReached dt seg =>
    dsimp only [exec, execHoldLimitReached] at he
    exact State.reactWith_asleep he hoff (by rw [hline, if_neg Bool.false_ne_true]; exact .refl _)
  | pendingNoteExpiry dt station seg =>
    dsimp only [exec, execPendingNoteExpiry] at he
    exact State.reactWith_asleep he hoff (by rw [hline, if_neg Bool.false_ne_true]; exact .refl _)
  | peerStale dt station =>
    dsimp only [exec, execPeerStale] at he
    exact State.reactWith_asleep he hoff (by rw [hline, if_neg Bool.false_ne_true]; exact .refl _)
  | peerLost dt station =>
    dsimp only [exec, execPeerLost] at he
    exact State.reactWith_asleep he hoff (by rw [hline, if_neg Bool.false_ne_true]; exact .refl _)
  | orderEvaluationTimer dt =>
    dsimp only [exec, execOrderEvaluationTimer] at he
    exact State.onTimer_asleep he hoff
  | blockTimeExpiry dt =>
    dsimp only [exec, execBlockTimeExpiry] at he
    exact State.onTimer_asleep he hoff
  | passageRetryDue dt =>
    dsimp only [exec, execPassageRetryDue] at he
    exact State.onTimer_asleep he hoff
  | turntableEvaluationTimer dt =>
    dsimp only [exec, execTurntableEvaluationTimer] at he
    exact State.onTimer_asleep he hoff
  | guardRetryTime dt =>
    dsimp only [exec, execGuardRetryTime] at he
    exact State.onTimer_asleep he hoff
  | entryTimerExpiry dt =>
    dsimp only [exec, execEntryTimerExpiry] at he
    exact State.onTimer_asleep he hoff
  | exitTimerExpiry dt =>
    dsimp only [exec, execExitTimerExpiry] at he
    exact State.onTimer_asleep he hoff
  | rotationTimerExpiry dt =>
    dsimp only [exec, execRotationTimerExpiry] at he
    exact State.onTimer_asleep he hoff
  | armAlignedChange dt arm =>
    dsimp only [exec, execArmAlignedChange] at he
    exact State.reactWith_asleep he hoff (by simp only [hturn, Bool.false_eq_true, if_false]; exact hin _ _)
  | rotationFaultChange dt active =>
    dsimp only [exec, execRotationFaultChange] at he
    exact State.reactWith_asleep he hoff (by simp only [hturn, Bool.false_and, Bool.false_eq_true, if_false]; exact hin _ _)
  | deckSensorChange dt occupied centred clear =>
    dsimp only [exec, execDeckSensorChange] at he
    exact State.reactWith_asleep he hoff (hin _ _)
  | countReport dt counts =>
    dsimp only [exec, execCountReport] at he
    exact State.reactWith_asleep he hoff (by rw [hcar', if_neg Bool.false_ne_true]; exact .refl _)
  | confirmedStepChange dt step =>
    dsimp only [exec, execConfirmedStepChange] at he
    exact State.reactWith_asleep he hoff (hin _ _)
  | stepDwellEnd dt =>
    dsimp only [exec, execStepDwellEnd] at he
    exact State.onTimer_asleep he hoff
  | driveFaultChange dt active =>
    dsimp only [exec, execDriveFaultChange] at he
    exact State.reactWith_asleep he hoff (by simp only [hcar, Bool.false_and, Bool.false_eq_true, if_false]; exact hin _ _)
  | inPositionActive dt =>
    dsimp only [exec, execInPositionActive] at he
    exact State.reactWith_asleep he hoff (by rw [hcar', if_neg Bool.false_ne_true]; exact .refl _)
  | dockingIndexChange dt active =>
    dsimp only [exec, execDockingIndexChange] at he
    exact State.reactWith_asleep he hoff (by simp only [hcar, Bool.false_and, Bool.false_eq_true, if_false]; exact hin _ _)
  | dockingDebounceExpiry dt =>
    dsimp only [exec, execDockingDebounceExpiry] at he
    exact State.reactWith_asleep he hoff (by rw [hcar', if_neg Bool.false_ne_true]; exact .refl _)
  | markerPresentChange dt present number =>
    dsimp only [exec, execMarkerPresentChange] at he
    exact State.reactWith_asleep he hoff (by simp only [hcar, Bool.false_eq_true, if_false]; exact hin _ _)
  | markerDebounceExpiry dt =>
    dsimp only [exec, execMarkerDebounceExpiry] at he
    exact State.reactWith_asleep he hoff (by rw [hcar', if_neg Bool.false_ne_true]; exact .refl _)
  | atTopChange dt active loadSensed =>
    dsimp only [exec, execAtTopChange] at he
    exact State.reactWith_asleep he hoff (by rw [Station.liftInput, hlift, Bool.not_false, if_pos rfl]; exact hin _ _)
  | atBottomChange dt active loadSensed =>
    dsimp only [exec, execAtBottomChange] at he
    exact State.reactWith_asleep he hoff (by rw [Station.liftInput, hlift, Bool.not_false, if_pos rfl]; exact hin _ _)
  | liftFaultChange dt active =>
    dsimp only [exec, execLiftFaultChange] at he
    exact State.reactWith_asleep he hoff (by rw [Station.liftInput, hlift, Bool.not_false, if_pos rfl]; exact hin _ _)
  | liftTimeout dt =>
    dsimp only [exec, execLiftTimeout] at he
    exact State.onTimer_asleep he hoff
  | parkWriteComplete dt =>
    dsimp only [exec, execParkWriteComplete] at he
    exact State.reactWith_asleep he hoff (Station.asleep_writeComplete _)
  | carrierHeard dt =>
    dsimp only [exec, execCarrierHeard] at he
    exact State.reactWith_asleep he hoff (hin _ _)

/-- Settles O7: in START-FAULT every command but a reset leaves the part asleep. -/
theorem startFaultEndsOnlyByReset : Obligations.StartFaultEndsOnlyByReset := by
  intro c s t hp hreset he
  have hoff : s.station.onLine = false := by rw [Station.onLine_eq, hp]; rfl
  obtain ⟨n, i, m, k, ht⟩ := exec_offLine hoff (Instr.not_resets hreset) (by simp [hp]) (by simp [hp]) he
  have hdrive : ∀ u : Station, u.start.phase = .startFault → u.driving = false := fun u hu => by
    simp [Station.driving, hu]
  have hturn : t.station.turning = false := Station.turning_of_offLine (by rw [ht]; exact hoff)
  have hd := hdrive t.station (by rw [ht]; exact hp)
  refine ⟨by rw [ht]; rfl, by rw [ht]; exact decide_eq_true hp, by rw [ht]; rfl, by rw [ht]; rfl,
    by rw [ht]; rfl, by rw [ht]; rfl, by rw [ht]; rfl, ?_, ?_, ?_⟩
  · rw [Station.tractionOutputs, hd, if_neg Bool.false_ne_true, ht]; rfl
  · rw [Station.liftOutput, hd, if_neg Bool.false_ne_true]
  · rw [Station.rotationOutput, hturn, Bool.false_and, if_neg Bool.false_ne_true]

end Sys2Proof.Machine
end

section
/-! PROOFS. The rotation drive runs only while every GUARD segment is HELD (R46, R158, R159; log 56). -/

namespace Sys2Proof.Machine

/-- A turntable on the line with guards `g` whose claims are all guards, none being given up; while the deck rotates every
guard is HELD, and no entry for one of them is anything else (R159). -/
structure Station.Guarding (g : List Nat) (s : Station) : Prop where
  role : s.par.role = .turntable
  guards : s.guards = g
  phase : s.start.phase = .listenIn ∨ s.start.phase = .ready
  single : (s.claims.entries.map (·.seg)).Nodup
  purpose : ∀ e ∈ s.claims.entries, e.purpose = .guard ∧ e.state ≠ .yielding ∧ e.pendingYield = none
  won : s.tt.deck = .rotating → s.start.phase = .ready ∧ (∀ n ∈ g, s.claims.isHeld n = true) ∧
    ∀ e ∈ s.claims.entries, e.seg ∈ g → e.state = .held

/-- A deck that does not rotate is not set rotating outside the turntable unit's evaluation. -/
theorem Station.notRotating_stable : Station.Stable fun s => s.tt.deck ≠ .rotating where
  passage _ hs := hs
  appr _ hs := hs
  backing _ hs := hs
  park _ hs := hs
  write _ hs := hs
  lift _ _ hs := hs
  trail _ _ hs := hs
  order _ _ hs := hs
  claims _ _ hs := hs
  queue _ _ hs := hs
  schedule _ _ _ hs := hs
  start _ _ _ hs := hs
  tt _ _ hd hs := fun h => hs (hd h)
  env _ _ _ _ _ _ hs := hs
  latch _ hs := hs
  raise _ hs := hs
  dir _ _ hs := hs
  deck hs := hs

theorem ClaimBlock.isHeld_iff {c : ClaimBlock} {n : Nat} :
    c.isHeld n = true ↔ ∃ e ∈ c.entries, e.seg = n ∧ e.state = .held := by
  simp [ClaimBlock.isHeld]

/-- In a list that names no segment twice, a segment that is HELD once is nothing else. -/
theorem ClaimBlock.held_of_isHeld {c : ClaimBlock} (hn : (c.entries.map (·.seg)).Nodup) {e : ClaimEntry}
    (he : e ∈ c.entries) (h : c.isHeld e.seg = true) : e.state = .held := by
  obtain ⟨x, hx, hseg, hheld⟩ := ClaimBlock.isHeld_iff.1 h
  rwa [List.inj_on_of_nodup_map hn hx he hseg] at hheld

namespace Station.Guarding

variable {g : List Nat} {s t : Station} (h : s.Guarding g)

include h in
/-- What leaves role, guards, phase and claim list alone and starts no rotation keeps the guards. -/
theorem same (hpar : t.par = s.par) (hmap : t.map = s.map) (hstart : t.start = s.start)
    (hentries : t.claims.entries = s.claims.entries) (hdeck : t.tt.deck = .rotating → s.tt.deck = .rotating) :
    t.Guarding g where
  role := by rw [hpar]; exact h.role
  guards := by
    have := h.guards
    unfold Station.guards at this ⊢
    rwa [hpar, hmap]
  phase := by rw [hstart]; exact h.phase
  single := by rw [hentries]; exact h.single
  purpose := by rw [hentries]; exact h.purpose
  won hr := by
    unfold ClaimBlock.isHeld
    rw [hstart, hentries]
    exact h.won (hdeck hr)

include h

theorem not_isCarriage : s.isCarriage = false := by simp [Station.isCarriage, h.role]

theorem not_carriageOn : s.carriageOn = false := by simp [Station.carriageOn, h.not_isCarriage]

theorem not_bodyClaim : s.start.phase ≠ .bodyClaim := by
  obtain hp | hp := h.phase <;> simp [hp]

/-- While the deck rotates, an entry that is not HELD is for no guard. -/
theorem not_guard (hr : s.tt.deck = .rotating) {e : ClaimEntry} (he : e ∈ s.claims.entries) (hs : e.state ≠ .held) :
    e.seg ∉ g := fun hg => by
  obtain ⟨-, -, hheld⟩ := h.won hr
  exact hs (hheld e he hg)

/-! ## The claim list -/

theorem withEntries (l : List ClaimEntry) (hl : (l.map (·.seg)).Nodup)
    (hp : ∀ e ∈ l, e.purpose = .guard ∧ e.state ≠ .yielding ∧ e.pendingYield = none)
    (hw : s.tt.deck = .rotating → (∀ n ∈ g, ∃ e ∈ l, e.seg = n ∧ e.state = .held) ∧ ∀ e ∈ l, e.seg ∈ g → e.state = .held) :
    (s.setEntries l).Guarding g where
  role := h.role
  guards := h.guards
  phase := h.phase
  single := hl
  purpose := hp
  won hr := by
    obtain ⟨hready, -, -⟩ := h.won hr
    obtain ⟨hheld, honly⟩ := hw hr
    exact ⟨hready, fun n hn => ClaimBlock.isHeld_iff.2 (hheld n hn), honly⟩

theorem filterEntries (p : ClaimEntry → Bool)
    (hp : s.tt.deck = .rotating → ∀ e ∈ s.claims.entries, e.seg ∈ g → p e = true) :
    (s.setEntries (s.claims.entries.filter p)).Guarding g := by
  refine h.withEntries _ (h.single.sublist (List.filter_sublist.map _)) (fun e he => h.purpose e (List.mem_of_mem_filter he))
    fun hr => ?_
  obtain ⟨-, hheld, honly⟩ := h.won hr
  refine ⟨fun n hn => ?_, fun e he => honly e (List.mem_of_mem_filter he)⟩
  obtain ⟨e, he, rfl, hst⟩ := ClaimBlock.isHeld_iff.1 (hheld n hn)
  exact ⟨e, List.mem_filter.2 ⟨he, hp hr e he hn⟩, rfl, hst⟩

theorem editEntries (f : ClaimEntry → ClaimEntry)
    (hf : ∀ e, (f e).seg = e.seg ∧ (f e).purpose = e.purpose ∧ (f e).pendingYield = e.pendingYield ∧
      ((f e).state = e.state ∨ (f e).state = .held)) : (s.setEntries (s.claims.entries.map f)).Guarding g := by
  refine h.withEntries _ ?_ (fun e he => ?_) fun hr => ?_
  · rw [List.map_map, show (·.seg) ∘ f = (·.seg) from funext fun e => (hf e).1]
    exact h.single
  · obtain ⟨x, hx, rfl⟩ := List.mem_map.1 he
    obtain ⟨hp, hy, hn⟩ := h.purpose x hx
    obtain ⟨-, h1, h2, h3⟩ := hf x
    refine ⟨h1.trans hp, ?_, h2.trans hn⟩
    obtain h3 | h3 := h3
    · rwa [h3]
    · simp [h3]
  · obtain ⟨-, hheld, honly⟩ := h.won hr
    have hkeep : ∀ e, e.state = .held → (f e).state = .held := fun e he => by
      obtain ⟨-, -, -, hst | hst⟩ := hf e
      · rwa [hst]
      · exact hst
    refine ⟨fun n hn => ?_, fun e he hg => ?_⟩
    · obtain ⟨e, he, rfl, hst⟩ := ClaimBlock.isHeld_iff.1 (hheld n hn)
      exact ⟨f e, List.mem_map_of_mem he, (hf e).1, hkeep e hst⟩
    · obtain ⟨x, hx, rfl⟩ := List.mem_map.1 he
      rw [(hf x).1] at hg
      exact hkeep x (honly x hx hg)

theorem withTt (x : Turntable) (hx : x.deck = .rotating → s.tt.deck = .rotating) : (s.withTt x).Guarding g :=
  h.same rfl rfl rfl rfl hx

theorem setQueue (q : List QueueItem) : (s.setQueue q).Guarding g := h.same rfl rfl rfl rfl id
theorem withLine (x : LineIf) : (s.withLine x).Guarding g := h.same rfl rfl rfl rfl id
theorem withInputs (x : Inputs) : (s.withInputs x).Guarding g := h.same rfl rfl rfl rfl id
theorem withPassage (x : Passage) : (s.withPassage x).Guarding g := h.same rfl rfl rfl rfl id
theorem setOwed (l : List Nat) (b : Bool) : (s.setOwed l b).Guarding g := h.same rfl rfl rfl rfl id
theorem loseClaim : s.loseClaim.Guarding g := h.same rfl rfl rfl rfl id
theorem clearWait : s.clearWait.Guarding g := h.same rfl rfl rfl rfl id
theorem countBad : s.countBad.Guarding g := h.same rfl rfl rfl rfl id

theorem markPopped (n : Nat) (f : Popped → Popped) : (s.markPopped n f).Guarding g := by
  unfold Station.markPopped
  split
  · exact h
  · exact h.same rfl rfl rfl rfl id

theorem tell (a : Asker) (n : Nat) (r : Told) : (s.tell a n r).Guarding g := by
  unfold Station.tell
  split
  · rw [if_neg h.not_bodyClaim]; exact h
  · rw [if_neg h.not_bodyClaim]; exact h
  · rw [if_neg h.not_bodyClaim]; exact h
  · exact h.same rfl rfl rfl rfl id
  · exact h.markPopped _ _
  · exact h.markPopped _ _
  · exact h.withTt _ id
  · exact h

/-- A LISTENING entry and its group go: while the deck rotates they are for no guard. -/
theorem removeGroup {e : ClaimEntry} (he : e ∈ s.claims.entries) (hl : e.state ≠ .held) : (s.removeGroup e).Guarding g := by
  refine (h.filterEntries _ fun hr x hx hg => ?_).setQueue _
  obtain ⟨-, -, honly⟩ := h.won hr
  have hne : x.seg ≠ e.seg := fun heq => h.not_guard hr he hl (heq ▸ hg)
  simp [ClaimEntry.groupedWith, hne, honly x hx hg]

theorem abandon {e : ClaimEntry} (he : e ∈ s.claims.entries) (hl : e.state ≠ .held) : (s.abandon e).Guarding g := by
  have h1 := h.removeGroup he hl
  unfold Station.abandon
  split
  · exact h1.tell _ _ _
  · exact h1.loseClaim.tell _ _ _

theorem claimNotSent (n : Nat) : (s.claimNotSent n).Guarding g := by
  unfold Station.claimNotSent
  split
  · next e he =>
    split
    · next hc =>
      have hl : e.state = .listening := by simp at hc; exact hc.1
      exact (h.removeGroup (List.mem_of_find?_eq_some he) (by simp [hl])).tell _ _ _
    · exact h
  · exact h

/-! ## The transmit queue -/

theorem oweClear (n : Nat) : (s.oweClear n).Guarding g := by
  unfold Station.oweClear
  split
  · exact h
  · exact h.withPassage _

theorem displaced (x : QueueItem) : (s.displaced x).Guarding g := by
  unfold Station.displaced
  split
  · split
    · exact h
    · exact h.claimNotSent _
  · exact h.setOwed _ _
  · exact h.same rfl rfl rfl rfl id
  · exact h.withPassage _
  · exact h.oweClear _
  · exact h

theorem offer (f : OutFrame) : (s.offer f).1.Guarding g := by
  unfold Station.offer
  split
  · exact h.setQueue _
  · split
    · split
      · exact (h.setQueue _).displaced _
      · exact h
    · exact h

theorem of_offer {f : OutFrame} {b : Bool} (ho : s.offer f = (t, b)) : t.Guarding g := by
  have := h.offer f
  rwa [ho] at this

theorem send (f : OutFrame) : (s.send f).Guarding g := h.offer f
theorem object (n : Nat) (k : Objection) (r : Rank) (c : Nat) : (s.object n k r c).Guarding g := h.send _

theorem offerReleases : s.offerReleases.Guarding g := by
  unfold Station.offerReleases
  dsimp only
  split
  · exact h
  · have hq := h.setQueue (mergeRelease (s.claims.owedSegs.take Config.places) s.line.queue).1
    split
    · exact hq.setOwed _ _
    · split
      · next ho => exact (hq.of_offer ho).setOwed _ _
      · next ho => exact (hq.of_offer ho).setOwed _ _

theorem beaconFallsDue : s.beaconFallsDue.Guarding g := by
  unfold Station.beaconFallsDue
  split
  · split
    · exact h.withLine _
    · exact h.withLine _
  · split <;> next ho => exact (h.of_offer ho).withLine _

theorem lineEval : s.lineEval.Guarding g := by
  have hp : s.periodEval.Guarding g := by
    unfold Station.periodEval
    dsimp only
    split
    · exact h
    · split
      · exact ((h.withLine _).withLine _).beaconFallsDue
      · exact h.withLine _
  unfold Station.lineEval Station.queueDueBeacon
  split
  · exact hp.beaconFallsDue
  · exact hp

/-! ## Releases: of no guard while the deck rotates -/

theorem releaseEntry (n : Nat) (hn : s.tt.deck = .rotating → n ∉ g) : (s.releaseEntry n).Guarding g := by
  have h1 := h.filterEntries (fun e => e.seg ≠ n) fun hr e _ hg => by
    simpa using fun heq : e.seg = n => hn hr (heq ▸ hg)
  exact Station.Guarding.offerReleases (h1.same rfl rfl rfl rfl id)

theorem releaseRequest (n : Nat) (hn : s.tt.deck = .rotating → n ∉ g) : (s.releaseRequest n).Guarding g := by
  unfold Station.releaseRequest
  split
  · exact h
  · next e he =>
    split
    · exact h
    · split
      · exact (h.releaseEntry n hn).tell _ _ _
      · exact h
      · have h1 := h.editEntries (fun x => if e.groupedWith x then { x with drop := true } else x)
          fun x => by split <;> simp
        dsimp only
        split
        · refine Station.Guarding.tell (Station.Guarding.setQueue (h1.filterEntries _ fun hr x _ hg => ?_) _) _ _ _
          simpa using fun heq : x.seg = n => hn hr (heq ▸ hg)
        · exact h1

theorem releaseAll (l : List Nat) (hl : s.tt.deck = .rotating → ∀ n ∈ l, n ∉ g) : (s.releaseAll l).Guarding g := by
  by_cases hr : s.tt.deck = .rotating
  · exact List.foldlRecOn l _ h fun _ hb n hn => hb.releaseRequest n fun _ => hl hr n hn
  · have hend : (s.releaseAll l).Guarding g ∧ (s.releaseAll l).tt.deck ≠ .rotating :=
      List.foldlRecOn (motive := fun u : Station => u.Guarding g ∧ u.tt.deck ≠ .rotating) l _ ⟨h, hr⟩ fun b hb n _ =>
        ⟨hb.1.releaseRequest n fun hd => absurd hd hb.2, Station.notRotating_stable.releaseRequest n hb.2⟩
    exact hend.1

/-! ## Claim requests of a deck that does not rotate -/

theorem makeClaim (n : Nat) (a : Asker) (k : Nat) (hnew : s.claims.lists n = false) (hr : s.tt.deck ≠ .rotating) :
    (s.makeClaim n .guard a k).1.Guarding g := by
  unfold Station.makeClaim
  extract_lets e s1
  have hfree : ∀ x ∈ s.claims.entries, x.seg ≠ n := by simpa [ClaimBlock.lists] using hnew
  have h1 : s1.Guarding g := by
    refine h.withEntries _ ?_ (fun x hx => ?_) fun hd => absurd hd hr
    · simpa [List.nodup_append, h.single] using hfree
    · obtain hx | hx := List.mem_append.1 hx
      · exact h.purpose x hx
      · simp only [List.mem_singleton] at hx
        simp [hx, e]
  rw [Station.offer_routine _ rfl]
  split
  · next ho =>
    split at ho <;> cases ho
    exact h1.setQueue _
  · next ho =>
    split at ho <;> cases ho
    exact h1.removeGroup (e := e) (by simp [s1, Station.setEntries]) (by simp [e])

theorem makeGroup (a : Asker) (k : Nat) (l : List Nat) (hl : l.Nodup) (hnew : ∀ n ∈ l, s.claims.lists n = false)
    (hr : s.tt.deck ≠ .rotating) : (s.makeGroup .guard a k l).1.Guarding g := by
  induction l generalizing s with
  | nil => exact h
  | cons n l ih =>
    obtain ⟨hn, hnd⟩ := List.nodup_cons.1 hl
    have h1 := h.makeClaim n a k (hnew n List.mem_cons_self) hr
    unfold Station.makeGroup
    split
    · next s1 hm =>
      rw [hm] at h1
      have he := Station.makeClaim_taken hm
      refine ih h1 hnd (fun m hmem => ?_) (by rw [he]; exact hr)
      have hne : n ≠ m := fun heq => hn (heq ▸ hmem)
      subst he
      simpa [ClaimBlock.lists, Station.setEntries, Station.setQueue, hne] using hnew m (List.mem_cons_of_mem _ hmem)
    · next hm =>
      rw [hm] at h1
      exact h1

theorem claimGroup (l : List Nat) (a : Asker) (hl : l.Nodup) (hr : s.tt.deck ≠ .rotating) :
    (s.claimGroup l .guard a).1.Guarding g := by
  unfold Station.claimGroup
  split
  · exact h
  · unfold Station.claim
    split
    · exact h
    · next ht =>
      have h1 := h.makeClaim _ a 0 (Station.claimTest_none ht).1 hr
      split <;> next hm =>
        rw [hm] at h1
        exact h1
  · split
    · exact h
    · next hnone =>
      have hg := Station.Guarding.makeGroup (s := s.withClaims { s.claims with
          nextTag := stepTag (freshTag s.claims.entries (Config.places + 1) s.claims.nextTag) })
        (h.same rfl rfl rfl rfl id) a (freshTag s.claims.entries (Config.places + 1) s.claims.nextTag)
        (sortBy (fun a b => decide (a ≤ b)) l) ((sortBy_perm _ _).nodup_iff.2 hl)
        (fun n hn => (Station.claimTest_none (List.findSome?_eq_none_iff.1 hnone n hn)).1) hr
      dsimp only
      split <;> next hm =>
        rw [hm] at hg
        exact hg

/-! ## The turntable unit -/

theorem releaseGuards (hr : s.tt.deck ≠ .rotating) : s.releaseGuards.Guarding g :=
  (h.releaseAll _ fun hd => absurd hd hr).withTt _ id

theorem releaseDone : s.releaseDone.Guarding g := by
  unfold Station.releaseDone
  split
  · exact h.withTt _ id
  · exact h

theorem deckFault (r : DeckReason) : (s.deckFault r).Guarding g := h.withTt _ (by simp)
theorem deckIdle : s.deckIdle.Guarding g := h.withTt _ (by simp)

theorem offerGrant : s.offerGrant.Guarding g := by
  unfold Station.offerGrant
  split
  · exact h
  · exact (h.offer _).withTt _ id

theorem offerExit : s.offerExit.Guarding g := by
  unfold Station.offerExit
  split
  · exact h
  · exact (h.offer _).withTt _ id

theorem reoffer : s.reoffer.Guarding g := by
  unfold Station.reoffer
  split
  · split
    · exact h.offerGrant
    · exact h
  · split
    · exact h
    · split
      · exact h
      · exact Station.Guarding.offerExit (h.withTt _ id)
    · split
      · exact h
      · exact h.offerExit
  · exact h

theorem endRotation (a : Nat) : (s.endRotation a).Guarding g := by
  refine Station.Guarding.releaseGuards (h.withTt _ ?_) ?_
  · dsimp only
    split <;> simp
  · dsimp only [Station.withTt]
    split <;> simp

theorem leaveFault (a : Nat) (hr : s.tt.deck ≠ .rotating) : (s.leaveFault a).Guarding g := by
  unfold Station.leaveFault
  extract_lets _ u
  have h1 : u.Guarding g := Station.Guarding.releaseGuards (h.withTt _ id) hr
  split
  · exact h1.deckIdle
  · split
    · split
      · exact h1.withTt _ (by simp)
      · exact h1.withTt _ (by simp)
    · split
      · exact h1.withTt _ (by simp)
      · exact h1.withTt _ (by simp)

theorem selfClear : s.selfClear.Guarding g := by
  unfold Station.selfClear
  split
  · split
    · next hc =>
      simp only [Bool.and_eq_true, decide_eq_true_eq] at hc
      exact h.leaveFault _ (by simp [hc.1.1.1])
    · exact h
  · exact h

/-- The rotation starts with every guard HELD, and nothing else stands for a guard (R158). -/
theorem startRotation (ht : s.turning = true) : s.startRotation.Guarding g := by
  obtain he | ⟨hheld, -, -, he⟩ := s.startRotation_cases
  · rwa [he]
  · rw [he]
    split
    · exact h.deckFault _
    · refine ⟨h.role, h.guards, h.phase, h.single, h.purpose, fun _ => ?_⟩
      have hall : ∀ n ∈ g, s.claims.isHeld n = true := by
        have := h.guards
        simpa [Station.guardsHeld, this] using hheld
      exact ⟨(s.turning_iff.1 ht).2, hall, fun e he hg => ClaimBlock.held_of_isHeld h.single he (hall _ hg)⟩

theorem claimGuards (ht : s.turning = true) (hr : s.tt.deck ≠ .rotating) : s.claimGuards.Guarding g := by
  unfold Station.claimGuards
  dsimp only
  split
  · exact h.startRotation ht
  · split
    · exact h
    · split
      · exact h
      · exact Station.Guarding.claimGroup (h.withTt { s.tt with retryTime := none } id) _ _ ((Station.guards_nodup _).sublist List.filter_sublist) hr

theorem beginClaim (a : Nat) (p : RotationPurpose) (ht : s.turning = true) : (s.beginClaim a p).Guarding g :=
  Station.Guarding.claimGuards (h.withTt _ (by simp)) ht (by simp [Station.withTt])

theorem serve (ht : s.turning = true) : s.serve.Guarding g := by
  unfold Station.serve
  split
  · exact h
  · split
    · exact h
    · split
      · exact Station.Guarding.offerGrant (h.withTt _ (by simp))
      · split
        · exact h.beginClaim _ _ ht
        · exact h

theorem ttEval : s.ttEval.Guarding g := by
  unfold Station.ttEval
  split
  · next ht =>
    extract_lets u
    have h1 : u.Guarding g := h.releaseDone.reoffer.selfClear
    have hu : u.turning = true := u.turning_iff.2 ⟨by simp [h1.role],
      Station.ready_stable.selfClear (Station.ready_stable.reoffer (Station.ready_stable.releaseDone (s.turning_iff.1 ht).2))⟩
    split
    · exact h1.serve hu
    · next hd => exact h1.claimGuards hu (by simp [hd])
    · split
      · split
        · exact h1
        · exact h1.beginClaim _ _ hu
      · exact h1
    · split
      · exact h1.deckIdle
      · exact h1
    · exact h1
  · exact h

/-! ## The evaluations after a command -/

theorem envEval_eq : s.envEval = s := by
  unfold Station.envEval
  rw [if_neg (by simp [Station.driving, h.not_isCarriage])]

theorem orderEval_eq : s.orderEval = s := by
  unfold Station.orderEval
  rw [if_neg (by simp [Station.driving, h.not_isCarriage])]

theorem round (old : Station) (ev : Events) : (Station.round old s ev).Guarding g := by
  unfold Station.round
  extract_lets s1 s2 s3 s4 s5
  have h1 : s1 = s := by simp only [s1]; rw [h.not_isCarriage, if_neg Bool.false_ne_true]
  have h2 : s2 = s := by simp only [s2, h1, Station.envRound, h.envEval_eq, ite_self]
  have h3 : s3 = s := by simp only [s3, h2, Station.orderRound, h.orderEval_eq, ite_self]
  have h4 : s4.Guarding g := by
    simp only [s4, h3, Station.ttRound]
    split
    · exact h.ttEval
    · exact h
  have h5 : s5.Guarding g := h4.offerReleases
  rw [h5.not_isCarriage, if_neg Bool.false_ne_true]
  exact h5.lineEval

theorem rounds (n : Nat) (old : Station) (ev : Events) : (Station.rounds n old s ev).Guarding g := by
  induction n generalizing s old ev with
  | zero => exact h
  | succ n ih =>
    unfold Station.rounds
    dsimp only
    split
    · exact h.round _ _
    · exact ih (h.round _ _) _ _

theorem settle (old : Station) (ev : Events) : (Station.settle old s ev).Guarding g := by
  have hend : ∀ {v : Station}, v.Guarding g → v.finalDrop.Guarding g := fun hv => by
    unfold Station.finalDrop
    rw [if_neg (by simp [Station.driving, hv.not_isCarriage])]
    exact hv.same rfl rfl rfl rfl id
  unfold Station.settle
  split
  · exact hend (h.rounds _ _ _)
  · exact hend h

/-! ## Reception -/

theorem fallQuiet : s.fallQuiet.Guarding g := by
  unfold Station.fallQuiet
  split
  · exact h
  · exact h.withInputs _

theorem mapPeer (n : Nat) (f : PeerEntry → PeerEntry) : (s.mapPeer n f).Guarding g := by
  unfold Station.mapPeer Station.setPeer
  split
  · exact h
  · exact h.same rfl rfl rfl rfl id

theorem heardOther (k : FrameKind) : (s.heardOther k).Guarding g := by
  have h1 : (if s.line.state = .heard then s.restartSilence else s).Guarding g := by
    unfold Station.restartSilence
    rw [h.not_isCarriage]
    simpa using h
  unfold Station.heardOther
  dsimp only
  split
  · exact h1
  · exact h1.withLine _

theorem duplicateFault : s.duplicateFault.Guarding g := by
  unfold Station.duplicateFault
  split
  · exact h
  · extract_lets _ s1 s2
    have h1 : s1.Guarding g := h.withLine _
    have h2 : s2 = s1 := by simp only [s2]; rw [h1.not_isCarriage, if_neg Bool.false_ne_true]
    rw [h2, if_neg (by simp [h1.not_bodyClaim])]
    exact h1

theorem receive (n : Nat) (r : Role) (k : FrameKind) (act : Station → Station)
    (hact : ∀ {v : Station}, v.Guarding g → (act v).Guarding g) : (s.receive n r k act).Guarding g := by
  have h1 := h.fallQuiet
  unfold Station.receive Station.takeFrame
  split
  · split
    · exact h1.countBad
    · split
      · exact (h1.heardOther _).duplicateFault
      · refine hact ?_
        unfold Station.refreshPeer
        split
        · exact h1.heardOther _
        · exact (h1.heardOther _).mapPeer _ _
  · exact h1

/-! ## Double holds, claims and objections of others -/

/-- While the deck rotates, this station occupies every segment it holds, so that a double hold never releases one
(R74). -/
theorem ownOccupies_of_rotating (hr : s.tt.deck = .rotating) {e : ClaimEntry} (he : e ∈ s.claims.entries)
    (hh : e.holding = true) : s.ownOccupies e.seg = true := by
  unfold Station.ownOccupies
  rw [h.role]
  simp only [hr, decide_true, Bool.true_or, Bool.true_and, List.any_eq_true, Bool.and_eq_true, decide_eq_true_eq]
  exact ⟨e, he, ⟨rfl, (h.purpose e he).1⟩, hh⟩

theorem bothOccupy : s.bothOccupy.Guarding g := by
  unfold Station.bothOccupy
  rw [h.role]
  dsimp only
  split
  · exact h.deckFault _
  · exact h

theorem giveUp (n : Nat) (hr : s.tt.deck ≠ .rotating) : (s.giveUp n).Guarding g := by
  unfold Station.giveUp
  split
  · exact (h.releaseRequest n fun hd => absurd hd hr).loseClaim
  · exact h

theorem doubleHold (p n : Nat) : (s.doubleHold p n).Guarding g := by
  unfold Station.doubleHold Station.resolveDouble
  split
  · next hc =>
    split
    · split
      · exact h.bothOccupy
      · exact h
    · next hown =>
      have hr : s.tt.deck ≠ .rotating := fun hd => by
        simp only [List.any_eq_true, Bool.and_eq_true, decide_eq_true_eq] at hc
        obtain ⟨e, he, ⟨rfl, hh⟩, -⟩ := hc
        exact hown (h.ownOccupies_of_rotating hd he hh)
      split
      · exact h.giveUp _ hr
      · split
        · exact h
        · exact h.giveUp _ hr
  · exact h

theorem beaconHolds (p : Nat) : (s.beaconHolds p).Guarding g :=
  List.foldlRecOn _ _ h fun _ hb _ _ => hb.doubleHold _ _

theorem answerClaim (p n : Nat) (r : Rank) : (s.answerClaim p n r).Guarding g := by
  unfold Station.answerClaim
  split
  · exact h.countBad
  · split
    · exact h
    · next e he =>
      have hmem := List.mem_of_find?_eq_some he
      split
      · exact h.object _ _ _ _
      · next hnot =>
        have hl : e.state ≠ .held := fun hst => hnot (by simp [ClaimEntry.holding, hst])
        split
        · exact h.abandon hmem hl
        · split
          · exact h.object _ _ _ _
          · exact h.abandon hmem hl

theorem peerObject (p n : Nat) (k : Objection) (r : Rank) (a : Nat) : (s.peerObject p n k r a).Guarding g := by
  unfold Station.peerObject
  dsimp only
  split
  · exact (h.mapPeer _ _).mapPeer _ _
  · exact h.mapPeer _ _

theorem takeObject (p n : Nat) (k : Objection) (a : Nat) : (s.takeObject p n k a).Guarding g := by
  unfold Station.takeObject
  split
  · split
    · exact h.countBad
    · split
      · exact h
      · next e he =>
        split
        · next hl => exact h.abandon (List.mem_of_find?_eq_some he) (by simp [hl])
        · split
          · exact h
          · exact h.doubleHold _ _
  · split
    · exact h.doubleHold _ _
    · exact h

theorem takeYieldAsk (p n w : Nat) : (s.takeYieldAsk p n w).1.Guarding g := by
  unfold Station.takeYieldAsk
  split
  · exact h
  · split
    · exact h
    · split
      · exact h.object _ _ _ _
      · rw [if_pos (by simp [h.not_isCarriage])]
        exact h.object _ _ _ _

/-- No entry has a pending yield, so that none becomes YIELDING at its hold limit (R71). -/
theorem holdLimit_eq (n : Nat) : s.holdLimit n = s := by
  unfold Station.holdLimit
  split
  · rfl
  · next e he =>
    obtain ⟨-, -, hnone⟩ := h.purpose e (List.mem_of_find?_eq_some he)
    rw [hnone]

/-- A claim that is won is for no guard that a rotating deck holds already. -/
theorem endWindow (n : Nat) : (s.endWindow n).Guarding g := by
  unfold Station.endWindow
  split
  · exact h
  · next e he =>
    split
    · next hc =>
      extract_lets won members s1 s2
      simp only [Bool.and_eq_true, decide_eq_true_eq] at hc
      have h1 : s1.Guarding g := h.editEntries _ fun x => by split <;> simp
      have h2 : s2.Guarding g := by
        simp only [s2]
        split
        · exact h1.clearWait
        · exact h1
      split
      · refine h2.releaseAll _ fun hr m hm hg => ?_
        have hr0 : s.tt.deck = .rotating := by
          simp only [s2] at hr
          split at hr <;> exact hr
        obtain ⟨x, hx, rfl⟩ := List.mem_map.1 hm
        obtain ⟨hmem, hgrp⟩ := List.mem_filter.1 hx
        obtain ⟨-, -, honly⟩ := h.won hr0
        have hheld := honly x hmem hg
        simp only [ClaimEntry.groupedWith, hheld, Bool.or_eq_true, decide_eq_true_eq, reduceCtorEq, decide_false,
          Bool.and_false, or_false, Bool.false_eq_true] at hgrp
        have := honly e (List.mem_of_find?_eq_some he) (hgrp ▸ hg)
        rw [hc.1] at this
        cases this
      · exact h2.tell _ _ _
    · exact h

/-! ## Orders -/

theorem orderFor (o : OrderHead) (b : Bool) (act : Station → Station) (hact : (act s).Guarding g) :
    (s.orderFor o b act).Guarding g := by
  unfold Station.orderFor
  split
  · exact h
  · split
    · exact h.countBad
    · exact hact

theorem carriageOnly (act : Station → Station) : (s.carriageOnly act).Guarding g := by
  unfold Station.carriageOnly
  rw [h.not_isCarriage, if_neg Bool.false_ne_true]
  exact h.countBad

theorem byRole_eq (a b : Station → Station) : s.byRole a b = b s := by
  unfold Station.byRole
  rw [h.not_isCarriage, if_neg Bool.false_ne_true]

theorem unqueue (n : Nat) : (s.unqueue n).Guarding g := h.withTt _ id

theorem takeClearPeer (o : OrderHead) (n : Nat) : (s.takeClearPeer o n).Guarding g := by
  have h1 : (s.clearPeer n).Guarding g := by
    unfold Station.clearPeer Station.setPeer
    split
    · exact h
    · split
      · exact h
      · exact h.same rfl rfl rfl rfl id
  unfold Station.takeClearPeer
  rw [h1.byRole_eq]
  split
  · exact h.countBad
  · exact h1.unqueue _

theorem ttResume : s.ttResume.Guarding g := by
  have h1 := h.withTt { s.tt with grantHold := false } id
  unfold Station.ttResume
  dsimp only
  split
  · next hd _ =>
    split
    · exact h1
    · exact h1.leaveFault _ (by rw [hd]; simp)
  · exact h1

/-! ## Passage frames, timers, inputs -/

theorem turnAnswer (n : Nat) (a : TurnAnswer) (arm : Nat) : (s.turnAnswer n a arm).Guarding g := h.send _

theorem atTurntable (n : Nat) (act : Station → Station) (hact : (act s).Guarding g) : (s.atTurntable n act).Guarding g := by
  unfold Station.atTurntable
  split
  · exact hact
  · exact h

theorem takeAskFrame (n : Nat) (r : Role) (a e : Nat) : (s.takeAskFrame n r a e).Guarding g := by
  unfold Station.takeAskFrame
  split
  · exact h
  · split
    · exact h.countBad
    · split
      · exact h
      · split
        · exact h.withTt _ id
        · split
          · exact h.turnAnswer _ _ _
          · split
            · exact h.turnAnswer _ _ _
            · exact h.withTt _ id

theorem takeAboardFrame (n : Nat) : (s.takeAboardFrame n).Guarding g := by
  unfold Station.takeAboardFrame
  split
  · split
    · exact h.turnAnswer _ _ _
    · split
      · split
        · exact h.withTt _ (by simp)
        · exact h.turnAnswer _ _ _
      · exact h
  · exact h.turnAnswer _ _ _

theorem takeClearFrame (n : Nat) : (s.takeClearFrame n).Guarding g := by
  unfold Station.takeClearFrame
  split
  · split
    · split
      · exact h.deckIdle.withTt _ id
      · exact h.withTt _ (by simp)
    · exact h.withTt _ id
    · split
      · exact h.withTt _ id
      · exact h.withTt _ id
    · exact h
  · exact h.unqueue _

theorem entryExpired : s.entryExpired.Guarding g := by
  unfold Station.entryExpired
  split
  · exact h
  · dsimp only
    split
    · exact h.deckIdle.turnAnswer _ _ _
    · exact h.withTt _ id

theorem armReport (a : Option Nat) : (s.armReport a).Guarding g := by
  unfold Station.armReport
  split
  · split
    · exact h.endRotation _
    · exact h
  · exact h
  · split
    · exact h
    · exact h.deckFault _

theorem endListen : s.endListen.Guarding g := by
  unfold Station.endListen
  extract_lets _ s1
  have h1 : s1.Guarding g := ⟨h.role, h.guards, h.phase, h.single, h.purpose, h.won⟩
  have h2 : s1.readArm.Guarding g := by
    unfold Station.readArm
    split
    · exact h1.withTt _ (by simp)
    · exact h1
  rw [h1.not_isCarriage, if_neg Bool.false_ne_true]
  refine ⟨h2.role, h2.guards, .inr rfl, h2.single, h2.purpose, fun hr => ?_⟩
  obtain ⟨-, hrest⟩ := h2.won hr
  exact ⟨rfl, hrest⟩

/-! ## The line interface -/

theorem sendHead : s.sendHead.Guarding g := by
  unfold Station.sendHead
  split
  · exact h
  · split
    · extract_lets _ s1 _ s2 _ s3
      have h2 : s2.Guarding g := (h.withLine _).withLine _
      have h3 : s3.Guarding g := by
        simp only [s3]
        split
        · exact h2.same rfl rfl rfl rfl id
        · exact h2
      exact h3.withInputs _
    · exact h

theorem reportSent (x : QueueItem) : (s.reportSent x).Guarding g := by
  unfold Station.reportSent
  split
  · split
    · exact h
    · exact h.editEntries _ fun e => by dsimp only; split <;> [split <;> simp; simp]
  · exact h.withPassage _
  · exact h.withPassage _
  · exact h

theorem reportDropped (x : QueueItem) : (s.reportDropped x).Guarding g := by
  unfold Station.reportDropped
  split
  · split
    · exact h
    · exact h.claimNotSent _
  · split
    · exact h.withTt _ id
    · exact h
  · split
    · exact h.withTt _ id
    · exact h
  · exact h.oweClear _
  · exact h

theorem heardSelf : s.heardSelf.Guarding g := by
  unfold Station.heardSelf Station.restartSilence
  rw [h.not_isCarriage]
  split
  · exact h
  · exact h.withLine _
  · exact h

theorem goodEcho (x : QueueItem) : (s.goodEcho x).Guarding g :=
  (Station.Guarding.heardSelf ((h.withLine _).withInputs _)).reportSent x

theorem failedEcho (x : QueueItem) : (s.failedEcho x).Guarding g := by
  unfold Station.failedEcho
  extract_lets _ _ _ _ s1
  have h1 : s1.Guarding g := (h.withLine _).withInputs _
  split
  · exact h1.setQueue _
  · exact (h1.setQueue _).reportDropped _

theorem judgeEcho (f : Station → QueueItem → Station) (hf : ∀ x, (f s x).Guarding g) : (s.judgeEcho f).Guarding g := by
  unfold Station.judgeEcho
  split
  · exact hf _
  · exact h

theorem writeComplete : s.writeComplete.Guarding g := by
  unfold Station.writeComplete
  split
  · exact h
  · dsimp only
    split
    · exact h.same rfl rfl rfl rfl id
    · exact h.same rfl rfl rfl rfl id

theorem liftInput_eq (act : Station → Station) : s.liftInput act = s := by
  unfold Station.liftInput
  rw [if_pos (by simp [h.not_isCarriage])]

end Station.Guarding

open Station.Guarding in
/-- Every command but a reset keeps the guards of a turntable on the line. -/
theorem exec_guarding {c : Instr} {g : List Nat} {s t : State} (hreset : ¬c.resets)
    (hold : ∀ dt, (s.old dt).Guarding g) (he : exec c s = .next t) : t.station.Guarding g := by
  have hreact : ∀ {dt ev f}, s.reactWith dt ev f = .next t → (f (s.old dt)).Guarding g → t.station.Guarding g := by
    rintro dt ev f ⟨⟩ hf
    exact hf.settle _ _
  have htimer : ∀ {dt timer ev f}, s.onTimer dt timer ev f = .next t → (f (s.old dt)).Guarding g →
      t.station.Guarding g := by
    rintro dt timer ev f ⟨⟩ hf
    refine Station.Guarding.settle ?_ _ _
    dsimp only
    split
    · exact hf
    · exact hold dt
  have hcar : ∀ dt, (s.old dt).isCarriage = false := fun dt => (hold dt).not_isCarriage
  have hon : ∀ dt, (s.old dt).carriageOn = false := fun dt => (hold dt).not_carriageOn
  have hin : ∀ dt i, ((s.old dt).withInputs i).Guarding g := fun dt i => (hold dt).withInputs i
  have honin : ∀ dt i, ((s.old dt).withInputs i).carriageOn = false := fun dt i => (hin dt i).not_carriageOn
  have hframe : ∀ {dt n r k act}, (∀ {v : Station}, v.Guarding g → (act v).Guarding g) →
      ((s.old dt).receive n r k act).Guarding g := fun hact => (hold _).receive _ _ _ _ hact
  have hanswer : ∀ {dt ev n r k a} {act : Station → Station}, s.reactWith dt ev (fun u => u.receive n r k fun v =>
      if v.isCarriage && decide (a = v.par.station) then act v else v) = .next t → t.station.Guarding g := fun he =>
    hreact he (hframe fun hv => by
      rw [hv.not_isCarriage, Bool.false_and, if_neg Bool.false_ne_true]
      exact hv)
  cases c with
  | resetAsserted dt => exact absurd trivial hreset
  | resetReleased dt =>
    dsimp only [exec, execResetReleased] at he
    refine hreact he ?_
    split
    · next hp =>
      obtain h1 | h1 := (hold dt).phase <;> rw [hp] at h1 <;> cases h1
    · exact hold dt
  | bootReadComplete dt i l =>
    dsimp only [exec, execBootReadComplete] at he
    refine hreact he ?_
    split
    · next hp =>
      obtain h1 | h1 := (hin dt { (s.old dt).inputs with loadSensed := l }).phase <;> rw [hp] at h1 <;> cases h1
    · exact hin _ _
  | listenInEnd dt =>
    dsimp only [exec, execListenInEnd] at he
    refine htimer he ?_
    split
    · exact (hold dt).endListen
    · exact hold dt
  | bodyClaimRetry dt =>
    dsimp only [exec, execBodyClaimRetry] at he
    refine htimer he ?_
    rw [if_neg (hold dt).not_bodyClaim]
    exact hold dt
  | badFrameReceived dt b =>
    dsimp only [exec, execBadFrameReceived] at he
    refine hreact he ?_
    split
    · exact (hold dt).fallQuiet.countBad
    · exact (hold dt).fallQuiet
  | duplicateStationFrame dt k =>
    dsimp only [exec, execDuplicateStationFrame] at he
    exact hreact he (hframe id)
  | carriageBeaconReceived dt src b =>
    dsimp only [exec, execCarriageBeaconReceived] at he
    exact hreact he (hframe fun hv => (hv.mapPeer _ _).beaconHolds _)
  | turntableBeaconReceived dt src b =>
    dsimp only [exec, execTurntableBeaconReceived] at he
    refine hreact he (hframe fun {v} hv => ?_)
    have h1 := (hv.mapPeer src fun e => e.takeTurntable v.map b).beaconHolds src
    unfold Station.passageBeacon
    rw [h1.not_isCarriage, Bool.false_and, if_neg Bool.false_ne_true]
    exact h1
  | claimReceived dt hd n k r =>
    dsimp only [exec, execClaimReceived] at he
    exact hreact he (hframe fun hv => (hv.mapPeer _ _).answerClaim _ _ _)
  | objectReceived dt hd n k r a =>
    dsimp only [exec, execObjectReceived] at he
    exact hreact he (hframe fun hv => (hv.peerObject _ _ _ _ _).takeObject _ _ _ _)
  | releaseReceived dt hd l =>
    dsimp only [exec, execReleaseReceived] at he
    exact hreact he (hframe fun hv => hv.mapPeer _ _)
  | yieldAskReceived dt hd n p w =>
    dsimp only [exec, execYieldAskReceived] at he
    refine hreact he (hframe fun {v} hv => ?_)
    have h1 := hv.mapPeer hd.src fun e => { e with rank := ⟨w, false⟩ }
    split
    · split
      · exact h1.takeYieldAsk _ _ _
      · exact h1.countBad
    · exact h1
  | orderMove dt o r =>
    dsimp only [exec, execOrderMove, State.takeOrder] at he
    exact hreact he (hframe fun hv => hv.orderFor _ _ _ (hv.carriageOnly _))
  | orderFetch dt o r =>
    dsimp only [exec, execOrderFetch, State.takeOrder] at he
    exact hreact he (hframe fun hv => hv.orderFor _ _ _ (hv.carriageOnly _))
  | orderPlace dt o r =>
    dsimp only [exec, execOrderPlace, State.takeOrder] at he
    exact hreact he (hframe fun hv => hv.orderFor _ _ _ (hv.carriageOnly _))
  | orderBadKind dt o k =>
    dsimp only [exec, execOrderBadKind, State.takeOrder] at he
    refine hreact he (hframe fun hv => hv.orderFor _ _ _ ?_)
    split
    · exact hv.countBad
    · exact hv
  | orderHalt dt o =>
    dsimp only [exec, execOrderHalt, State.takeOrder] at he
    exact hreact he (hframe fun hv => hv.orderFor _ _ _ (by rw [hv.byRole_eq]; exact hv.withTt _ id))
  | orderResume dt o =>
    dsimp only [exec, execOrderResume, State.takeOrder] at he
    exact hreact he (hframe fun hv => hv.orderFor _ _ _ (by rw [hv.byRole_eq]; exact hv.ttResume))
  | orderCancel dt o =>
    dsimp only [exec, execOrderCancel, State.takeOrder] at he
    exact hreact he (hframe fun hv => hv.orderFor _ _ _ (by rw [hv.byRole_eq]; exact hv))
  | orderSetPosition dt o l x u =>
    dsimp only [exec, execOrderSetPosition, State.takeOrder] at he
    exact hreact he (hframe fun hv => hv.orderFor _ _ _ (hv.carriageOnly _))
  | orderClearPeer dt o p =>
    dsimp only [exec, execOrderClearPeer, State.takeOrder] at he
    exact hreact he (hframe fun hv => hv.orderFor _ _ _ (hv.takeClearPeer _ _))
  | turnAskReceived dt hd n a e =>
    dsimp only [exec, execTurnAskReceived] at he
    exact hreact he (hframe fun hv => hv.atTurntable _ _ (hv.takeAskFrame _ _ _ _))
  | turnAboardReceived dt hd n =>
    dsimp only [exec, execTurnAboardReceived] at he
    exact hreact he (hframe fun hv => hv.atTurntable _ _ (hv.takeAboardFrame _))
  | turnClearReceived dt hd n =>
    dsimp only [exec, execTurnClearReceived] at he
    exact hreact he (hframe fun hv => hv.atTurntable _ _ (hv.takeClearFrame _))
  | turnAnswerGrant dt hd a n =>
    dsimp only [exec, execTurnAnswerGrant, State.takeAnswer] at he
    exact hanswer he
  | turnAnswerExit dt hd a n =>
    dsimp only [exec, execTurnAnswerExit, State.takeAnswer] at he
    exact hanswer he
  | turnAnswerRefusedFull dt hd a n =>
    dsimp only [exec, execTurnAnswerRefusedFull, State.takeAnswer] at he
    exact hanswer he
  | turnAnswerFault dt hd a n =>
    dsimp only [exec, execTurnAnswerFault, State.takeAnswer] at he
    exact hanswer he
  | turnAnswerRevoked dt hd a n =>
    dsimp only [exec, execTurnAnswerRevoked, State.takeAnswer] at he
    exact hanswer he
  | turnAnswerNotCentred dt hd a n =>
    dsimp only [exec, execTurnAnswerNotCentred, State.takeAnswer] at he
    exact hanswer he
  | sendPointReached dt =>
    dsimp only [exec, execSendPointReached] at he
    refine hreact he ?_
    split
    · exact (hold dt).sendHead
    · exact hold dt
  | echoGood dt =>
    dsimp only [exec, execEchoGood] at he
    refine hreact he ?_
    split
    · exact (hold dt).judgeEcho _ fun _ => (hold dt).goodEcho _
    · exact hold dt
  | echoFailed dt =>
    dsimp only [exec, execEchoFailed] at he
    refine hreact he ?_
    split
    · exact (hold dt).judgeEcho _ fun _ => (hold dt).failedEcho _
    · exact hold dt
  | beaconTimerExpiry dt =>
    dsimp only [exec, execBeaconTimerExpiry] at he
    exact htimer he ((hold dt).beaconFallsDue.withLine _)
  | silenceTimerExpiry dt =>
    dsimp only [exec, execSilenceTimerExpiry] at he
    refine htimer he ?_
    rw [hcar, Bool.false_and, if_neg Bool.false_ne_true]
    exact hold dt
  | recoveryTimerExpiry dt =>
    dsimp only [exec, execRecoveryTimerExpiry] at he
    refine htimer he ?_
    rw [hcar, Bool.false_and, if_neg Bool.false_ne_true]
    exact hold dt
  | listenWindowEnd dt n =>
    dsimp only [exec, execListenWindowEnd] at he
    refine hreact he ?_
    split
    · exact (hold dt).endWindow _
    · exact hold dt
  | holdLimitReached dt n =>
    dsimp only [exec, execHoldLimitReached] at he
    exact hreact he (by rw [(hold dt).holdLimit_eq, ite_self]; exact hold dt)
  | pendingNoteExpiry dt p n =>
    dsimp only [exec, execPendingNoteExpiry] at he
    refine hreact he ?_
    split
    · exact (hold dt).mapPeer _ _
    · exact hold dt
  | peerStale dt p =>
    dsimp only [exec, execPeerStale] at he
    refine hreact he ?_
    split
    · exact (hold dt).mapPeer _ _
    · exact hold dt
  | peerLost dt p =>
    dsimp only [exec, execPeerLost] at he
    refine hreact he ?_
    split
    · exact (hold dt).mapPeer _ _
    · exact hold dt
  | orderEvaluationTimer dt =>
    dsimp only [exec, execOrderEvaluationTimer] at he
    exact htimer he (by rw [hcar, if_neg Bool.false_ne_true]; exact hold dt)
  | blockTimeExpiry dt =>
    dsimp only [exec, execBlockTimeExpiry] at he
    exact htimer he ((hold dt).same rfl rfl rfl rfl id)
  | passageRetryDue dt =>
    dsimp only [exec, execPassageRetryDue] at he
    refine htimer he ?_
    rw [hcar, Bool.false_and, if_neg Bool.false_ne_true]
    exact hold dt
  | turntableEvaluationTimer dt =>
    dsimp only [exec, execTurntableEvaluationTimer] at he
    exact htimer he ((hold dt).withTt _ id)
  | guardRetryTime dt =>
    dsimp only [exec, execGuardRetryTime] at he
    exact htimer he ((hold dt).withTt _ id)
  | entryTimerExpiry dt =>
    dsimp only [exec, execEntryTimerExpiry] at he
    refine htimer he ?_
    split
    · exact (hold dt).entryExpired
    · exact hold dt
  | exitTimerExpiry dt =>
    dsimp only [exec, execExitTimerExpiry] at he
    refine htimer he ?_
    split
    · exact (hold dt).withTt _ id
    · exact hold dt
  | rotationTimerExpiry dt =>
    dsimp only [exec, execRotationTimerExpiry] at he
    refine htimer he ?_
    split
    · exact (hold dt).deckFault _
    · exact hold dt
  | armAlignedChange dt a =>
    dsimp only [exec, execArmAlignedChange] at he
    refine hreact he ?_
    split
    · exact (hin _ _).armReport _
    · exact hin _ _
  | rotationFaultChange dt b =>
    dsimp only [exec, execRotationFaultChange] at he
    refine hreact he ?_
    split
    · exact (hin _ _).deckFault _
    · exact hin _ _
  | deckSensorChange dt a b d =>
    dsimp only [exec, execDeckSensorChange] at he
    exact hreact he (hin _ _)
  | countReport dt n =>
    dsimp only [exec, execCountReport] at he
    exact hreact he (by rw [hon, if_neg Bool.false_ne_true]; exact hold dt)
  | confirmedStepChange dt k =>
    dsimp only [exec, execConfirmedStepChange] at he
    exact hreact he (hin _ _)
  | stepDwellEnd dt =>
    dsimp only [exec, execStepDwellEnd] at he
    exact htimer he (hold dt)
  | driveFaultChange dt b =>
    dsimp only [exec, execDriveFaultChange] at he
    exact hreact he (by simp only [honin, Bool.false_and, Bool.false_eq_true, if_false]; exact hin _ _)
  | inPositionActive dt =>
    dsimp only [exec, execInPositionActive] at he
    exact hreact he (by rw [hon, if_neg Bool.false_ne_true]; exact hold dt)
  | dockingIndexChange dt b =>
    dsimp only [exec, execDockingIndexChange] at he
    exact hreact he (by simp only [honin, Bool.false_and, Bool.false_eq_true, if_false]; exact hin _ _)
  | dockingDebounceExpiry dt =>
    dsimp only [exec, execDockingDebounceExpiry] at he
    exact hreact he (by rw [hon, if_neg Bool.false_ne_true]; exact hold dt)
  | markerPresentChange dt b n =>
    dsimp only [exec, execMarkerPresentChange] at he
    exact hreact he (by simp only [honin, Bool.false_eq_true, if_false]; exact hin _ _)
  | markerDebounceExpiry dt =>
    dsimp only [exec, execMarkerDebounceExpiry] at he
    exact hreact he (by rw [hon, if_neg Bool.false_ne_true]; exact hold dt)
  | atTopChange dt b l =>
    dsimp only [exec, execAtTopChange] at he
    exact hreact he (by rw [(hin _ _).liftInput_eq]; exact hin _ _)
  | atBottomChange dt b l =>
    dsimp only [exec, execAtBottomChange] at he
    exact hreact he (by rw [(hin _ _).liftInput_eq]; exact hin _ _)
  | liftFaultChange dt b =>
    dsimp only [exec, execLiftFaultChange] at he
    exact hreact he (by rw [(hin _ _).liftInput_eq]; exact hin _ _)
  | liftTimeout dt =>
    dsimp only [exec, execLiftTimeout] at he
    refine htimer he ?_
    rw [hcar, Bool.false_and, if_neg Bool.false_ne_true]
    exact hold dt
  | parkWriteComplete dt =>
    dsimp only [exec, execParkWriteComplete] at he
    exact hreact he (hold dt).writeComplete
  | carrierHeard dt =>
    dsimp only [exec, execCarrierHeard] at he
    exact hreact he (hin _ _)

end Sys2Proof.Machine
end

section
/-! PROOFS. Every step keeps `Station.turnSafe`, and a rotation starts only while no peer lists a guard (R46, R158, R159). -/

namespace Sys2Proof.Machine

/-! ## A carriage on the line -/

/-- A carriage on the line, whose deck unit is at rest. -/
structure Station.Carriage (s : Station) : Prop where
  role : s.par.role = .carriage
  online : s.start.phase.online = true
  deck : s.tt.deck ≠ .rotating

theorem Station.carriage_stable : Station.EvalStable Station.Carriage where
  passage _ h := ⟨h.role, h.online, h.deck⟩
  appr _ h := ⟨h.role, h.online, h.deck⟩
  backing _ h := ⟨h.role, h.online, h.deck⟩
  park _ h := ⟨h.role, h.online, h.deck⟩
  write _ h := ⟨h.role, h.online, h.deck⟩
  lift _ _ h := ⟨h.role, h.online, h.deck⟩
  trail _ _ h := ⟨h.role, h.online, h.deck⟩
  order _ _ h := ⟨h.role, h.online, h.deck⟩
  claims _ _ h := ⟨h.role, h.online, h.deck⟩
  queue _ _ h := ⟨h.role, h.online, h.deck⟩
  schedule _ _ _ h := ⟨h.role, h.online, h.deck⟩
  start x _ hx h := ⟨h.role, by
    obtain hx | ⟨-, hx⟩ := hx
    · exact hx ▸ h.online
    · exact hx ▸ rfl, h.deck⟩
  tt _ _ hd h := ⟨h.role, h.online, fun hr => h.deck (hd hr)⟩
  rotate ht _ _ h := absurd h.role ((Station.turning_iff _).1 ht).1
  env _ _ _ _ _ _ h := ⟨h.role, h.online, h.deck⟩
  latch _ h := ⟨h.role, h.online, h.deck⟩
  raise _ h := ⟨h.role, h.online, h.deck⟩
  dir _ _ h := ⟨h.role, h.online, h.deck⟩
  deck h := ⟨h.role, h.online, h.deck⟩

theorem Station.carriage_commands {c : Instr} (hreset : ¬c.resets) (hboot : ¬c.boots) :
    Station.CommandStable c Station.Carriage where
  toStable := Station.carriage_stable.toStable
  inputs _ _ h := ⟨h.role, h.online, h.deck⟩
  peers n f _ h := by
    rw [Station.mapPeer_eq]
    exact ⟨h.role, h.online, h.deck⟩
  index _ h := ⟨h.role, h.online, h.deck⟩
  line _ _ _ _ h := ⟨h.role, h.online, h.deck⟩
  phase _ _ hp _ h := ⟨h.role, hp h.online, h.deck⟩
  pos _ _ _ _ h := ⟨h.role, h.online, h.deck⟩
  place _ _ _ _ _ _ h := ⟨h.role, h.online, h.deck⟩
  exit _ _ _ _ _ h := ⟨h.role, h.online, h.deck⟩
  load _ _ _ h := ⟨h.role, h.online, h.deck⟩
  mem h := ⟨h.role, h.online, h.deck⟩
  reset hc := absurd hc hreset
  boot hc := absurd hc hboot

/-! ## From and to `Station.turnSafe` -/

theorem Station.Carriage.turnSafe {s : Station} (h : s.Carriage) : s.turnSafe where
  guardsOnly hr := by rw [h.role] at hr; cases hr
  noneYet hp := by
    have := h.online
    obtain hp | hp | hp := hp <;> rw [hp] at this <;> cases this
  rotating hr := absurd hr h.deck

theorem Station.Guarding.turnSafe {g : List Nat} {s : Station} (h : s.Guarding g) : s.turnSafe where
  guardsOnly _ := ⟨h.not_bodyClaim, h.purpose⟩
  noneYet hp := by
    have := h.phase
    obtain hp | hp | hp := hp <;> simp [hp] at this
  rotating hr := by
    obtain ⟨hp, hheld, -⟩ := h.won hr
    refine ⟨s.turning_iff.2 ⟨by simp [h.role], hp⟩, ?_⟩
    have := h.guards
    simpa [Station.guardsHeld, this] using hheld

/-- Off the line nothing is claimed and the deck does not turn. -/
theorem Station.turnSafe_of_offLine {s : Station} (hoff : s.onLine = false) (he : s.claims.entries = [])
    (hd : s.tt.deck ≠ .rotating) : s.turnSafe where
  guardsOnly _ := ⟨fun hp => by simp [Station.onLine_eq, hp, Phase.online] at hoff, by simp [he]⟩
  noneYet _ := he
  rotating hr := absurd hr hd

theorem Station.turnSafe.offLine {s : Station} (h : s.turnSafe) (hoff : s.onLine = false) :
    s.claims.entries = [] ∧ s.tt.deck ≠ .rotating := by
  refine ⟨h.noneYet ?_, fun hr => ?_⟩
  · rw [Station.onLine_eq] at hoff
    cases hp : s.start.phase <;> simp [hp, Phase.online] at hoff ⊢
  · have := (h.rotating hr).1
    rw [Station.turning_of_offLine hoff] at this
    cases this

theorem Station.turnSafe.onLine {s : Station} (h : s.turnSafe) (hb : s.bounded) (hon : s.onLine = true) :
    s.Carriage ∨ s.Guarding s.guards := by
  rw [Station.onLine_eq] at hon
  cases hr : s.par.role with
  | carriage =>
    refine .inl ⟨hr, hon, fun hd => ?_⟩
    exact ((s.turning_iff).1 (h.rotating hd).1).1 hr
  | turntable =>
    obtain ⟨hbody, hpurpose⟩ := h.guardsOnly hr
    refine .inr ⟨hr, rfl, ?_, hb.claims.2.1, hpurpose, fun hd => ?_⟩
    · cases hp : s.start.phase <;> simp [hp, Phase.online] at hon hbody ⊢
    · obtain ⟨hturn, hheld⟩ := h.rotating hd
      have hall : ∀ n ∈ s.guards, s.claims.isHeld n = true := by simpa [Station.guardsHeld] using hheld
      exact ⟨((s.turning_iff).1 hturn).2, hall, fun e he hg => ClaimBlock.held_of_isHeld hb.claims.2.1 he (hall _ hg)⟩

/-! ## The end of BOOT-READ -/

theorem Station.bringOnLine_carriage {s : Station} (h : s.Carriage) : s.bringOnLine.Carriage := by
  refine Station.carriage_stable.beaconFallsDue ?_
  split <;> exact ⟨h.role, h.online, h.deck⟩

theorem Station.bringOnLine_guarding {g : List Nat} {s : Station} (h : s.Guarding g) : s.bringOnLine.Guarding g := by
  refine Station.Guarding.beaconFallsDue ?_
  split <;> exact h.same rfl rfl rfl rfl id

/-- A part that begins LISTEN-IN with nothing claimed and its deck at rest. -/
theorem Station.turnSafe_bringOnLine {s : Station} (hp : s.start.phase = .listenIn) (he : s.claims.entries = [])
    (hd : s.tt.deck ≠ .rotating) (old : Station) (ev : Events) : (Station.settle old s.bringOnLine ev).turnSafe := by
  cases hr : s.par.role with
  | carriage =>
    exact (Station.carriage_stable.settle old ev (Station.bringOnLine_carriage ⟨hr, by rw [hp]; rfl, hd⟩)).turnSafe
  | turntable =>
    have h : s.Guarding s.guards := ⟨hr, rfl, .inl hp, by simp [he], by simp [he], fun h => absurd h hd⟩
    exact (Station.Guarding.settle (Station.bringOnLine_guarding h) old ev).turnSafe

theorem Station.turnSafe_bootGood {s : Station} (he : s.claims.entries = []) (hd : s.tt.deck ≠ .rotating)
    (p : Params) (m : TrackMap) (k b : Bool) (old : Station) (ev : Events) :
    (Station.settle old (s.bootGood p m k b) ev).turnSafe := by
  unfold Station.bootGood
  extract_lets s1 s2
  have h2 : s2.claims.entries = [] ∧ s2.tt.deck ≠ .rotating := by
    simp only [s2]
    split
    · obtain ⟨x, y, z, w, hx⟩ := s1.bootCarriage_eq b
      rw [hx]
      exact ⟨he, hd⟩
    · exact ⟨he, hd⟩
  obtain ⟨hempty, hdeck⟩ := h2
  generalize hx : ({ s2.start with phase := .listenIn, clamped := k, listenEnd := some (s2.ms + 2 * p.beacon) } : Startup) = x
  exact Station.turnSafe_bringOnLine (s := s2.withStart x) (by rw [← hx]; rfl) hempty hdeck old ev

/-! ## Every command -/

theorem Station.turnSafe_settle_offLine {s : Station} (hoff : s.onLine = false) (he : s.claims.entries = [])
    (hd : s.tt.deck ≠ .rotating) (old : Station) (ev : Events) : (Station.settle old s ev).turnSafe := by
  rw [Station.settle_of_offLine old ev hoff]
  exact Station.turnSafe_of_offLine hoff he hd

theorem exec_turnSafe_offLine {c : Instr} {s t : State} (h : s.station.turnSafe) (hoff : s.station.onLine = false)
    (hreset : ¬c.resets) (he : exec c s = .next t) : t.station.turnSafe := by
  obtain ⟨hempty, hdeck⟩ := h.offLine hoff
  by_cases hrel : s.station.start.phase = .reset ∧ ∃ dt, c = .resetReleased dt
  · obtain ⟨hp, dt, rfl⟩ := hrel
    dsimp only [exec, execResetReleased] at he
    cases he
    refine Station.turnSafe_settle_offLine ?_ ?_ ?_ _ _ <;> dsimp only <;>
      rw [if_pos (show (s.station.advance dt).start.phase = .reset from hp)]
    · rfl
    · exact hempty
    · exact hdeck
  by_cases hboot : s.station.start.phase = .bootRead ∧ ∃ dt i l, c = .bootReadComplete dt i l
  · obtain ⟨hp, dt, i, l, rfl⟩ := hboot
    rw [exec_bootReadComplete dt i l s hp] at he
    cases he
    obtain ⟨m, hx⟩ | ⟨m, k, hx⟩ := Station.bootRead_cases ((s.old dt).withInputs { s.station.inputs with loadSensed := l }) i
    · refine Station.turnSafe_settle_offLine ?_ ?_ ?_ _ _ <;> rw [hx]
      · rfl
      · rfl
      · simp [Station.startFault, Station.resetAll]
    · unfold State.settled
      rw [hx]
      exact Station.turnSafe_bootGood (s := (s.old dt).withInputs { s.station.inputs with loadSensed := l }) hempty hdeck
        _ _ _ _ _ _
  obtain ⟨n, i, m, k, ht⟩ := exec_offLine hoff hreset (fun hp dt hc => hrel ⟨hp, dt, hc⟩)
    (fun hp dt i l hc => hboot ⟨hp, dt, i, l, hc⟩) he
  rw [ht]
  exact Station.turnSafe_of_offLine hoff hempty hdeck

theorem exec_turnSafe {c : Instr} {s t : State} (hb : s.station.bounded) (h : s.station.turnSafe) (he : exec c s = .next t) :
    t.station.turnSafe := by
  by_cases hreset : c.resets
  · obtain ⟨dt, rfl⟩ : ∃ dt, c = .resetAsserted dt := by
      by_contra hne
      exact Instr.not_resets (fun dt hc => hne ⟨dt, hc⟩) hreset
    dsimp only [exec, execResetAsserted] at he
    cases he
    exact Station.turnSafe_settle_offLine (s := (s.station.advance dt).resetAll) rfl rfl (by simp [Station.resetAll]) _ _
  by_cases hoff : s.station.onLine = false
  · exact exec_turnSafe_offLine h hoff hreset he
  have hon : s.station.onLine = true := by simpa using hoff
  obtain hcar | hguard := h.onLine hb hon
  · by_cases hboot : c.boots
    · obtain ⟨dt, i, l, rfl⟩ : ∃ dt i l, c = .bootReadComplete dt i l := by
        by_contra hne
        exact Instr.not_boots (fun dt i l hc => hne ⟨dt, i, l, hc⟩) hboot
      dsimp only [exec, execBootReadComplete] at he
      refine State.reactWith_keeps he Station.carriage_stable ?_ |>.turnSafe
      rw [if_neg fun hp => ?_]
      · exact ⟨hcar.role, hcar.online, hcar.deck⟩
      · have := hcar.online
        rw [show s.station.start.phase = .bootRead from hp] at this
        cases this
    · exact (exec_keeps (Station.carriage_commands hreset hboot) Station.carriage_stable id
        (fun _ => ⟨hcar.role, hcar.online, hcar.deck⟩) he).turnSafe
  · exact (exec_guarding hreset (fun _ => hguard.same rfl rfl rfl rfl id) he).turnSafe

/-! ## The start of a rotation -/

/-- A deck that rotates does so with no peer listed as holder of a guard. -/
def Station.TurnsFree (s : Station) : Prop := s.tt.deck = .rotating → s.guardsFree = true

theorem Station.turnsFree_stable : Station.EvalStable Station.TurnsFree where
  passage _ h := h
  appr _ h := h
  backing _ h := h
  park _ h := h
  write _ h := h
  lift _ _ h := h
  trail _ _ h := h
  order _ _ h := h
  claims _ _ h := h
  queue _ _ h := h
  schedule _ _ _ h := h
  start _ _ _ h := h
  tt _ _ hd h := fun hr => h (hd hr)
  rotate _ _ hfree _ := fun _ => hfree
  env _ _ _ _ _ _ h := h
  latch _ h := h
  raise _ h := h
  dir _ _ h := h
  deck h := h

theorem Station.deck_bringOnLine {s : Station} (h : s.tt.deck ≠ .rotating) : s.bringOnLine.tt.deck ≠ .rotating := by
  refine Station.notRotating_stable.beaconFallsDue ?_
  split <;> exact h

theorem Station.deck_bootGood {s : Station} (h : s.tt.deck ≠ .rotating) (p : Params) (m : TrackMap) (k b : Bool) :
    (s.bootGood p m k b).tt.deck ≠ .rotating := by
  unfold Station.bootGood
  extract_lets s1 s2
  have h2 : s2.tt.deck ≠ .rotating := by
    simp only [s2]
    split
    · obtain ⟨x, y, z, w, hx⟩ := s1.bootCarriage_eq b
      rw [hx]
      exact h
    · exact h
  exact Station.deck_bringOnLine h2

theorem Station.notRotating_commands (c : Instr) : Station.CommandStable c fun s => s.tt.deck ≠ .rotating where
  toStable := Station.notRotating_stable
  inputs _ _ h := h
  peers n f _ h := by
    rw [Station.mapPeer_eq]
    exact h
  index _ h := h
  line _ _ _ _ h := h
  phase _ _ _ _ h := h
  pos _ _ _ _ h := h
  place _ _ _ _ _ _ h := h
  exit _ _ _ _ _ h := h
  load _ _ _ h := h
  mem h := h
  reset _ _ _ := by simp [Station.resetAll]
  boot _ s i _ h := by
    obtain ⟨m, he⟩ | ⟨m, k, he⟩ := s.bootRead_cases i
    · rw [he]; simp [Station.startFault, Station.resetAll]
    · rw [he]; exact Station.deck_bootGood h _ _ _ _

/-- Settles O51: `Station.Guarding` carries a turntable's guards through every step, and the one elementary change that starts
a rotation asks the peer table first. -/
theorem stepKeepsRotationGuarded : Obligations.StepKeepsRotationGuarded := by
  refine ⟨fun s t hb h he => ?_, fun s t he h0 h1 n hn p hp hstate hmem => ?_⟩
  · have ht : t.station.turnSafe := step_keeps h (fun c u hu hx => exec_turnSafe (hu ▸ hb) (hu ▸ h) hx) he
    refine ⟨ht, fun hr => ?_⟩
    unfold Station.rotationOutput at hr
    split at hr
    · next hc =>
      simp only [Bool.and_eq_true, decide_eq_true_eq] at hc
      exact (ht.rotating hc.2).2
    · exact absurd rfl hr
  · have hfree : t.station.TurnsFree := step_keeps (fun hr => absurd hr h0) (fun c u hu hx =>
      exec_keeps (Station.notRotating_commands c) Station.turnsFree_stable (fun hd hr => absurd hr hd)
        (fun _ => by rw [← hu] at h0; exact h0) hx) he
    have := hfree h1
    simp only [Station.guardsFree, Station.holders, List.all_eq_true, List.isEmpty_iff, List.filter_eq_nil_iff] at this
    simpa [hstate, (List.mem_map.1 hmem)] using this n hn p hp

end Sys2Proof.Machine
end

section
/-! PROOFS. What a carriage that is commanded to move stands on, and the emergency test (R86, R88, R90, R92-R95). -/

namespace Sys2Proof.Machine

/-! ## The stopping tables of every run -/

theorem Station.tablesRise_stable : Station.EvalStable fun s => s.env.tablesRise where
  passage _ h := h
  appr _ h := h
  backing _ h := h
  park _ h := h
  write _ h := h
  lift _ _ h := h
  trail _ _ h := h
  order _ _ h := h
  claims _ _ h := h
  queue _ _ h := h
  schedule _ _ _ h := h
  start _ _ _ h := h
  tt _ _ _ h := h
  rotate _ _ _ h := h
  env _ _ _ he hl _ h := Envelope.tablesRise_congr he hl h
  latch _ h := h
  raise _ h := h
  dir _ _ h := h
  deck h := h

theorem Station.tablesRise_bootGood {s : Station} (h : s.env.tablesRise) (p : Params) (m : TrackMap) (k b : Bool) :
    (s.bootGood p.ordered m k b).env.tablesRise := by
  unfold Station.bootGood
  extract_lets s1 s2
  have h2 : s2.env.tablesRise := by
    simp only [s2]
    split
    · obtain ⟨x, y, z, w, he⟩ := s1.bootCarriage_eq b
      rw [he]
      exact fun i j hij => ⟨stoppingTable_mono _ _ _ hij, stoppingTable_mono _ _ _ hij⟩
    · exact h
  refine Station.tablesRise_stable.beaconFallsDue ?_
  split <;> exact h2

theorem Station.tablesRise_commands (c : Instr) : Station.CommandStable c fun s => s.env.tablesRise where
  toStable := Station.tablesRise_stable.toStable
  inputs _ _ h := h
  peers n f _ h := by rw [Station.mapPeer_eq]; exact h
  index _ h := h
  line _ _ _ _ h := h
  phase _ _ _ _ h := h
  pos _ _ _ _ h := h
  place _ _ _ _ _ _ h := h
  exit _ _ _ _ _ h := h
  load _ _ _ h := h
  mem h := h
  reset _ _ _ := Envelope.tablesRise_default
  boot _ s i _ h := by
    obtain ⟨m, he⟩ | ⟨m, k, he⟩ := s.bootRead_cases i
    · rw [he]; exact Envelope.tablesRise_default
    · rw [he]; exact Station.tablesRise_bootGood h _ _ _ _

/-- The distances in use do not fall with the step either (R79, R82). -/
theorem Station.d_mono {s : Station} (h : s.env.tablesRise) {i j : Nat} (hij : i ≤ j) (hj : j ≤ 7) : s.d i ≤ s.d j := by
  have ht : ∀ v : Vector Nat 8, (∀ a b : Fin 8, a ≤ b → v[a] ≤ v[b]) → (v[i]?).getD 0 ≤ (v[j]?).getD 0 := fun v hv => by
    rw [Vector.getElem?_eq_getElem (by omega : i < 8), Vector.getElem?_eq_getElem (by omega : j < 8)]
    exact hv ⟨i, by omega⟩ ⟨j, by omega⟩ hij
  unfold Station.d Station.table
  split
  · exact ht _ fun a b hab => (h a b hab).1
  · exact ht _ fun a b hab => (h a b hab).2

/-! ## What a permitted step says -/

/-- A step at or below the claim term, with its margin, fits into the track claimed ahead (R86). -/
theorem Station.of_le_pClaim {s : Station} (h : s.env.tablesRise) {k : Nat} (hk : 0 < k) (hle : k ≤ s.pClaim) :
    s.pos.frame = .line ∧ (∀ b ∈ s.touched, s.claims.holds b.seg = true) ∧
      ((s.d k + s.par.margin : Nat) : Int) ≤ s.dClaim := by
  by_cases h0 : s.unheldBelow = true ∨ s.pos.frame ≠ .line
  · rw [Station.pClaim_eq_zero h0] at hle
    omega
  · simp only [not_or, Bool.not_eq_true, ne_eq, not_not] at h0
    obtain ⟨hheld, hframe⟩ := h0
    refine ⟨hframe, fun b hb => ?_, ?_⟩
    · simpa using List.any_eq_false.1 hheld b hb
    · rw [Station.pClaim_eq_highest hheld hframe] at hle
      obtain ⟨h7, -, hpass⟩ := highestBelow_eight_spec fun k => ((s.d k + s.par.margin : Nat) : Int) ≤ s.dClaim
      have := hpass (by omega)
      have := Station.d_mono h hle h7
      omega

/-- A step above 0 at or below the cap term (R88). -/
theorem Station.of_le_pCap {s : Station} {k : Nat} (hk : 0 < k) (hle : k ≤ s.pCap) :
    (s.order.state = .running ∨ s.order.state = .backing) ∧ s.lift.state.atRest = true ∧ s.inputs.driveFault = false ∧
      s.line.fault = false ∧ s.silent = false ∧
      (s.pos.doubt = true ∨ s.pos.u = 2000 ∨ (∃ b ∈ s.touched, b.kind ≠ .plain) → k = 1) := by
  unfold Station.pCap at hle
  split at hle
  · omega
  · next h1 =>
    split at hle
    · omega
    · next h2 =>
      split at hle
      · omega
      · next h3 =>
        split at hle
        · omega
        · next h4 =>
          split at hle
          · omega
          · next h5 =>
            refine ⟨by simpa [or_iff_not_imp_left] using h1, by simpa using h2, by simpa using h3, by simpa using h5, by simpa using h4, fun hc => ?_⟩
            rw [if_pos (by simpa [Station.nearTurntable, Config.uMax, or_assoc] using hc)] at hle
            omega

/-- Every command ends with the final drop (R90). -/
theorem exec_moveSafe {c : Instr} {s t : State} (he : exec c s = .next t) : t.station.moveSafe := by
  cases c <;> (cases he; exact Station.moveSafe_finalDrop _)

/-! ## The emergency test -/

theorem Station.driving_iff (s : Station) :
    s.driving = true ↔ s.par.role = .carriage ∧ (s.start.phase = .bodyClaim ∨ s.start.phase = .ready) := by
  simp [Station.driving, Station.isCarriage]

theorem Station.driving_stable : Station.EvalStable fun s => s.driving = true where
  passage _ h := h
  appr _ h := h
  backing _ h := h
  park _ h := h
  write _ h := h
  lift _ _ h := h
  trail _ _ h := h
  order _ _ h := h
  claims _ _ h := h
  queue _ _ h := h
  schedule _ _ _ h := h
  start x _ hx h := by
    obtain ⟨hrole, hp⟩ := (Station.driving_iff _).1 h
    refine (Station.driving_iff _).2 ⟨hrole, ?_⟩
    obtain hx | ⟨-, hx⟩ := hx
    · exact hp.imp hx.trans hx.trans
    · exact .inr hx
  tt _ _ _ h := h
  rotate _ _ _ h := h
  env _ _ _ _ _ _ h := h
  latch _ h := h
  raise _ h := h
  dir _ _ h := h
  deck h := h

theorem Station.inputs_of_steady {s t : Station} (h : t.steady = s.steady) : t.inputs = s.inputs :=
  (congrArg Station.inputs h : t.steady.inputs = s.steady.inputs)

theorem Station.latch_requestDirection (s : Station) (d : Dir) : (s.requestDirection d).env.latch = s.env.latch := by
  unfold Station.requestDirection
  split
  · rfl
  · split <;> rfl

theorem Station.latch_applyPending (s : Station) : s.applyPending.env.latch = s.env.latch := by
  unfold Station.applyPending
  split
  · split <;> rfl
  · rfl

theorem Station.latch_handOver (s : Station) : s.handOver.env.latch = s.env.latch := by
  unfold Station.handOver Station.handOn Station.startAttempt
  split
  · rfl
  · split
    · dsimp only
      split
      · exact Station.latch_requestDirection _ _
      · split
        · exact Station.latch_requestDirection _ _
        · rfl
    · rfl

theorem Station.latch_dropStep (s : Station) : s.dropStep.env.latch = s.env.latch := by
  unfold Station.dropStep
  extract_lets
  split <;> rfl

theorem Station.bare_releaseTest (s : Station) : s.releaseTest.bare = s.bare := by
  unfold Station.releaseTest
  extract_lets
  split
  · exact foldl_keeps Station.bare _ (fun b a => Station.bare_releaseEntry b a) _ s
  · rfl

theorem Station.env_releaseTest (s : Station) : s.releaseTest.env = s.env :=
  (congrArg Station.env s.bare_releaseTest : s.releaseTest.bare.env = s.bare.env)

theorem Station.env_movedOff (s : Station) : s.movedOff.env = s.env := by
  unfold Station.movedOff Station.requestWrite
  dsimp only
  split
  · split <;> rfl
  · rfl

theorem Station.latch_raiseTest (s : Station) : s.raiseTest.env.latch = s.env.latch := by
  unfold Station.raiseTest
  split
  · dsimp only
    split
    · rw [Station.env_movedOff]; rfl
    · rfl
  · rfl

/-- No raise under the latch, or where no step is permitted (R91, R95). -/
theorem Station.raiseTest_of_not {s : Station} (h : s.env.latch = true ∨ s.permitted = 0) : s.raiseTest = s := by
  unfold Station.raiseTest
  rw [if_neg]
  obtain h | h := h <;> simp [h]

theorem Station.latch_withdrawDemand (s : Station) : s.withdrawDemand.env.latch = s.env.latch := by
  unfold Station.withdrawDemand
  split <;> rfl

theorem Station.commanded_withdrawDemand (s : Station) : s.withdrawDemand.env.commanded = s.env.commanded := by
  unfold Station.withdrawDemand
  split <;> rfl

theorem Station.clearLatch_of_not {s : Station} (h : s.env.latch = false ∨ s.inputs.confirmed ≠ 0) : s.clearLatch = s := by
  unfold Station.clearLatch
  rw [if_neg]
  obtain h | h := h <;> simp [h]

theorem Station.clearLatch_of {s : Station} (h : s.env.latch = true) (h0 : s.inputs.confirmed = 0) :
    s.clearLatch = (s.withEnv { s.env with commanded := 0, latch := false }).stopOrder .emergency := by
  unfold Station.clearLatch
  rw [if_pos (by simp [h, h0])]

theorem Station.env_stopLift (s : Station) : s.stopLift.env = s.env := by
  unfold Station.stopLift
  split <;> rfl

theorem Station.env_stopOrder (s : Station) (r : Reason) : (s.stopOrder r).env = s.env := by
  unfold Station.stopOrder
  split
  · rfl
  · split
    · split <;> rfl
    · exact Station.env_stopLift _

/-- STOPPED with EMERGENCY, and the order of no other state changed (R95, R106). -/
theorem Station.stopOrder_emergency (s : Station) :
    (s.order.state.active = true → s.order.state ≠ .stopped → (s.stopOrder .emergency).ends = (.stopped, .emergency)) ∧
    (s.order.state.active = false ∨ s.order.state = .stopped → (s.stopOrder .emergency).ends = s.ends) := by
  unfold Station.stopOrder
  refine ⟨fun ha hs => ?_, fun h => ?_⟩
  · rw [if_neg (by simp [ha]), if_neg hs, Station.ends_stopLift]
    rfl
  · obtain h | h := h
    · rw [if_pos (by simp [h])]
    · rw [if_neg (by simp [h, OrderState.active]), if_pos h]
      simp [Reason.replaces]

/-- Nothing is permitted to an order that neither runs nor backs (R88). -/
theorem Station.permitted_of_order {s : Station} (h : s.order.state ≠ .running) (h' : s.order.state ≠ .backing) :
    s.permitted = 0 := by
  have : s.pCap = 0 := by
    unfold Station.pCap
    rw [if_pos (by simp [h, h'])]
  unfold Station.permitted
  split
  · rfl
  · omega

/-- What follows the emergency test in an evaluation, when nothing may rise (R89, R96). -/
theorem Station.env_after_brake {s : Station} (h : s.env.latch = true ∨ s.releaseTest.permitted = 0) :
    s.releaseTest.raiseTest.withdrawDemand.env.commanded = s.env.commanded ∧
    s.releaseTest.raiseTest.withdrawDemand.env.latch = s.env.latch := by
  rw [Station.commanded_withdrawDemand, Station.latch_withdrawDemand,
    Station.raiseTest_of_not (by rwa [Station.env_releaseTest]), Station.env_releaseTest]
  exact ⟨rfl, rfl⟩

/-- Where the emergency test fails or the latch stands, command and latch before the latch may clear (R94, R95). -/
theorem Station.env_braked (w : Station) (h : w.mustBrake = true ∨ w.env.latch = true) :
    let x := if w.mustBrake then w.raiseEmergency else w.dropStep
    x.env.commanded = 0 ∧ x.env.latch = true := by
  intro x
  simp only [x]
  split
  · exact ⟨rfl, rfl⟩
  · next hn =>
    have hl := h.resolve_left hn
    rw [Station.latch_dropStep]
    refine ⟨?_, hl⟩
    unfold Station.dropStep
    simp only [hl, Bool.true_or, if_true]
    split
    · rfl
    · next h0 => exact Nat.eq_zero_of_not_pos h0

theorem Station.mustBrake_iff (w : Station) : w.mustBrake = true ↔
    0 < max w.env.commanded w.inputs.confirmed ∧ w.pos.frame ≠ .unknown ∧ w.dHold < (w.dEff : Int) := by
  simp [Station.mustBrake, Station.effective, and_assoc]

/-- The parts of one evaluation, and what each says of inputs and order. -/
theorem Station.envEval_spec {v : Station} (hv : v.driving = true) :
    let w := v.applyPending.handOver
    let u := v.envEval
    u.driving = true ∧ u.inputs = v.inputs ∧
    (w.mustBrake = true ∨ v.env.latch = true → u.env.commanded = 0 ∧
      (v.inputs.confirmed ≠ 0 → u.env.latch = true ∧ u.ends = v.ends) ∧
      (v.inputs.confirmed = 0 → u.env.latch = false ∧
        (v.order.state.active = true → v.order.state ≠ .stopped → u.ends = (.stopped, .emergency)) ∧
        (v.order.state.active = false ∨ v.order.state = .stopped → u.ends = v.ends))) ∧
    (w.mustBrake = false → v.env.latch = false → u.env.latch = false ∧ u.ends = v.ends) := by
  intro w u
  have hlatch : w.env.latch = v.env.latch := (Station.latch_handOver _).trans (Station.latch_applyPending _)
  set x : Station := if w.mustBrake then w.raiseEmergency else w.dropStep with hx
  have hu : u = x.clearLatch.releaseTest.raiseTest.withdrawDemand := by
    simp only [u, Station.envEval, hv, if_true]
    rfl
  have hxin : x.inputs = v.inputs := by
    refine Station.inputs_of_steady ?_
    simp only [hx]
    split <;> simp [w, Station.raiseEmergency]
  have hxends : x.ends = v.ends := by
    simp only [hx]
    split <;> simp [w]
  refine ⟨?_, ?_, fun hbrake => ?_, fun hno hl => ?_⟩
  · exact Station.driving_stable.toStable.envEval hv
  · exact Station.inputs_of_steady (by simp [u])
  · obtain ⟨hcmd, hl⟩ := w.env_braked (hbrake.imp id hlatch.trans)
    rw [← hx] at hcmd hl
    by_cases h0 : v.inputs.confirmed = 0
    · have hclear := Station.clearLatch_of hl (by rw [hxin]; exact h0)
      obtain ⟨hstop, hkeep⟩ := (x.withEnv { x.env with commanded := 0, latch := false }).stopOrder_emergency
      have hord : x.order.state = v.order.state := congrArg Prod.fst hxends
      rw [← hclear] at hstop hkeep
      have hidle : x.clearLatch.releaseTest.order.state ≠ .running ∧ x.clearLatch.releaseTest.order.state ≠ .backing := by
        have hsame : x.clearLatch.releaseTest.order.state = x.clearLatch.order.state :=
          congrArg Prod.fst (Station.ends_releaseTest x.clearLatch)
        rw [hsame]
        by_cases ha : x.order.state.active = true ∧ x.order.state ≠ .stopped
        · have : x.clearLatch.order.state = .stopped := congrArg Prod.fst (hstop ha.1 ha.2)
          simp [this]
        · have hor : x.order.state.active = false ∨ x.order.state = .stopped := by
            by_cases h : x.order.state.active = true
            · exact .inr (by simpa [h] using ha)
            · exact .inl (by simpa using h)
          have : x.clearLatch.order.state = x.order.state := congrArg Prod.fst (hkeep hor)
          rw [this]
          obtain h | h := hor
          · constructor <;> intro he <;> rw [he] at h <;> cases h
          · simp [h]
      obtain ⟨e1, e2⟩ := Station.env_after_brake (s := x.clearLatch) (.inr (Station.permitted_of_order hidle.1 hidle.2))
      have henv : x.clearLatch.env = { x.env with commanded := 0, latch := false } := by
        rw [hclear, Station.env_stopOrder]
        rfl
      rw [hu]
      refine ⟨by rw [e1, henv], fun h => absurd h0 h, fun _ => ⟨by rw [e2, henv], fun ha hs => ?_, fun h => ?_⟩⟩
      · simpa using hstop (by rw [← hord] at ha; exact ha) (by rw [← hord] at hs; exact hs)
      · have := hkeep (by rw [← hord] at h; exact h)
        simpa [hxends] using this
    · have hclear := Station.clearLatch_of_not (s := x) (.inr (by rwa [hxin]))
      obtain ⟨e1, e2⟩ := Station.env_after_brake (s := x.clearLatch) (.inl (by rw [hclear]; exact hl))
      rw [hclear] at e1 e2
      rw [hu, hclear]
      exact ⟨e1.trans hcmd, fun _ => ⟨e2.trans hl, by simpa using hxends⟩, fun h => absurd h h0⟩
  · have hxl : x.env.latch = false := by
      simp only [hx, hno, Bool.false_eq_true, if_false, Station.latch_dropStep]
      exact hlatch.trans hl
    have hclear := Station.clearLatch_of_not (s := x) (.inl hxl)
    rw [hu, hclear]
    refine ⟨?_, by simpa using hxends⟩
    rw [Station.latch_withdrawDemand, Station.latch_raiseTest, Station.env_releaseTest]
    exact hxl

/-- Settles O54: the final drop leaves the command within the permitted step, whose terms say the rest; the emergency test is
the middle of one evaluation. -/
theorem movingMeansHeldTrack : Obligations.MovingMeansHeldTrack := by
  refine ⟨fun c s t hs he hmove => ?_, fun v hv => ?_⟩
  · have hrise : t.station.env.tablesRise :=
      exec_keeps (Station.tablesRise_commands c) Station.tablesRise_stable id (fun _ => hs) he
    have hsafe := exec_moveSafe he
    obtain ⟨-, -, -, hle⟩ := hsafe hmove
    have hle' : t.station.env.commanded ≤ t.station.pClaim ∧ t.station.env.commanded ≤ t.station.pCap := by
      unfold Station.permitted at hle
      split at hle
      · omega
      · omega
    obtain ⟨hframe, hheld, hroom⟩ := Station.of_le_pClaim hrise hmove hle'.1
    obtain ⟨horder, hlift, hdrive, hfault, hsilent, hcreep⟩ := Station.of_le_pCap hmove hle'.2
    exact ⟨hsafe, hframe, hheld, horder, hlift, hdrive, hfault, hsilent, hcreep, hroom⟩
  · intro w short u
    obtain ⟨hdrive, hin, hbrake, hfree⟩ := Station.envEval_spec hv
    have hshort : w.mustBrake = true ↔ short := w.mustBrake_iff
    have hout : u.tractionOutputs = ⟨u.pos.dir, u.env.commanded, u.brake, u.env.latch, u.finalDemand⟩ := by
      unfold Station.tractionOutputs
      rw [if_pos hdrive]
    have hends : ∀ {a b}, u.ends = (a, b) → u.order.state = a ∧ u.order.reason = b := fun h =>
      ⟨congrArg Prod.fst h, congrArg Prod.snd h⟩
    refine ⟨fun h => ?_, fun hn hl => ?_⟩
    · obtain ⟨hcmd, hmoving, hrest⟩ := hbrake (h.imp hshort.2 id)
      refine ⟨hcmd, fun h0 => ?_, fun h0 => ?_⟩
      · obtain ⟨hlatch, he⟩ := hmoving h0
        exact ⟨hlatch, by rw [hout]; exact hlatch, hends he⟩
      · obtain ⟨hlatch, hstop, hkeep⟩ := hrest h0
        refine ⟨hlatch, by rw [hout]; exact hlatch, ?_, fun ha hs => hends (hstop ha hs), fun hk => hends (hkeep hk)⟩
        rw [hout]
        have : u.inputs.confirmed = 0 := by rw [show u.inputs = v.inputs from hin]; exact h0
        simp [Station.brake, Station.effective, show u.env.commanded = 0 from hcmd, this]
    · obtain ⟨hlatch, he⟩ := hfree (by simpa using fun hb => hn (hshort.1 hb)) hl
      exact ⟨hlatch, by rw [hout]; exact hlatch, hends he⟩

end Sys2Proof.Machine
end

section
/-! PROOFS. The reception of frames and orders, and the commands that report levels, ages and counts. -/

namespace Sys2Proof.Machine

/-! ## Reception -/

theorem Station.countBad_eq (s : Station) :
    s.countBad = s.withLine { s.line with badCount := min 255 (s.line.badCount + 1) } := by
  have : bump 255 s.line.badCount = min 255 (s.line.badCount + 1) := by
    unfold bump
    split <;> omega
  unfold Station.countBad
  rw [this]

/-- An order from an operations station leaves the peer table as it was (R39). -/
theorem Station.heard_peers_order {s : Station} {src : Nat} (hsrc : src = 30 ∨ src = 31) :
    (s.heard src .carriage .order).peers = s.peers := by
  have h29 : 29 < src := by omega
  unfold Station.heard Station.refreshPeer
  rw [if_pos h29, Station.heardOther_eq, Station.fallQuiet_eq]
  rfl

/-- The reception of an order (R101). -/
theorem State.receive_order {s : State} {o : OrderHead} (dt : Nat) (b : Bool) (act : Station → Station)
    (hon : s.station.onLine = true) (hst : s.station.par.station ≤ 29) (hsrc : o.src = 30 ∨ o.src = 31) :
    s.takeOrder dt o b act = .next (s.settled dt (((s.old dt).heard o.src .carriage .order).orderFor o b act) .ofOrder) := by
  unfold State.takeOrder
  rw [State.reactWith_eq, Station.receive_heard (s.old dt) _ _ _ _ hon]
  · obtain h | h := hsrc <;> simp [senderFits, h]
  · have : (s.old dt).par.station = s.station.par.station := rfl
    omega

/-- An order to this station or to all, with a number and of a kind that may go where it goes (R101). -/
theorem Station.orderFor_taken {s : Station} {o : OrderHead} {b : Bool} (act : Station → Station)
    (ht : o.target = s.par.station ∨ o.target = 0) (hn : o.number ≠ 0) (hb : o.target = 0 → b = true) :
    s.orderFor o b act = act s := by
  unfold Station.orderFor
  rw [if_neg (by simpa [or_iff_not_imp_left] using ht), if_neg (by simpa [hn] using hb)]

theorem Station.orderFor_counted {s : Station} {o : OrderHead} {b : Bool} (act : Station → Station)
    (ht : o.target = s.par.station ∨ o.target = 0) (hc : o.number = 0 ∨ (o.target = 0 ∧ b = false)) :
    s.orderFor o b act = s.countBad := by
  unfold Station.orderFor
  rw [if_neg (by simpa [or_iff_not_imp_left] using ht), if_pos (by simpa using hc)]

/-- Settles O10. -/
theorem badFrameIsCounted : Obligations.BadFrameIsCounted := by
  intro dt bytes s hon hbad
  refine ⟨s.settled dt (s.old dt).fallQuiet.countBad {}, ?_, rfl, ?_⟩
  · dsimp only [exec, execBadFrameReceived]
    rw [State.reactWith_eq, if_pos (by simp [hon, hbad])]
  · rw [Station.countBad_eq, Station.fallQuiet_eq]
    simp

/-! ## Orders -/

/-- An order that is counted as bad changes the count alone. -/
theorem State.settled_counted_order {s : State} {o : OrderHead} (dt : Nat) (hsrc : o.src = 30 ∨ o.src = 31) :
    let t := s.settled dt ((s.old dt).heard o.src .carriage .order).countBad .ofOrder
    t.station.line.badCount = min 255 (s.station.line.badCount + 1) ∧ t.station.peers = s.station.peers ∧
      t.station.order.answer = s.station.order.answer := by
  intro t
  simp [t, Station.countBad_eq, Station.heard_peers_order hsrc]

/-- Settles O19: number, target and role are tested before the kind of the order acts. -/
theorem ordersNotForThisPartAreCounted : Obligations.OrdersNotForThisPartAreCounted := by
  intro dt o s hon hst hsrc ht
  obtain ⟨hbad, hpeers, -⟩ := State.settled_counted_order (s := s) (o := o) dt hsrc
  have ht' : o.target = ((s.old dt).heard o.src .carriage .order).par.station ∨ o.target = 0 := by simpa using ht
  refine ⟨fun kind hk => ⟨_, ?_, rfl, hbad, hpeers⟩, fun hc c hkind => ⟨_, ?_, rfl, hbad, hpeers⟩⟩
  · dsimp only [exec, execOrderBadKind]
    rw [State.receive_order dt _ _ hon hst hsrc]
    by_cases hn : o.number = 0
    · rw [Station.orderFor_counted _ ht' (.inl hn)]
    · rw [Station.orderFor_taken _ ht' hn fun _ => rfl, if_pos hk]
  · have hcount : ∀ act : Station → Station, ((s.old dt).heard o.src .carriage .order).orderFor o false
        (fun u => u.carriageOnly act) = ((s.old dt).heard o.src .carriage .order).countBad := fun act => by
      by_cases hn : o.number = 0 ∨ o.target = 0
      · exact Station.orderFor_counted _ ht' (hn.imp id fun h => ⟨h, rfl⟩)
      · simp only [not_or] at hn
        have hcar : s.station.isCarriage = false := hc.resolve_right (by simp [hn])
        rw [Station.orderFor_taken _ ht' hn.1 fun h => absurd h hn.2, Station.carriageOnly, if_neg]
        simpa using hcar
    obtain ⟨r, rfl | rfl | rfl⟩ | ⟨l, x, n, rfl⟩ := hkind
    · dsimp only [exec, execOrderMove]
      rw [State.receive_order dt _ _ hon hst hsrc, hcount]
    · dsimp only [exec, execOrderFetch]
      rw [State.receive_order dt _ _ hon hst hsrc, hcount]
    · dsimp only [exec, execOrderPlace]
      rw [State.receive_order dt _ _ hon hst hsrc, hcount]
    · dsimp only [exec, execOrderSetPosition]
      rw [State.receive_order dt _ _ hon hst hsrc, hcount]

/-! ## Levels -/

/-- Settles O32. -/
theorem inputsTakeReportedLevels : Obligations.InputsTakeReportedLevels := by
  intro dt s
  refine ⟨⟨s.settled dt ((s.old dt).withInputs { s.station.inputs with quietSince := none }) {}, rfl, by simp, by simp⟩,
    fun k hk => ⟨_, ?_, rfl, by simp, by simp, by simp [Station.effective]⟩,
    fun a b c => ⟨s.settled dt _ _, ?_, rfl, by simp⟩, fun r hon hr hdue => ⟨_, ?_, rfl, by simp, by simp⟩⟩
  · dsimp only [exec, execConfirmedStepChange]
    rw [State.reactWith_eq, show min 7 k = k by omega]
    rfl
  · rfl
  · dsimp only [exec, execStepDwellEnd]
    rw [State.onTimer_due _ _ _ _ _ hon (by simpa [hr, dueAt] using hdue)]
    rfl

/-! ## Peer entries -/

theorem PeerEntry.age_eq (e : PeerEntry) (k now : Nat) (a b : Freshness) :
    e.age k now a b = if e.state = a ∧ e.lastHeard + k * e.agePeriod ≤ now then { e with state := b } else e := by
  unfold PeerEntry.age
  simp only [Bool.and_eq_true, decide_eq_true_eq]

/-- Settles O35. -/
theorem peerEntriesAge : Obligations.PeerEntriesAge := by
  intro dt n seg s hon h1 h29 e now
  have hon' : (s.old dt).onLine = true := hon
  refine ⟨⟨s.settled dt ((s.old dt).mapPeer n fun e => e.expireNotes seg (s.old dt).ms) {}, ?_, ?_, fun m hm => ?_⟩,
    ⟨s.settled dt ((s.old dt).mapPeer n fun e => e.age 3 (s.old dt).ms .fresh .stale) {}, ?_, ?_, fun m hm => ?_⟩,
    ⟨s.settled dt ((s.old dt).mapPeer n fun e => e.age 20 (s.old dt).ms .stale .lost) {}, ?_, ?_, fun m hm => ?_⟩⟩
  · dsimp only [exec, execPendingNoteExpiry]
    rw [State.reactWith_eq, if_pos hon']
  · simp [h1, h29, PeerEntry.expireNotes, e, now]
  · simp [hm]
  · dsimp only [exec, execPeerStale]
    rw [State.reactWith_eq, if_pos hon']
  · rw [State.settled_peer, Station.peer_mapPeer_self _ _ _ h1 h29, PeerEntry.age_eq]
    rfl
  · simp [hm]
  · dsimp only [exec, execPeerLost]
    rw [State.reactWith_eq, if_pos hon']
  · rw [State.settled_peer, Station.peer_mapPeer_self _ _ _ h1 h29, PeerEntry.age_eq]
    rfl
  · simp [hm]

theorem Station.peer_clearPeer (s : Station) (p n : Nat) : (s.clearPeer p).peer n =
    if p ≠ s.par.station ∧ n = p ∧ 1 ≤ p ∧ p ≤ 29 then {} else s.peer n := by
  unfold Station.clearPeer
  split
  · next h => simp [h]
  · next h => simp [h, Station.peer_setPeer]

theorem Station.clearPeer_eq (s : Station) (p : Nat) : s.clearPeer p = s.withPeers (s.clearPeer p).peers := by
  unfold Station.clearPeer Station.setPeer
  split
  · rfl
  · split <;> rfl

/-- Settles O24. -/
theorem clearPeerEmptiesTheEntry : Obligations.ClearPeerEmptiesTheEntry := by
  intro dt p o s hon hst hsrc hnum ht
  set v := (s.old dt).heard o.src .carriage .order with hv
  have ht' : o.target = v.par.station ∨ o.target = 0 := by simpa [hv] using ht
  have hexec : exec (.orderClearPeer dt o p) s = .next (s.settled dt (v.takeClearPeer o p) .ofOrder) := by
    dsimp only [exec, execOrderClearPeer]
    rw [State.receive_order dt _ _ hon hst hsrc, Station.orderFor_taken _ ht' hnum fun _ => rfl]
  have hpeers : v.peers = s.station.peers := Station.heard_peers_order hsrc
  have hpeer : ∀ n, v.peer n = s.station.peer n := fun n => by unfold Station.peer; rw [hpeers]
  have htake : 1 ≤ p → p ≤ 29 → v.takeClearPeer o p =
      if s.station.isCarriage then (v.clearPeer p).answer o .done .none 0 else (v.clearPeer p).unqueue p := fun h1 h2 => by
    unfold Station.takeClearPeer Station.byRole
    rw [if_neg (by simp; omega), Station.clearPeer_eq]
    simp [hv, Station.isCarriage]
  have hclear : ∀ n, (v.clearPeer p).peer n =
      if p ≠ s.station.par.station ∧ n = p ∧ 1 ≤ p ∧ p ≤ 29 then {} else s.station.peer n := fun n => by
    rw [Station.peer_clearPeer, hpeer]
    simp [hv]
  refine ⟨fun h1 h2 => ⟨_, hexec, ?_⟩, fun hp => ⟨_, hexec, ?_⟩, fun h1 h2 hcar => ?_⟩
  · rw [htake h1 h2]
    have hrest : ∀ u : Station, (∀ n, u.peer n = (v.clearPeer p).peer n) → u.peers = (v.clearPeer p).peers →
        (p ≠ s.station.par.station → u.peer p = {}) ∧ (p = s.station.par.station → u.peers = s.station.peers) ∧
        ∀ n, n ≠ p → u.peer n = s.station.peer n := fun u hu hus => by
      refine ⟨fun hne => ?_, fun he => ?_, fun n hn => ?_⟩
      · rw [hu, hclear, if_pos ⟨hne, rfl, h1, h2⟩]
      · rw [hus, Station.clearPeer, if_pos (by rw [he, hv]; simp), hpeers]
      · rw [hu, hclear, if_neg fun h => hn h.2.1]
    have hline : (v.clearPeer p).line.badCount = s.station.line.badCount := by rw [Station.clearPeer_eq]; simp [hv]
    have horder : (v.clearPeer p).order.answer = s.station.order.answer := by rw [Station.clearPeer_eq]; simp [hv]
    split
    · next hc =>
      obtain ⟨ha, hb, hn⟩ := hrest ((v.clearPeer p).answer o .done .none 0)
        (fun n => by unfold Station.answer; split <;> rfl) (by unfold Station.answer; split <;> rfl)
      refine ⟨by simpa using ha, by simpa using hb, by simpa using hn, fun _ => ?_, ?_⟩
      · unfold Station.answer
        split <;> simp [horder]
      · unfold Station.answer
        split <;> simp [hline]
    · next hc =>
      obtain ⟨ha, hb, hn⟩ := hrest ((v.clearPeer p).unqueue p) (fun n => rfl) rfl
      exact ⟨by simpa using ha, by simpa using hb, by simpa using hn, fun h => absurd h hc, (State.settled_line_badCount ..).trans hline⟩
  · have hbad : v.takeClearPeer o p = v.countBad := by
      unfold Station.takeClearPeer
      rw [if_pos (by simpa using hp)]
    obtain ⟨h1, h2, h3⟩ := State.settled_counted_order (s := s) (o := o) dt hsrc
    rw [hbad]
    exact ⟨h2, h1, h3⟩
  · rw [hexec, htake h1 h2, if_neg (by simp [hcar])]

end Sys2Proof.Machine
end

section
/-! PROOFS. The traction drive, the marker reader, the docking index and the turntable port (R21-R29, R98, R139, R154). -/

namespace Sys2Proof.Machine

/-! ## An order that is stopped (R106) -/

theorem Station.stopLift_eq (s : Station) : s.stopLift = s.withLift s.stopLift.lift := by
  unfold Station.stopLift
  split <;> rfl

/-- The order and the lift are all that STOPPED touches. -/
theorem Station.stopOrder_eq (s : Station) (r : Reason) :
    s.stopOrder r = (s.withOrder (s.stopOrder r).order).withLift (s.stopOrder r).lift := by
  unfold Station.stopOrder
  split
  · rfl
  · split
    · split <;> rfl
    · rw [Station.stopLift_eq]
      rfl

theorem Station.stopOrder_ends (s : Station) (r : Reason) : (s.stopOrder r).ends =
    if s.order.state.active = false then s.ends
    else if s.order.state = .stopped then (.stopped, if r.replaces s.order.reason then r else s.order.reason)
    else (.stopped, r) := by
  unfold Station.stopOrder
  cases ha : s.order.state.active with
  | false => rfl
  | true =>
    simp only [Bool.not_true, Bool.false_eq_true, if_false, Bool.true_eq_false]
    split
    · next hs =>
      split
      · exact Prod.ext hs rfl
      · exact Prod.ext hs rfl
    · rw [Station.ends_stopLift]
      rfl

theorem OrderState.resting_of_not_active {x : OrderState} (h : x.active = false) : x.resting = true := by
  cases x <;> simp_all [OrderState.active, OrderState.resting]

theorem OrderState.active_of_resting {x : OrderState} (h : x.resting = true) : x.active = false := by
  cases x <;> simp_all [OrderState.active, OrderState.resting]

/-- A stopped order rests or is STOPPED. -/
theorem Station.stopOrder_rests (s : Station) (r : Reason) :
    (s.stopOrder r).order.state.resting = true ∨ (s.stopOrder r).order.state = .stopped := by
  have h : (s.stopOrder r).order.state = _ := congrArg Prod.fst (s.stopOrder_ends r)
  cases ha : s.order.state.active with
  | false =>
    rw [ha, if_pos rfl] at h
    exact .inl (by rw [h]; exact OrderState.resting_of_not_active ha)
  | true =>
    rw [ha, if_neg (by simp)] at h
    refine .inr (h.trans ?_)
    split <;> rfl

/-- A command that leaves the order at rest or STOPPED leaves the commanded step 0 (R88). -/
theorem State.settled_commanded_of_ended (s : State) (dt : Nat) {u : Station} (ev : Events)
    (h : u.order.state.resting = true ∨ u.order.state = .stopped) :
    (s.settled dt u ev).station.env.commanded = 0 := by
  refine s.settled_commanded_zero dt u ev ?_
  have hs := (s.settled_order_ended dt u ev h).1
  unfold Station.pCap
  rw [if_pos]
  rw [hs]
  cases hx : u.order.state <;> simp_all [OrderState.resting]

/-- What a command that stops the order leaves of it (R98, R106). -/
theorem State.settled_stopped (s : State) (dt : Nat) {u v : Station} (r : Reason) (ev : Events)
    (hu : u.ends = (v.stopOrder r).ends) :
    (s.settled dt u ev).station.env.commanded = 0 ∧
    (v.order.state.active = true → (s.settled dt u ev).station.order.state = .stopped) ∧
    (v.order.state.active = true → v.order.state ≠ .stopped → (s.settled dt u ev).station.order.reason = r) ∧
    (v.order.state = .stopped →
      (s.settled dt u ev).station.order.reason = if r.replaces v.order.reason then r else v.order.reason) ∧
    (v.order.state.resting = true → (s.settled dt u ev).station.order.state = v.order.state ∧
      (s.settled dt u ev).station.order.reason = v.order.reason) := by
  have hstate : u.order.state = (v.stopOrder r).order.state := congrArg Prod.fst hu
  have hrest : u.order.state.resting = true ∨ u.order.state = .stopped := by
    rw [hstate]
    exact v.stopOrder_rests r
  obtain ⟨h1, h2⟩ := s.settled_order_ended dt u ev hrest
  have hends : (u.order.state, u.order.reason) = _ := hu.trans (v.stopOrder_ends r)
  rw [h1, h2]
  refine ⟨s.settled_commanded_of_ended dt ev hrest, fun ha => ?_, fun ha hs => ?_, fun hs => ?_, fun hr => ?_⟩
  · rw [ha, if_neg (by simp)] at hends
    split at hends <;> exact congrArg Prod.fst hends
  · rw [ha, if_neg (by simp), if_neg hs] at hends
    exact congrArg Prod.snd hends
  · rw [if_neg (by simp [hs, OrderState.active]), if_pos hs] at hends
    exact congrArg Prod.snd hends
  · rw [if_pos (OrderState.active_of_resting hr)] at hends
    exact ⟨congrArg Prod.fst hends, congrArg Prod.snd hends⟩

/-- Settles O43. -/
theorem driveFaultStopsTheOrder : Obligations.DriveFaultStopsTheOrder := by
  intro dt s hon hcar
  have hex : ∀ b, exec (.driveFaultChange dt b) s = .next (s.settled dt
      (if b = true ∧ s.station.inputs.driveFault = false then
        ((s.old dt).withInputs { s.station.inputs with driveFault := b }).raiseEmergency.stopOrder .drive
      else (s.old dt).withInputs { s.station.inputs with driveFault := b }) { env := true }) := fun b => by
    have hc : ((s.old dt).withInputs { s.station.inputs with driveFault := b }).carriageOn = true := by
      unfold Station.carriageOn
      exact Bool.and_eq_true_iff.2 ⟨hon, hcar⟩
    dsimp only [exec, execDriveFaultChange]
    rw [State.reactWith_eq]
    simp only [State.old_inputs, hc, Bool.true_and, Bool.and_eq_true, Bool.not_eq_true']
  refine ⟨fun h0 => ⟨_, hex true, ?_⟩, _, hex false, ?_, ?_⟩
  · rw [if_pos ⟨rfl, h0⟩]
    obtain ⟨hcmd, hact, hreason, hstop, hrest⟩ := s.settled_stopped dt (v := ((s.old dt).withInputs
      { s.station.inputs with driveFault := true }).raiseEmergency) .drive { env := true } rfl
    refine ⟨?_, hcmd, hact, hreason, fun hs hr => ?_, fun hs hr => ?_, hrest⟩
    · rw [Station.stopOrder_eq]
      simp [Station.raiseEmergency]
    · have := hstop hs
      rwa [show ((s.old dt).withInputs { s.station.inputs with driveFault := true }).raiseEmergency.order.reason =
        .emergency from hr] at this
    · have := hstop hs
      rw [if_neg] at this
      · exact this
      · change ¬Reason.replaces .drive s.station.order.reason = true
        obtain hr | hr := hr <;> rw [hr] <;> decide
  · rw [if_neg (by simp)]
  · rw [if_neg (by simp)]
    simp

/-! ## The count report (R21-R23, R29) -/

theorem Station.touchPark_eq (s : Station) : s.touchPark = s.withPark s.touchPark.park := by
  unfold Station.touchPark
  split <;> rfl

theorem Station.positionFault_pos (s : Station) : s.positionFault.pos = s.pos := by
  unfold Station.positionFault
  rw [Station.touchPark_eq, Station.stopOrder_eq]
  rfl

theorem Station.positionFault_ends (s : Station) : s.positionFault.ends = (s.stopOrder .position).ends := by
  unfold Station.positionFault
  rw [Station.ends_touchPark, Station.stopOrder_ends, Station.stopOrder_ends]
  rfl

/-- Settles O42. -/
theorem countReportMovesTheCentre : Obligations.CountReportMovesTheCentre := by
  intro dt counts s hon hcar move acc
  have hex : exec (.countReport dt counts) s = .next (s.settled dt ((s.old dt).takeCounts counts) {}) := by
    dsimp only [exec, execCountReport]
    rw [State.reactWith_eq, if_pos]
    simp [Station.carriageOn, hon, hcar]
  have htake : (s.old dt).takeCounts counts = if s.station.pos.frame = .unknown then s.old dt
      else if acc < -100000000 ∨ 4100000000 < acc then
        ((s.old dt).withPos { s.station.pos with
          acc := if acc < -100000000 then -100000000 else 4100000000
          centre := (if acc < -100000000 then -100000000 else 4100000000) / 1000, doubt := true }).positionFault
      else (s.old dt).withPos ({ s.station.pos with
        acc := acc, centre := acc / 1000, travelAcc := min 2000000000 (s.station.pos.travelAcc + move.natAbs)
        travel := min 2000000000 (s.station.pos.travelAcc + move.natAbs) / 1000 }.recompute s.station.par.drift) := by
    unfold Station.takeCounts
    cases hd : s.station.pos.dir <;>
      simp only [acc, move, State.old_pos, State.old_par, hd, Config.accMin, Config.accMax, Config.travelMax, if_true,
        reduceCtorEq, if_false, Bool.or_eq_true, decide_eq_true_eq]
  refine ⟨_, hex, by simp, fun hf h1 h2 => ?_, fun hf hout => ?_, fun hf => ?_⟩
  · rw [htake, if_neg hf, if_neg (by omega)]
    have hcu : ∀ r t d, computeU s.station.pos.frame r t d = min 2000 (r + ceilDiv (t * d) 1000) := fun r t d => by
      unfold computeU
      cases h : s.station.pos.frame <;> simp_all [Config.uMax]
    simp [Position.recompute, hcu, ceilDiv]
  · rw [htake, if_neg hf, if_pos hout]
    obtain ⟨hcmd, hact, -, -, hrest⟩ := s.settled_stopped dt .position {} (Station.positionFault_ends
      ((s.old dt).withPos { s.station.pos with
          acc := if acc < -100000000 then -100000000 else 4100000000
          centre := (if acc < -100000000 then -100000000 else 4100000000) / 1000, doubt := true }))
    refine ⟨?_, ?_, ?_, ?_, ?_, ?_, hcmd, hact, fun h => (hrest h).1⟩ <;> simp [Station.positionFault_pos]
  · rw [htake, if_pos hf]
    simp

/-! ## The docking index and the marker reader (R25-R28, R139) -/

theorem Station.setLatch_pos (s : Station) (l : MarkerLatch) : (s.setLatch l).pos = { s.pos with latch := l } := rfl

/-- A marker report that the part cannot use is counted. -/
theorem Station.markerReport_counted {s : Station} {n : Nat} (h : s.pos.frame ≠ .line ∨ s.map.marker? n = none) :
    s.markerReport n = s.countBad := by
  unfold Station.markerReport
  split
  · rfl
  · next hf => rw [h.resolve_left hf]

/-- The position that a marker gives: its line and chainage, no travel since, U anew from 10 mm (R27, R28). -/
def Position.atMarker (p : Position) (k : MarkerSlot) (doubt : Bool) : Position :=
  { p with
    frame := .line, line := k.line, acc := k.chainage * 1000, centre := k.chainage, travelAcc := 0, travel := 0
    uRef := 10, u := 10, doubt := doubt }

theorem Position.reference_marker (p : Position) (k : MarkerSlot) (d : Nat) (b : Bool) :
    { p.reference k.line k.chainage Config.uMin d with doubt := b } = p.atMarker k b := by
  simp [Position.reference, Position.recompute, computeU, Position.atMarker, Config.uMin, Config.uMax, ceilDiv]

theorem Station.markerReport_taken {s : Station} {n : Nat} {k : MarkerSlot} (hf : s.pos.frame = .line)
    (hk : s.map.marker? n = some k) :
    s.markerReport n = if k.line = s.pos.line ∧ distance k.chainage s.pos.centre ≤ s.pos.u then
      (s.withPos (s.pos.atMarker k false)).touchPark
    else (s.withPos (s.pos.atMarker k true)).positionFault := by
  unfold Station.markerReport
  rw [if_neg (by simp [hf])]
  simp only [hk, Bool.and_eq_true, decide_eq_true_eq, Position.reference_marker]

/-- The line interface is no part of a position fault. -/
theorem Station.positionFault_line (s : Station) : s.positionFault.line = s.line := by
  unfold Station.positionFault
  rw [Station.touchPark_eq, Station.stopOrder_eq]
  rfl

/-- A marker report taken: the position is that of the marker, and one that was out of place is a position fault. -/
theorem Station.markerReport_spec {s : Station} {n : Nat} {k : MarkerSlot} (hf : s.pos.frame = .line)
    (hk : s.map.marker? n = some k) :
    (s.markerReport n).line = s.line ∧
    (k.line = s.pos.line ∧ distance k.chainage s.pos.centre ≤ s.pos.u → (s.markerReport n).pos = s.pos.atMarker k false) ∧
    (¬(k.line = s.pos.line ∧ distance k.chainage s.pos.centre ≤ s.pos.u) →
      (s.markerReport n).pos = s.pos.atMarker k true ∧ (s.markerReport n).ends = (s.stopOrder .position).ends) := by
  rw [Station.markerReport_taken hf hk]
  refine ⟨?_, fun h => ?_, fun h => ?_⟩
  · split
    · rw [Station.touchPark_eq]; rfl
    · rw [Station.positionFault_line]; rfl
  · rw [if_pos h, Station.touchPark_eq]
    rfl
  · rw [if_neg h, Station.positionFault_pos, Station.positionFault_ends, Station.stopOrder_ends, Station.stopOrder_ends]
    exact ⟨rfl, rfl⟩

/-- What the docking index reads from a level (R139). -/
def indexLevel (b : Bool) : DockIndex := ⟨if b then .active else .inactive, none⟩

theorem Station.indexChanged_eq (s : Station) : s.indexChanged = s.withIndex
    (if s.par.debounce = 0 then indexLevel s.inputs.dockRaw else ⟨.settling, some (s.ms + s.par.debounce)⟩) := by
  unfold Station.indexChanged indexOf indexLevel
  split <;> rfl

theorem Station.indexSettled_eq (s : Station) : s.indexSettled = s.withIndex
    (if s.index.reading = .settling ∧ dueAt s.index.timer s.ms = true then indexLevel s.inputs.dockRaw else s.index) := by
  unfold Station.indexSettled indexOf indexLevel
  simp only [Bool.and_eq_true, decide_eq_true_eq]
  split <;> rfl

/-- Settles O45. -/
theorem indexAndMarkerAreRead : Obligations.IndexAndMarkerAreRead := by
  intro dt s hon hcar
  have hc : ∀ i, ((s.old dt).withInputs i).carriageOn = true := fun i => by
    unfold Station.carriageOn
    exact Bool.and_eq_true_iff.2 ⟨hon, hcar⟩
  have hc' : (s.old dt).carriageOn = true := hc s.station.inputs
  have hmarker : ∀ b n, exec (.markerPresentChange dt b n) s = .next (s.settled dt
      (((s.old dt).withInputs { s.station.inputs with markerPresent := b, markerNumber := n }).markerChange b n) {}) :=
    fun b n => by
      dsimp only [exec, execMarkerPresentChange]
      rw [State.reactWith_eq, if_pos (hc _)]
      rfl
  refine ⟨fun active => ⟨s.settled dt (if active = s.station.inputs.dockRaw then
      (s.old dt).withInputs { s.station.inputs with dockRaw := active } else
      ((s.old dt).withInputs { s.station.inputs with dockRaw := active }).indexChanged) {}, ?_, ?_, ?_⟩,
    ⟨s.settled dt (s.old dt).indexSettled {}, ?_, ?_⟩, fun n hl hb => ⟨_, hmarker true n, ?_⟩,
    fun n m d hl => ⟨_, hmarker false n, ?_⟩, fun n d hl => ⟨_, hmarker true n, ?_⟩, fun n d hl hd => ?_⟩
  · dsimp only [exec, execDockingIndexChange]
    rw [State.reactWith_eq]
    simp only [hc, Bool.true_and, State.old_inputs, bne_iff_ne, ne_eq, ite_not]
  · split
    · simp
    · rw [Station.indexChanged_eq]
      simp
  · split
    · simp
    · rw [Station.indexChanged_eq]
      simp only [State.settled_index, Station.withIndex_index, indexLevel]
      rfl
  · dsimp only [exec, execDockingDebounceExpiry]
    rw [State.reactWith_eq, if_pos hc']
  · rw [Station.indexSettled_eq]
    simp only [State.settled_index, Station.withIndex_index, indexLevel]
    rfl
  · unfold Station.markerChange Station.settleMarker
    simp [hl, hb, Station.setLatch, Station.ms]
  · unfold Station.markerChange
    simp [hl, Station.setLatch]
  · unfold Station.markerChange
    simp [hl, Station.setLatch]
  · have hex : exec (.markerDebounceExpiry dt) s = .next (s.settled dt (((s.old dt).setLatch (.taken none)).markerReport n) {}) := by
      dsimp only [exec, execMarkerDebounceExpiry]
      rw [State.reactWith_eq, if_pos hc']
      unfold Station.markerSettled
      simp only [State.old_pos, hl, hd, if_true]
    by_cases hbad : s.station.pos.frame ≠ .line ∨ s.station.map.marker? n = none
    · rw [Station.markerReport_counted (by simpa [Station.setLatch] using hbad)] at hex
      refine ⟨_, hex, ?_, fun _ => ?_, fun k hf hk => ?_⟩
      · simp [Station.countBad_eq, Station.setLatch]
      · simp [Station.countBad_eq, Station.setLatch]
      · obtain h | h := hbad
        · exact absurd hf h
        · rw [hk] at h
          cases h
    · simp only [not_or, ne_eq, not_not] at hbad
      obtain ⟨hf, hsome⟩ := hbad
      obtain ⟨k, hk⟩ := Option.ne_none_iff_exists'.1 hsome
      obtain ⟨hline, hnear, hfar⟩ := Station.markerReport_spec (s := (s.old dt).setLatch (.taken none)) (n := n) (k := k) hf hk
      refine ⟨_, hex, ?_, fun h => ?_, fun k' hf' hk' => ?_⟩
      · rw [State.settled_pos_latch]
        by_cases h : k.line = s.station.pos.line ∧ distance k.chainage s.station.pos.centre ≤ s.station.pos.u
        · rw [hnear h]; rfl
        · rw [(hfar h).1]; rfl
      · obtain h | h := h
        · exact absurd hf h
        · rw [hk] at h
          cases h
      · obtain rfl : k' = k := Option.some.inj (hk'.symm.trans hk)
        by_cases h : k'.line = s.station.pos.line ∧ distance k'.chainage s.station.pos.centre ≤ s.station.pos.u
        · simp only [State.settled_pos_line, State.settled_pos_centre, State.settled_pos_acc, State.settled_pos_uRef,
            State.settled_pos_u, State.settled_pos_travel, State.settled_pos_doubt, State.settled_line_badCount, hnear h, hline]
          obtain ⟨hl, hd⟩ := h
          refine ⟨rfl, rfl, rfl, rfl, rfl, rfl, rfl, fun _ _ => rfl, fun hor => ?_⟩
          exact absurd hd (by unfold distance; obtain h | h := hor; exact absurd hl h; omega)
        · obtain ⟨hpos, hends⟩ := hfar h
          obtain ⟨hcmd, hact, -⟩ := s.settled_stopped dt .position {} hends
          simp only [State.settled_pos_line, State.settled_pos_centre, State.settled_pos_acc, State.settled_pos_uRef,
            State.settled_pos_u, State.settled_pos_travel, State.settled_pos_doubt, State.settled_line_badCount, hpos, hline]
          exact ⟨rfl, rfl, rfl, rfl, rfl, rfl, rfl, fun hl hd => absurd ⟨hl, hd⟩ h, fun _ => ⟨rfl, hcmd, hact⟩⟩

/-! ## The turntable port (R154, R159, R165) -/

/-- What leaves the bare part alone leaves all of the deck alone but the guard retry time. -/
theorem Station.tt_of_bare {s t : Station} (h : t.bare = s.bare) : t.tt = { s.tt with retryTime := t.tt.retryTime } := by
  have htt : { t.tt with retryTime := none } = { s.tt with retryTime := none } := congrArg Station.tt h
  exact congrArg (fun x : Turntable => { x with retryTime := t.tt.retryTime }) htt

/-- The release of the guards touches only the two marks of the deck that speak of guards (R159). -/
theorem Station.releaseGuards_tt (s : Station) :
    ∃ r p, s.releaseGuards.tt = { s.tt with retryTime := r, releasePending := p } := by
  refine ⟨s.releaseGuards.tt.retryTime, s.releaseGuards.tt.releasePending, ?_⟩
  have h := Station.tt_of_bare (s.bare_releaseAll ((s.claims.entries.filter fun e => e.purpose = .guard).map (·.seg)))
  exact congrArg (fun x : Turntable => { x with releasePending := s.releaseGuards.tt.releasePending }) h

/-- The end of a rotation (R159, R163). -/
theorem Station.endRotation_tt (s : Station) (a : Nat) : ∃ r p, (s.endRotation a).tt = { s.tt with
    deck := if s.tt.purpose = .exit then .awaitExit else .idle
    exitOwed := if s.tt.purpose = .exit then .toMake else s.tt.exitOwed
    aligned := a, target := none, purpose := .none, rotationTimer := none, retryTime := r, releasePending := p } := by
  obtain ⟨r, p, h⟩ := Station.releaseGuards_tt (s.withTt { s.tt with
    deck := if s.tt.purpose = .exit then .awaitExit else .idle
    exitOwed := if s.tt.purpose = .exit then .toMake else s.tt.exitOwed
    aligned := a, target := none, purpose := .none, rotationTimer := none })
  refine ⟨r, p, ?_⟩
  unfold Station.endRotation
  simp only
  rw [h]
  rfl

/-- Settles O41. -/
theorem turntablePortIsRead : Obligations.TurntablePortIsRead := by
  intro dt s hturn
  refine ⟨fun arm => ?_, fun active => ?_⟩
  · intro v
    have hex : exec (.armAlignedChange dt arm) s = .next (s.settled dt (v.armReport arm) { tt := true }) := by
      dsimp only [exec, execArmAlignedChange]
      rw [State.reactWith_eq, if_pos (show ((s.old dt).withInputs _).turning = true from hturn)]
      rfl
    have hin : (v.armReport arm).inputs = v.inputs := by
      unfold Station.armReport
      split
      · split
        · exact Station.inputs_of_steady (by simp)
        · rfl
      · rfl
      · split <;> rfl
    have hspec : (s.station.tt.deck = .rotating → v.armReport arm =
          if arm.isSome && arm = s.station.tt.target then v.endRotation (arm.getD 0) else v) ∧
        (s.station.tt.deck = .fault → v.armReport arm = v) ∧
        (s.station.tt.deck ≠ .rotating → s.station.tt.deck ≠ .fault →
          v.armReport arm = if arm = some s.station.tt.aligned then v else v.deckFault .noArm) := by
      have hv : v.tt = s.station.tt := rfl
      unfold Station.armReport
      rw [hv]
      cases s.station.tt.deck <;> simp
    obtain ⟨hrot, hfault, hrest⟩ := hspec
    refine ⟨_, hex, rfl, by simp [hin, v], fun a hd harm ht => ?_, fun hd harm => ?_, hfault, fun h1 h2 => ⟨fun ha => ?_, fun ha => ?_⟩⟩
    · have : v.armReport arm = v.endRotation a := by
        rw [hrot hd, if_pos (by simp [harm, ht])]
        simp [harm]
      obtain ⟨r, p, htt⟩ := v.endRotation_tt a
      rw [this]
      refine ⟨by rw [htt], by rw [htt], by rw [htt], ?_, by rw [htt]; rfl⟩
      unfold Station.rotationOutput
      rw [htt, ite_self]
    · rw [hrot hd, if_neg]
      obtain h | h := harm <;> simp [h]
    · rw [hrest h1 h2, if_pos ha]
    · rw [hrest h1 h2, if_neg ha]
  · intro v
    refine ⟨_, ?_, ?_, rfl⟩
    · dsimp only [exec, execRotationFaultChange]
      rw [State.reactWith_eq]
      have ht : ∀ i, ((s.old dt).withInputs i).turning = true := fun _ => hturn
      simp only [ht, Bool.true_and, Bool.and_eq_true, decide_eq_true_eq]
      rfl
    · split <;> simp [v, Station.deckFault]

end Sys2Proof.Machine
end

section
/-! PROOFS. What a peer's claim traffic does to the peer table, and the timers of claims and of the turntable unit. -/

namespace Sys2Proof.Machine

/-! ## The peer table (R42-R44) -/

/-- The elementary changes outside reception leave the peer table alone. -/
theorem Station.peers_stable (p : Vector PeerEntry 29) : Station.Stable fun s => s.peers = p where
  passage _ h := h
  appr _ h := h
  backing _ h := h
  park _ h := h
  write _ h := h
  lift _ _ h := h
  trail _ _ h := h
  order _ _ h := h
  claims _ _ h := h
  queue _ _ h := h
  schedule _ _ _ h := h
  start _ _ _ h := h
  tt _ _ _ h := h
  env _ _ _ _ _ _ h := h
  latch _ h := h
  raise _ h := h
  dir _ _ h := h
  deck h := h

theorem Station.peers_answerClaim (s : Station) (p n : Nat) (r : Rank) : (s.answerClaim p n r).peers = s.peers := by
  have h := Station.peers_stable s.peers
  unfold Station.answerClaim
  split
  · rfl
  · split
    · rfl
    · split
      · exact h.object _ _ _ _ rfl
      · split
        · exact h.abandon _ rfl
        · split
          · exact h.object _ _ _ _ rfl
          · exact h.abandon _ rfl

theorem Station.peers_doubleHold (s : Station) (p n : Nat) : (s.doubleHold p n).peers = s.peers := by
  have h := Station.peers_stable s.peers
  have hboth : s.bothOccupy.peers = s.peers := by
    unfold Station.bothOccupy
    split
    · exact h.stopOrder _ (h.raiseEmergency rfl)
    · split <;> rfl
  have hgive : ∀ m, (s.giveUp m).peers = s.peers := fun m => by
    unfold Station.giveUp
    split
    · exact h.loseClaim (h.releaseRequest _ rfl)
    · rfl
  unfold Station.doubleHold Station.resolveDouble
  split
  · split
    · split
      · exact hboth
      · rfl
    · split
      · exact hgive _
      · split
        · rfl
        · exact hgive _
  · rfl

theorem Station.peers_takeObject (s : Station) (p n : Nat) (k : Objection) (c : Nat) :
    (s.takeObject p n k c).peers = s.peers := by
  unfold Station.takeObject
  split
  · split
    · rfl
    · split
      · rfl
      · split
        · exact (Station.peers_stable s.peers).abandon _ rfl
        · split
          · rfl
          · exact s.peers_doubleHold _ _
  · split
    · exact s.peers_doubleHold _ _
    · rfl

theorem Station.peers_takeYieldAsk (s : Station) (p n w : Nat) : (s.takeYieldAsk p n w).1.peers = s.peers := by
  have h := Station.peers_stable s.peers
  unfold Station.takeYieldAsk
  split
  · rfl
  · split
    · rfl
    · split
      · exact h.object _ _ _ _ rfl
      · split
        · exact h.object _ _ _ _ rfl
        · split
          · exact h.object _ _ _ _ rfl
          · split
            · unfold Station.takeAsk
              split
              · rfl
              · dsimp only
                split
                · exact h.requestDirection _ (h.setBacking _ (h.freshStop (h.order _ id rfl)))
                · exact h.object _ _ _ _ rfl
            · unfold Station.yieldEntry
              split <;> rfl

theorem Station.peer_of_peers {s t : Station} (h : t.peers = s.peers) (n : Nat) : t.peer n = s.peer n := by
  unfold Station.peer
  rw [h]

/-- A frame of a peer: the sender's entry is refreshed before a block acts (R39, R177). -/
theorem State.receive_peer {s : State} {src : Nat} (dt : Nat) (role : Role) {k : FrameKind} (hk : k ≠ .order)
    (act : Station → Station) (h : s.hears src) :
    (s.old dt).receive src role k act = act ((s.old dt).heard src role k) ∧
    ((s.old dt).heard src role k).peer src = (s.station.peer src).refresh role (s.old dt).ms ∧
    ∀ n, n ≠ src → ((s.old dt).heard src role k).peer n = s.station.peer n := by
  obtain ⟨hon, h1, h29, hne⟩ := h
  refine ⟨Station.receive_heard (s.old dt) _ _ _ _ hon ?_ hne, ?_, fun n hn => ?_⟩
  · have : ¬30 ≤ src := by omega
    simp [senderFits, hk, this]
    omega
  · rw [Station.heard_peer, if_pos ⟨rfl, h1, h29⟩]
    rfl
  · rw [Station.heard_peer, if_neg fun hc => hn hc.1]
    rfl

/-- What an OBJECT leaves of the peer table: the sender's entry, and the note of the claimant (R43). -/
theorem Station.peer_peerObject {s : Station} {p : Nat} (h1 : 1 ≤ p) (h29 : p ≤ 29) (n : Nat) (k : Objection) (r : Rank)
    (c : Nat) :
    (c ≠ p → (s.peerObject p n k r c).peer p =
      if k = .holds then PeerEntry.takeHolds { s.peer p with rank := r } s.map n else { s.peer p with rank := r }) ∧
    (c ≠ p → c ≠ s.par.station → 1 ≤ c → c ≤ 29 → (s.peerObject p n k r c).peer c = (s.peer c).dropNotes (· = n)) ∧
    ∀ m, m ≠ p → m ≠ c → (s.peerObject p n k r c).peer m = s.peer m := by
  unfold Station.peerObject
  dsimp only
  refine ⟨fun hc => ?_, fun hc hst h1' h29' => ?_, fun m hm hmc => ?_⟩
  · split <;> simp [h1, h29, Ne.symm hc]
  · rw [if_pos (by simp [hst, h1', h29'])]
    simp [h1', h29', hc]
  · split <;> simp [hm, hmc]

theorem PeerEntry.held_takeRelease (e : PeerEntry) {l : List Nat} {n : Nat} (hn : n ∈ l) :
    n ∉ (e.takeRelease l).held.map (·.seg) := by
  simp only [PeerEntry.takeRelease, List.mem_map, List.mem_filter, not_exists, not_and]
  rintro x ⟨-, hx⟩ rfl
  simp [hn] at hx

/-- Settles O13. -/
theorem claimTrafficUpdatesPeerTable : Obligations.ClaimTrafficUpdatesPeerTable := by
  intro dt h s hh e
  obtain ⟨-, h1, h29, -⟩ := id hh
  refine ⟨fun seg tag rank => ?claim, fun seg k rank c => ?object, fun segs => ?release, fun seg holder wait => ?yieldAsk⟩
  case claim =>
    set f : PeerEntry → PeerEntry := fun e => e.takeClaim s.station.map seg rank ((s.old dt).ms + s.station.par.window) with hf
    obtain ⟨hrec, hself, hother⟩ := State.receive_peer dt h.role (k := .claim) (by simp)
      (fun v => (v.mapPeer h.src fun e => e.takeClaim v.map seg rank (v.ms + v.par.window)).answerClaim h.src seg rank) hh
    have hex : exec (.claimReceived dt h seg tag rank) s = .next (s.settled dt
        ((((s.old dt).heard h.src h.role .claim).mapPeer h.src f).answerClaim h.src seg rank) .frame) := by
      dsimp only [exec, execClaimReceived]
      rw [State.reactWith_eq, hrec]
      simp [hf]
    have hp : ∀ n, (s.settled dt ((((s.old dt).heard h.src h.role .claim).mapPeer h.src f).answerClaim h.src seg rank)
        .frame).station.peer n = (((s.old dt).heard h.src h.role .claim).mapPeer h.src f).peer n := fun n => by
      rw [State.settled_peer]
      exact Station.peer_of_peers (Station.peers_answerClaim ..) n
    refine ⟨_, hex, ?_, fun n hn => ?_⟩
    · rw [hp, Station.peer_mapPeer_self _ _ _ h1 h29, hself]
    · rw [hp, Station.peer_mapPeer_other _ _ _ _ hn, hother n hn]
  case object =>
    obtain ⟨hrec, hself, hother⟩ := State.receive_peer dt h.role (k := .object) (by simp)
      (fun v => (v.peerObject h.src seg k rank c).takeObject h.src seg k c) hh
    have hex : exec (.objectReceived dt h seg k rank c) s = .next (s.settled dt
        ((((s.old dt).heard h.src h.role .object).peerObject h.src seg k rank c).takeObject h.src seg k c) .frame) := by
      dsimp only [exec, execObjectReceived]
      rw [State.reactWith_eq, hrec]
    have hp : ∀ n, (s.settled dt ((((s.old dt).heard h.src h.role .object).peerObject h.src seg k rank c).takeObject
        h.src seg k c) .frame).station.peer n = (((s.old dt).heard h.src h.role .object).peerObject h.src seg k rank c).peer n :=
      fun n => by
        rw [State.settled_peer]
        exact Station.peer_of_peers (Station.peers_takeObject ..) n
    obtain ⟨ho1, ho2, ho3⟩ := Station.peer_peerObject (s := (s.old dt).heard h.src h.role .object) h1 h29 seg k rank c
    refine ⟨_, hex, fun hc => ?_, fun hc hst h1' h29' => ?_, fun n hn hnc => ?_⟩
    · rw [hp, ho1 hc, hself]
      simp [e]
    · rw [hp, ho2 hc (by simpa using hst) h1' h29', hother c hc]
    · rw [hp, ho3 n hn hnc, hother n hn]
  case release =>
    obtain ⟨hrec, hself, hother⟩ := State.receive_peer dt h.role (k := .release) (by simp)
      (fun v => v.mapPeer h.src fun e => e.takeRelease segs) hh
    have hex : exec (.releaseReceived dt h segs) s = .next (s.settled dt
        (((s.old dt).heard h.src h.role .release).mapPeer h.src fun e => e.takeRelease segs) .frame) := by
      dsimp only [exec, execReleaseReceived]
      rw [State.reactWith_eq, hrec]
    have hentry : (s.settled dt (((s.old dt).heard h.src h.role .release).mapPeer h.src fun e => e.takeRelease segs)
        .frame).station.peer h.src = e.takeRelease segs := by
      rw [State.settled_peer, Station.peer_mapPeer_self _ _ _ h1 h29, hself]
    refine ⟨_, hex, hentry, fun n hn => ?_, fun n hn => ?_⟩
    · rw [State.settled_peer, Station.peer_mapPeer_other _ _ _ _ hn, hother n hn]
    · rw [hentry]
      exact PeerEntry.held_takeRelease _ hn
  case yieldAsk =>
    set w := ((s.old dt).heard h.src h.role .yieldAsk).mapPeer h.src fun e => { e with rank := ⟨wait, false⟩ } with hw
    obtain ⟨hrec, hself, hother⟩ := State.receive_peer dt h.role (k := .yieldAsk) (by simp) (fun v =>
      let w := v.mapPeer h.src fun e => { e with rank := ⟨wait, false⟩ }
      if holder = w.par.station then
        if w.validSeg seg then (w.takeYieldAsk h.src seg wait).1 else w.countBad
      else w) hh
    have hex : exec (.yieldAskReceived dt h seg holder wait) s = .next (s.settled dt (if holder = w.par.station then
        if w.validSeg seg then (w.takeYieldAsk h.src seg wait).1 else w.countBad else w) .frame) := by
      dsimp only [exec, execYieldAskReceived] at hrec ⊢
      rw [State.reactWith_eq, hrec]
    have hp : ∀ n, (s.settled dt (if holder = w.par.station then
        if w.validSeg seg then (w.takeYieldAsk h.src seg wait).1 else w.countBad else w) .frame).station.peer n =
        w.peer n := fun n => by
      rw [State.settled_peer]
      refine Station.peer_of_peers ?_ n
      split
      · split
        · exact Station.peers_takeYieldAsk ..
        · rfl
      · rfl
    refine ⟨_, hex, ?_, fun n hn => ?_⟩
    · rw [hp, hw, Station.peer_mapPeer_self _ _ _ h1 h29, hself]
    · rw [hp, hw, Station.peer_mapPeer_other _ _ _ _ hn, hother n hn]

end Sys2Proof.Machine
end

section
/-! PROOFS. HALT, the own number heard, and the timers of claims and of the turntable unit. -/

namespace Sys2Proof.Machine

/-! ## Frames offered where there is room (R181) -/

theorem mem_enqueue (q : List QueueItem) (f : OutFrame) : { frame := f } ∈ enqueue q f := by
  unfold enqueue
  split <;> simp

theorem Station.offer_room {s : Station} (f : OutFrame) (h : s.line.queue.length < 8) :
    s.offer f = (s.setQueue (enqueue s.line.queue f), true) := by
  unfold Station.offer
  rw [if_pos (by simpa [Config.places] using h)]

theorem Station.send_room {s : Station} (f : OutFrame) (h : s.line.queue.length < 8) :
    s.send f = s.setQueue (enqueue s.line.queue f) := by
  unfold Station.send
  rw [Station.offer_room f h]

theorem Station.queues_send {s : Station} (f : OutFrame) (h : s.line.queue.length < 8) : (s.send f).queues f := by
  rw [Station.send_room f h]
  exact ⟨_, mem_enqueue _ _, rfl⟩

/-! ## Orders to any station (R101) -/

theorem State.takeOrder_any {s : State} {o : OrderHead} (dt : Nat) (act : Station → Station) (h : s.orderedToAny o) :
    s.takeOrder dt o true act = .next (s.settled dt (act ((s.old dt).heard o.src .carriage .order)) .ofOrder) := by
  obtain ⟨hon, hsrc, ht, hst, hn⟩ := h
  rw [State.receive_order dt _ _ hon hst hsrc, Station.orderFor_taken _ (by simpa using ht) hn fun _ => rfl]

theorem Station.byRole_carriage {s : Station} (h : s.isCarriage = true) (a b : Station → Station) : s.byRole a b = a s := by
  unfold Station.byRole
  rw [if_pos h]

theorem Station.byRole_turntable {s : Station} (h : s.isCarriage = false) (a b : Station → Station) : s.byRole a b = b s := by
  unfold Station.byRole
  rw [if_neg (by simp [h])]

/-- A command that leaves the order HALTED leaves the commanded step 0 (R88). -/
theorem State.settled_commanded_of_halted (s : State) (dt : Nat) {u : Station} (ev : Events) (h : u.order.state = .halted) :
    (s.settled dt u ev).station.env.commanded = 0 := by
  refine s.settled_commanded_zero dt u ev ?_
  unfold Station.pCap
  rw [if_pos]
  obtain hs | ⟨hs, -⟩ := s.settled_order_halted dt u ev h <;> simp [hs]

/-- HALT of an order under way (R117). -/
theorem Station.takeHalt_underWay {s : Station} (h : s.order.state = .running ∨ s.order.state = .waiting ∨
      s.order.state = .loading ∨ s.order.state = .backing) :
    s.takeHalt.order.state = .halted ∧ s.takeHalt.order.haltOperator = true ∧
      s.takeHalt.order.resume = some s.order.state := by
  have hend : ∀ x : OrderUnit, (s.withOrder x).stopLift.order = x := fun x => by
    rw [Station.stopLift_eq]
    rfl
  unfold Station.takeHalt Station.haltWith
  obtain h | h | h | h := h <;> simp only [h, hend, and_self]

theorem Station.takeHalt_ended {s : Station} (h : s.order.state.resting = true ∨ s.order.state = .stopped) :
    s.takeHalt = s := by
  unfold Station.takeHalt Station.haltWith
  split <;> simp_all [OrderState.resting]

/-- Settles O20. -/
theorem haltStopsTheOrder : Obligations.HaltStopsTheOrder := by
  intro dt o s ho
  refine ⟨fun hcar => ?_, fun hcar => ?_⟩
  · intro u
    have hex : exec (.orderHalt dt o) s = .next (s.settled dt u .ofOrder) := by
      dsimp only [exec, execOrderHalt]
      rw [State.takeOrder_any dt _ ho, Station.byRole_carriage (by simpa using hcar)]
    refine ⟨_, hex, rfl, fun h => ?_, fun h => ?_⟩
    · obtain ⟨h1, h2, h3⟩ := Station.takeHalt_underWay (s := (s.old dt).heard o.src .carriage .order) (by simpa using h)
      exact ⟨h1, h2, by simpa using h3, s.settled_commanded_of_halted dt _ h1, s.settled_order_halted dt u _ h1⟩
    · have hu : u.ends = s.station.ends := by
        simp only [u]
        rw [Station.takeHalt_ended (by simpa using h), Station.ends, Station.heard_order]
        rfl
      have hstate : u.order.state = s.station.order.state := congrArg Prod.fst hu
      have hreason : u.order.reason = s.station.order.reason := congrArg Prod.snd hu
      obtain ⟨h1, h2⟩ := s.settled_order_ended dt u .ofOrder (by rwa [hstate])
      exact ⟨h1.trans hstate, h2.trans hreason⟩
  · have hex : exec (.orderHalt dt o) s = .next (s.settled dt (((s.old dt).heard o.src .carriage .order).withTt
        { ((s.old dt).heard o.src .carriage .order).tt with grantHold := true }) .ofOrder) := by
      dsimp only [exec, execOrderHalt]
      rw [State.takeOrder_any dt _ ho, Station.byRole_turntable (by simpa using hcar)]
    obtain ⟨-, hsrc, -⟩ := ho
    exact ⟨_, hex, by simp, by
      simp only [State.settled_peers, Station.withTt_peers]
      exact Station.heard_peers_order hsrc⟩

/-! ## The own number heard (R123, R178) -/

theorem Station.duplicateFault_spec {s : Station} (h : s.line.fault = false) :
    s.duplicateFault.line = { s.line with fault := true } ∧ s.duplicateFault.peers = s.peers ∧
    s.duplicateFault.order.number = s.order.number ∧
    (s.isCarriage = true → s.duplicateFault.ends =
      (if s.order.state.active then .stopped else s.order.state, .duplicate)) := by
  have hready : ∀ v : Station, ∃ x, (if v.start.phase = .bodyClaim && !v.start.asking then v.enterReady else v) = v.withStart x :=
    fun v => by
      split
      · exact ⟨_, rfl⟩
      · exact ⟨v.start, rfl⟩
  unfold Station.duplicateFault
  rw [if_neg (by simp [h])]
  extract_lets _ s1 s2
  obtain ⟨x, hx⟩ := hready s2
  rw [hx]
  have h2 : s2.line = s1.line ∧ s2.peers = s.peers ∧ s2.order.number = s.order.number := by
    simp only [s2]
    split
    · unfold Station.duplicateOrder
      have hnum : (s1.stopOrder .duplicate).order.number = s1.order.number := by
        unfold Station.stopOrder
        split
        · rfl
        · split
          · split <;> rfl
          · rw [Station.stopLift_eq]; rfl
      refine ⟨?_, ?_, hnum⟩ <;> (dsimp only; rw [Station.stopOrder_eq]; rfl)
    · exact ⟨rfl, rfl, rfl⟩
  refine ⟨h2.1, h2.2.1, h2.2.2, fun hcar => ?_⟩
  have hs2 : s2 = s1.duplicateOrder := if_pos hcar
  have hstate : (s1.stopOrder .duplicate).order.state = if s.order.state.active then .stopped else s.order.state := by
    refine (congrArg Prod.fst (s1.stopOrder_ends .duplicate)).trans ?_
    cases ha : s.order.state.active with
    | false => exact congrArg Prod.fst (if_pos (show s1.order.state.active = false from ha))
    | true =>
      rw [if_neg (show ¬s1.order.state.active = false by rw [show s1.order.state = s.order.state from rfl, ha]; simp)]
      split <;> rfl
  rw [Station.ends_withStart, hs2]
  exact Prod.ext hstate rfl

/-- Settles O11. -/
theorem ownNumberHeardSetsFault : Obligations.OwnNumberHeardSetsFault := by
  intro dt k s hon hfault h1 h29 hk
  set v := (s.old dt).fallQuiet.heardOther k with hv
  have hveq : v = ((s.old dt).withInputs (s.old dt).fallQuiet.inputs).withLine v.line := by
    rw [← Station.fallQuiet_eq]
    exact Station.heardOther_eq _ _
  have hvfault : v.line.fault = false := by
    rw [hv, Station.heard_line]
    exact hfault
  have hex : exec (.duplicateStationFrame dt k) s = .next (s.settled dt v.duplicateFault .frame) := by
    have h30 : ¬30 ≤ s.station.par.station := by omega
    have hpar : (s.old dt).fallQuiet.par = s.station.par := by
      rw [Station.fallQuiet_eq]
      rfl
    dsimp only [exec, execDuplicateStationFrame]
    rw [State.reactWith_eq]
    unfold Station.receive Station.takeFrame
    have hfit : senderFits s.station.par.station k = true := by
      simp [senderFits, hk, h30]
      omega
    rw [if_pos (show (s.old dt).onLine = true from hon), if_neg (by simp [hfit]), if_pos (by rw [hpar]; rfl)]
  obtain ⟨hline, hpeers, hnumber, hends⟩ := Station.duplicateFault_spec hvfault
  refine ⟨_, hex, rfl, ?_, ?_, ?_, ?_, fun hcar => ?_⟩
  · rw [State.settled_line_fault, hline]
  · rw [State.settled_peers, hpeers, hveq]
    rfl
  · refine s.settled_commanded_zero dt _ _ ?_
    unfold Station.pCap
    simp [hline]
  · rw [State.settled_order_number, hnumber, hveq]
    rfl
  · have horder : v.order = s.station.order := by rw [hveq]; rfl
    have hvcar : v.isCarriage = true := by rw [hveq]; exact hcar
    have hu := hends hvcar
    rw [horder] at hu
    have hstate : v.duplicateFault.order.state = if s.station.order.state.active then .stopped else s.station.order.state :=
      congrArg Prod.fst hu
    obtain ⟨h1, h2⟩ := s.settled_order_ended dt v.duplicateFault .frame (by
      rw [hstate]
      split
      · exact .inr rfl
      · next h => exact .inl (OrderState.resting_of_not_active (by simpa using h)))
    exact ⟨h2.trans (congrArg Prod.snd hu), h1.trans hstate⟩

/-! ## The hold limit (R71) -/

/-- Settles O34. -/
theorem holdLimitYieldsTheEntry : Obligations.HoldLimitYieldsTheEntry := by
  intro dt seg p e s hon he hstate hyield u
  have hu : u = if s.station.holdEnd e ≤ (s.old dt).ms then
      if s.station.overlaps seg then
        ((s.old dt).mapEntry seg fun x => { x with pendingYield := none }).object seg .occupied s.station.plainRank p
      else (s.old dt).mapEntry seg fun x => { x with state := .yielding, pendingYield := none }
      else s.old dt := by
    simp only [u]
    unfold Station.holdLimit
    simp only [State.old_claims, he, hyield, hstate, decide_true, Bool.true_and, decide_eq_true_eq]
    rfl
  refine ⟨?_, fun hle hov => ?_, fun hle hov hroom => ?_, fun hlt => ?_⟩
  · dsimp only [exec, execHoldLimitReached]
    rw [State.reactWith_eq, if_pos (show (s.old dt).onLine = true from hon)]
  · rw [hu, if_pos hle, if_neg (by simp [hov])]
    rfl
  · rw [hu, if_pos hle, if_pos hov]
    refine ⟨Station.queues_send _ (by exact hroom), ?_⟩
    rw [Station.object, Station.send_room _ (by exact hroom)]
    rfl
  · rw [hu, if_neg (by omega)]

/-! ## The turntable's timers (R157, R158, R162, R164, R165) -/

theorem Station.send_tt (s : Station) (f : OutFrame) : (s.send f).tt = { s.tt with retryTime := (s.send f).tt.retryTime } :=
  Station.tt_of_bare (Station.bare_send s f)

/-- Settles O37. -/
theorem turntableTimersRunOut : Obligations.TurntableTimersRunOut := by
  intro dt s hon
  have htimer : ∀ (timer : Station → Option Nat) (f : Station → Station), dueAt (timer (s.old dt)) (s.old dt).ms = true →
      s.onTimer dt timer { tt := true } f = .next (s.settled dt (f (s.old dt)) { tt := true }) :=
    fun _ _ hd => State.onTimer_due _ _ _ _ _ hon hd
  refine ⟨fun hd => ?_, fun hd => ?_, fun h k hd hdeck hh hk => ?_, fun hd hdeck => ?_, fun hd hdeck => ?_⟩
  · refine ⟨s.settled dt ((s.old dt).withTt { s.station.tt with
        evalTimer := some ((s.old dt).ms + s.station.par.beacon) }) { tt := true }, ?_, by simp, by simp⟩
    dsimp only [exec, execTurntableEvaluationTimer]
    rw [htimer _ _ hd]
    rfl
  · dsimp only [exec, execGuardRetryTime]
    rw [htimer _ _ hd]
    rfl
  · intro u
    have hu : u = if s.station.inputs.deckOccupied = false ∧
        s.station.holderIn (s.station.map.deckSegment s.station.par.turntable) = false ∧
        s.station.holderIn k.guardSegment = false then
          (s.old dt).deckIdle.turnAnswer h.station .revoked h.entryArm
        else (s.old dt).withTt { s.station.tt with
          entryTimer := some ((s.old dt).ms + s.station.par.entryTimeout * 1000) } := by
      simp only [u]
      unfold Station.entryExpired
      simp only [State.old_tt, hh, State.old_map, State.old_par, hk, Option.bind_some, State.old_inputs, Bool.and_eq_true,
        Bool.not_eq_true', and_assoc]
      rfl
    refine ⟨?_, fun hor => ?_, fun h1 h2 h3 hroom => ?_⟩
    · dsimp only [exec, execEntryTimerExpiry]
      rw [htimer _ _ hd, if_pos (show (s.old dt).tt.deck = .awaitEntry from hdeck)]
    · rw [hu, if_neg]
      · rfl
      · rintro ⟨h1, h2, h3⟩
        obtain hx | hx | hx := hor
        · rw [h1] at hx; cases hx
        · rw [h2] at hx; cases hx
        · rw [h3] at hx; cases hx
    · rw [hu, if_pos ⟨h1, h2, h3⟩]
      have htt := Station.send_tt (s.old dt).deckIdle (.turnAnswer h.station .revoked h.entryArm)
      refine ⟨?_, ?_, Station.queues_send _ (by exact hroom)⟩
      · rw [Station.turnAnswer, htt]
        rfl
      · rw [Station.turnAnswer, htt]
        rfl
  · dsimp only [exec, execExitTimerExpiry]
    rw [htimer _ _ hd, if_pos (show (s.old dt).tt.deck = .awaitExit from hdeck)]
    rfl
  · intro u
    refine ⟨?_, rfl, ?_, rfl⟩
    · dsimp only [exec, execRotationTimerExpiry]
      rw [htimer _ _ hd, if_pos (show (s.old dt).tt.deck = .rotating from hdeck)]
    · unfold Station.rotationOutput
      rw [if_neg]
      simp [u, Station.deckFault]

end Sys2Proof.Machine
end

section
/-! PROOFS. Releases: which entries a run of release requests takes out, and that their RELEASE is owed or queued (R66, R67, R184). -/

namespace Sys2Proof.Machine

/-! ## What is owed and what is queued -/

/-- The RELEASE of segment `n` is owed, or it is named by a RELEASE in the queue (R67). -/
def Station.releaseOut (s : Station) (n : Nat) : Prop :=
  s.claims.owed[n]? = some true ∨ ∃ segs, s.queues (.release segs) ∧ n ∈ segs

theorem foldl_setIfInBounds {k : Nat} (l : List Nat) (b : Bool) (v : Vector Bool k) (n : Nat) :
    (l.foldl (fun v n => v.setIfInBounds n b) v)[n]? = if n ∈ l ∧ n < k then some b else v[n]? := by
  induction l generalizing v with
  | nil => simp
  | cons m l ih =>
    rw [List.foldl_cons, ih, Vector.getElem?_setIfInBounds]
    by_cases hm : m = n
    · subst hm
      by_cases hl : m ∈ l <;> by_cases hk : m < k <;> simp [hl, hk]
    · have : ¬n = m := fun h => hm h.symm
      simp [hm, this]

theorem Station.owed_setOwed (s : Station) (l : List Nat) (b : Bool) (n : Nat) :
    (s.setOwed l b).claims.owed[n]? = if n ∈ l ∧ n < 128 then some b else s.claims.owed[n]? :=
  foldl_setIfInBounds l b s.claims.owed n

theorem ClaimBlock.mem_owedSegs {c : ClaimBlock} {n : Nat} : n ∈ c.owedSegs ↔ c.owed[n]? = some true := by
  unfold ClaimBlock.owedSegs
  constructor
  · intro h
    obtain ⟨⟨b, m⟩, hm, rfl⟩ := List.mem_map.1 h
    obtain ⟨hz, hb⟩ := List.mem_filter.1 hm
    obtain rfl : b = true := hb
    obtain ⟨h1, h2⟩ := List.mem_zipIdx' hz
    simp only [Vector.length_toList] at h1
    rw [Vector.getElem?_eq_getElem h1]
    rw [Vector.getElem_toList] at h2
    exact congrArg some h2.symm
  · intro h
    obtain ⟨hlt, hb⟩ := Vector.getElem?_eq_some_iff.1 h
    refine List.mem_map.2 ⟨(true, n), List.mem_filter.2 ⟨?_, rfl⟩, rfl⟩
    rw [List.mem_zipIdx_iff_getElem?]
    simp [hlt, hb]

/-- Some RELEASE of the queue names `n`. -/
def namesRelease (q : List QueueItem) (n : Nat) : Prop := ∃ x ∈ q, ∃ segs, x.frame = .release segs ∧ n ∈ segs

theorem Station.releaseOut_iff (s : Station) (n : Nat) :
    s.releaseOut n ↔ s.claims.owed[n]? = some true ∨ namesRelease s.line.queue n := by
  unfold Station.releaseOut namesRelease Station.queues
  refine or_congr Iff.rfl ⟨?_, ?_⟩
  · rintro ⟨segs, ⟨x, hx, hf⟩, hn⟩
    exact ⟨x, hx, segs, hf, hn⟩
  · rintro ⟨x, hx, segs, hf, hn⟩
    exact ⟨segs, ⟨x, hx, hf⟩, hn⟩

theorem namesRelease_cons {x : QueueItem} {q : List QueueItem} {n : Nat} :
    namesRelease (x :: q) n ↔ (∃ segs, x.frame = .release segs ∧ n ∈ segs) ∨ namesRelease q n := by
  simp [namesRelease]

/-- Merging takes nothing out of a RELEASE, and what it does not place is left over (R184). -/
theorem mergeRelease_spec (new : List Nat) (q : List QueueItem) (n : Nat) :
    (namesRelease q n → namesRelease (mergeRelease new q).1 n) ∧
    (n ∈ new → n ∈ (mergeRelease new q).2 ∨ namesRelease (mergeRelease new q).1 n) ∧
    (n ∈ (mergeRelease new q).2 → n ∈ new) := by
  induction q with
  | nil => exact ⟨id, .inl, id⟩
  | cons x q ih =>
    obtain ⟨h1, h2, h3⟩ := ih
    have hskip : (namesRelease (x :: q) n → namesRelease (x :: (mergeRelease new q).1) n) ∧
        (n ∈ new → n ∈ (mergeRelease new q).2 ∨ namesRelease (x :: (mergeRelease new q).1) n) ∧
        (n ∈ (mergeRelease new q).2 → n ∈ new) := by
      simp only [namesRelease_cons]
      exact ⟨fun h => h.imp id h1, fun h => (h2 h).imp id .inr, h3⟩
    unfold mergeRelease
    split
    · next segs hx =>
      split
      · set fresh := new.filter fun m => !segs.contains m
        set room := Config.places - segs.length
        have hfresh : n ∈ fresh ↔ n ∈ new ∧ n ∉ segs := by simp [fresh]
        have hparts : n ∈ fresh ↔ n ∈ fresh.take room ∨ n ∈ fresh.drop room := by
          rw [← List.mem_append, List.take_append_drop]
        simp only [namesRelease_cons, OutFrame.release.injEq, exists_eq_left', (sortBy_perm _ _).mem_iff, List.mem_append, hx]
        refine ⟨fun h => h.imp .inl id, fun h => ?_, fun h => (hfresh.1 (hparts.2 (.inr h))).1⟩
        by_cases hs : n ∈ segs
        · exact .inr (.inl (.inl hs))
        · exact (hparts.1 (hfresh.2 ⟨h, hs⟩)).symm.imp id fun h => .inl (.inr h)
      · exact hskip
    · exact hskip

/-! ## One offer of the releases owed -/

theorem namesRelease_enqueue (q : List QueueItem) (segs : List Nat) (n : Nat) :
    namesRelease (enqueue q (.release segs)) n ↔ namesRelease q n ∨ n ∈ segs := by
  unfold enqueue
  rw [if_neg (show ¬(OutFrame.release segs).prompt = true from Bool.false_ne_true)]
  simp [namesRelease, or_and_right, exists_or]

/-- An offer of the RELEASE frames leaves entries, stamps and wait count alone (R67). -/
theorem Station.offerReleases_claims (s : Station) :
    s.offerReleases.claims = { s.claims with owed := s.offerReleases.claims.owed } := by
  unfold Station.offerReleases
  extract_lets new
  split
  · rfl
  · split
    extract_lets s1
    split
    · rfl
    · rw [Station.offer_routine _ rfl]
      split
      · next h =>
        split at h <;> cases h
        rfl
      · next h =>
        split at h <;> cases h
        rfl

/-- A release that is out stays out (R67, R184). -/
theorem Station.releaseOut_offerReleases {s : Station} {n : Nat} (h : s.releaseOut n) : s.offerReleases.releaseOut n := by
  rw [Station.releaseOut_iff] at h ⊢
  unfold Station.offerReleases
  extract_lets new
  split
  · exact h
  · obtain ⟨hkeep, hplace, hrest⟩ := mergeRelease_spec new s.line.queue n
    split
    next q rest hm =>
    rw [hm] at hkeep hplace hrest
    extract_lets s1
    have hq : s1.line.queue = q := rfl
    have howed : s1.claims = s.claims := rfl
    have hnew : n ∈ new → s.claims.owed[n]? = some true := fun h => ClaimBlock.mem_owedSegs.1 (List.mem_of_mem_take h)
    split
    · next he =>
      rw [Station.owed_setOwed, howed]
      by_cases hn : n ∈ new
      · right
        refine (hplace hn).resolve_left ?_
        rw [List.isEmpty_iff.1 he]
        simp
      · rw [if_neg fun hc => hn hc.1]
        exact h.imp id hkeep
    · rw [Station.offer_routine _ rfl]
      split
      · next ho =>
        split at ho <;> cases ho
        change _ ∨ namesRelease (enqueue q (.release rest)) n
        rw [Station.owed_setOwed, namesRelease_enqueue]
        by_cases hn : n ∈ new
        · exact .inr ((hplace hn).symm)
        · rw [if_neg fun hc => hn hc.1]
          exact h.imp id fun h => .inl (hkeep h)
      · next ho =>
        split at ho <;> cases ho
        change _ ∨ namesRelease q n
        rw [Station.owed_setOwed, howed]
        by_cases hn : n ∈ new ∧ n ∉ rest
        · exact .inr ((hplace hn.1).resolve_left hn.2)
        · rw [if_neg fun hc => hn (by simpa using hc.1)]
          exact h.imp id hkeep

/-! ## Release requests for HELD entries (R66) -/

theorem Station.ms_of_bare {s t : Station} (h : t.bare = s.bare) : t.ms = s.ms :=
  (congrArg Station.ms h : t.bare.ms = s.bare.ms)

/-- A released entry goes, with its stamp; the others stay (R66). -/
theorem Station.releaseEntry_claims (s : Station) (n : Nat) : (s.releaseEntry n).claims = { s.claims with
    entries := s.claims.entries.filter fun e => e.seg ≠ n
    stamps := s.claims.stamps.setIfInBounds n (some s.ms), owed := (s.releaseEntry n).claims.owed } :=
  Station.offerReleases_claims _

theorem Station.releaseOut_releaseEntry {s : Station} {n m : Nat} (h : s.releaseOut m ∨ (m = n ∧ n < 128)) :
    (s.releaseEntry n).releaseOut m := by
  refine Station.releaseOut_offerReleases ((Station.releaseOut_iff _ _).2 ?_)
  rw [Station.releaseOut_iff] at h
  simp only [Station.withClaims_claims, Vector.getElem?_setIfInBounds]
  by_cases hm : n = m
  · subst hm
    by_cases hn : n < 128
    · simp [hn]
    · have := h.resolve_right fun hc => hn hc.2
      simpa [hn] using this
  · have := h.resolve_right fun hc => hm hc.1.symm
    simpa [hm] using this

/-- A release request for a HELD entry releases it, unless it is a DECK entry (R66). -/
theorem Station.releaseRequest_held {s : Station} {n : Nat} {e : ClaimEntry} (he : s.claims.entry? n = some e)
    (hs : e.state = .held) : s.releaseRequest n = if e.purpose = .deck then s else s.releaseEntry n := by
  unfold Station.releaseRequest
  rw [he]
  dsimp only
  split
  · rfl
  · rw [hs]
    dsimp only
    cases e.asker <;> rfl

theorem ClaimBlock.entry?_eq_some {c : ClaimBlock} (hn : (c.entries.map (·.seg)).Nodup) {e : ClaimEntry}
    (he : e ∈ c.entries) : c.entry? e.seg = some e := by
  unfold ClaimBlock.entry?
  cases h : c.entries.find? (·.seg = e.seg) with
  | none => exact absurd (List.find?_eq_none.1 h e he) (by simp)
  | some x =>
    have hx := List.find?_some h
    rw [List.inj_on_of_nodup_map hn (List.mem_of_find?_eq_some h) he (by simpa using hx)]

/-- From `s` to `u` the HELD entries for segments in `l` are released: they go, DECK entries and all others stay, the wait
count stays, and each segment released has its stamp and its RELEASE on the way (R66, R67). -/
structure Station.ReleasedAll (s : Station) (l : List Nat) (u : Station) : Prop where
  entries : u.claims.entries = s.claims.entries.filter fun e => e.seg ∉ l ∨ e.purpose = .deck
  wait : u.claims.waitCount = s.claims.waitCount
  out : ∀ n, s.releaseOut n → u.releaseOut n
  stamps : ∀ n, (∀ e ∈ s.claims.entries, e.seg = n → n ∈ l → e.purpose = .deck) →
    u.claims.stamps[n]? = s.claims.stamps[n]?
  released : ∀ n ∈ l, n < 128 → (∃ e ∈ s.claims.entries, e.seg = n ∧ e.purpose ≠ .deck) →
    u.claims.stamps[n]? = some (some s.ms) ∧ u.releaseOut n

/-- Nothing is released where nothing but a DECK entry is listed. -/
theorem Station.ReleasedAll.of_none {s : Station} {l : List Nat}
    (h : ∀ e ∈ s.claims.entries, e.seg ∈ l → e.purpose = .deck) : s.ReleasedAll l s where
  entries := by
    refine (List.filter_eq_self.2 fun e he => ?_).symm
    by_cases hl : e.seg ∈ l
    · simp [h e he hl]
    · simp [hl]
  wait := rfl
  out _ h := h
  stamps _ _ := rfl
  released := fun _ hn _ ⟨e, he, hs, hd⟩ => absurd (h e he (hs ▸ hn)) hd

theorem Station.ReleasedAll.cons {s t u : Station} {m : Nat} {l : List Nat} (h : s.ReleasedAll [m] t) (k : t.ReleasedAll l u)
    (hms : t.ms = s.ms) : s.ReleasedAll (m :: l) u := by
  have hsub : ∀ e ∈ t.claims.entries, e ∈ s.claims.entries := fun e he => by
    rw [h.entries] at he
    exact List.mem_of_mem_filter he
  refine ⟨?_, k.wait.trans h.wait, fun n hn => k.out n (h.out n hn), fun n hall => ?_, fun n hn h128 hex => ?_⟩
  · rw [k.entries, h.entries, List.filter_filter]
    refine List.filter_congr fun e _ => ?_
    by_cases hd : e.purpose = .deck <;> by_cases he : e.seg = m <;> simp [hd, he]
  · rw [k.stamps n fun e he hs hl => hall e (hsub e he) hs (List.mem_cons_of_mem _ hl)]
    exact h.stamps n fun e he hs hm => hall e he hs (by rw [List.mem_singleton.1 hm]; exact List.mem_cons_self)
  · by_cases hnm : n = m
    · obtain ⟨hst, hout⟩ := h.released n (by simp [hnm]) h128 hex
      refine ⟨?_, k.out n hout⟩
      rw [k.stamps n fun e he hs _ => ?_, hst]
      rw [h.entries] at he
      have := (List.mem_filter.1 he).2
      simpa [hs, hnm] using this
    · obtain ⟨e, he, hs, hd⟩ := hex
      have := k.released n ((List.mem_cons.1 hn).resolve_left hnm) h128 ⟨e, by
        rw [h.entries]
        exact List.mem_filter.2 ⟨he, by simp [hs, hnm]⟩, hs, hd⟩
      rwa [hms] at this

/-- One release request for a segment that is HELD, if it is listed at all. -/
theorem Station.releasedAll_releaseRequest {s : Station} (n : Nat) (hn : (s.claims.entries.map (·.seg)).Nodup)
    (hl : ∀ e ∈ s.claims.entries, e.seg = n → e.state = .held) : s.ReleasedAll [n] (s.releaseRequest n) := by
  cases hf : s.claims.entry? n with
  | none =>
    have hnone : ∀ e ∈ s.claims.entries, e.seg ≠ n := by simpa [ClaimBlock.entry?] using hf
    have heq : s.releaseRequest n = s := by
      unfold Station.releaseRequest
      rw [hf]
    rw [heq]
    exact .of_none fun e he hs => absurd (List.mem_singleton.1 hs) (hnone e he)
  | some e =>
    have he := List.mem_of_find?_eq_some hf
    have hseg : e.seg = n := by simpa using List.find?_some hf
    have hone : ∀ x ∈ s.claims.entries, x.seg = n → x = e := fun x hx hxn =>
      List.inj_on_of_nodup_map hn hx he (hxn.trans hseg.symm)
    rw [Station.releaseRequest_held hf (hl e he hseg)]
    split
    · next hd => exact .of_none fun x hx hxn => hone x hx (List.mem_singleton.1 hxn) ▸ hd
    · next hd =>
      have hc := s.releaseEntry_claims n
      refine ⟨?_, by rw [hc], fun m hm => Station.releaseOut_releaseEntry (.inl hm), fun m hm => ?_,
        fun m hm h128 _ => ⟨?_, Station.releaseOut_releaseEntry (.inr ⟨List.mem_singleton.1 hm, ?_⟩)⟩⟩
      · rw [hc]
        refine List.filter_congr fun x hx => ?_
        by_cases hxn : x.seg = n
        · have := hone x hx hxn
          subst this
          simp [hxn, hd]
        · simp [hxn]
      · have : n ≠ m := fun h => hd (hm e he (hseg.trans h) (by simp [h]))
        rw [hc]
        simp [this]
      · obtain rfl := List.mem_singleton.1 hm
        rw [hc]
        simp [h128]
      · rwa [← List.mem_singleton.1 hm]

theorem Station.releasedAll_releaseAll {s : Station} (l : List Nat) (hn : (s.claims.entries.map (·.seg)).Nodup)
    (hl : ∀ e ∈ s.claims.entries, e.seg ∈ l → e.state = .held) : s.ReleasedAll l (s.releaseAll l) := by
  induction l generalizing s with
  | nil => exact .of_none fun _ _ h => absurd h List.not_mem_nil
  | cons m l ih =>
    have h := Station.releasedAll_releaseRequest m hn fun e he hs => hl e he (by simp [hs])
    refine h.cons (ih (s := s.releaseRequest m) ?_ fun e he hs => ?_) (Station.ms_of_bare (Station.bare_releaseRequest s m))
    · rw [h.entries]
      exact hn.sublist (List.filter_sublist.map _)
    · rw [h.entries] at he
      exact hl e (List.mem_of_mem_filter he) (List.mem_cons_of_mem _ hs)

theorem ClaimBlock.lists_eq_false {c : ClaimBlock} {n : Nat} : c.lists n = false ↔ ∀ e ∈ c.entries, e.seg ≠ n := by
  simp [ClaimBlock.lists]

/-- A segment released has been released as R66 and R67 say. -/
theorem Station.ReleasedAll.toReleased {s u : Station} {l : List Nat} (h : s.ReleasedAll l u)
    (hn : (s.claims.entries.map (·.seg)).Nodup) {e : ClaimEntry} (he : e ∈ s.claims.entries) (hl : e.seg ∈ l)
    (hd : e.purpose ≠ .deck) : s.released u e.seg := by
  refine ⟨ClaimBlock.lists_eq_false.2 fun x hx hxs => ?_, fun h128 => ?_⟩
  · rw [h.entries] at hx
    obtain ⟨hx, hkeep⟩ := List.mem_filter.1 hx
    obtain rfl := List.inj_on_of_nodup_map hn hx he hxs
    simp [hl, hd] at hkeep
  · exact h.released e.seg hl h128 ⟨e, he, rfl, hd⟩

theorem Station.tell_released (s : Station) (a : Asker) (n : Nat) : s.tell a n .released = s := by cases a <;> rfl

/-- No release request changes the wait count (R55). -/
theorem Station.wait_releaseRequest (s : Station) (n : Nat) :
    (s.releaseRequest n).claims.waitCount = s.claims.waitCount := by
  unfold Station.releaseRequest
  split
  · rfl
  · split
    · rfl
    · split
      · rw [Station.tell_released, Station.releaseEntry_claims]
      · rfl
      · dsimp only
        split
        · rw [Station.tell_released]
          rfl
        · rfl

theorem Station.wait_releaseAll (s : Station) (l : List Nat) : (s.releaseAll l).claims.waitCount = s.claims.waitCount := by
  induction l generalizing s with
  | nil => rfl
  | cons n l ih => exact (ih (s.releaseRequest n)).trans (s.wait_releaseRequest n)

/-! ## The end of a listen window (R59, R64, R68) -/

/-- A claim of `e` and its group won: HELD with one won time, and the wait count 0 after a guard claim (R55, R59, R64). -/
def Station.won (s : Station) (e : ClaimEntry) : Station :=
  let u := s.setEntries (s.claims.entries.map fun x =>
    if e.groupedWith x then { x with state := .held, wonTime := some (s.lastWindowEnd e) } else x)
  if e.purpose = .guard then u.clearWait else u

theorem Station.endWindow_eq {s : Station} {n : Nat} {e : ClaimEntry} (he : s.claims.entry? n = some e)
    (hs : e.state = .listening) : s.endWindow n =
      if s.windowOver e = true then
        if e.drop then (s.won e).releaseAll ((s.claims.entries.filter e.groupedWith).map (·.seg))
        else (s.won e).tell e.asker n .won
      else s := by
  unfold Station.endWindow
  simp only [he, hs, decide_true, Bool.true_and]
  rfl

theorem Station.won_entries (s : Station) (e : ClaimEntry) : (s.won e).claims.entries = s.claims.entries.map fun x =>
    if e.groupedWith x then { x with state := .held, wonTime := some (s.lastWindowEnd e) } else x := by
  unfold Station.won
  dsimp only
  split <;> rfl

theorem Station.won_wait (s : Station) (e : ClaimEntry) :
    (s.won e).claims.waitCount = if e.purpose = .guard then 0 else s.claims.waitCount := by
  unfold Station.won
  dsimp only
  split <;> rfl

theorem Station.won_eq (s : Station) (e : ClaimEntry) : s.won e = s.withClaims (s.won e).claims := by
  unfold Station.won
  dsimp only
  split <;> rfl

theorem Station.tell_won_claims (s : Station) (a : Asker) (n : Nat) : (s.tell a n .won).claims = s.claims := by
  cases a <;> try rfl
  simp only [Station.tell]
  split <;> rfl

theorem Station.tell_won_startup {s : Station} (n : Nat) (h : s.start.phase = .bodyClaim) :
    (s.tell .startup n .won).start.phase = .ready := by
  simp only [Station.tell]
  rw [if_pos h]
  rfl

/-- A claim won under the drop mark is released at once, and nothing else is (R68). -/
theorem Station.won_released {s : Station} {e : ClaimEntry} (hn : (s.claims.entries.map (·.seg)).Nodup) :
    let members := (s.claims.entries.filter e.groupedWith).map (·.seg)
    let u := (s.won e).releaseAll members
    (∀ x ∈ s.claims.entries, (e.groupedWith x = true → x.purpose ≠ .deck → s.released u x.seg) ∧
      (e.groupedWith x = false → x.state ≠ .listening → x ∈ u.claims.entries)) ∧
    u.claims.waitCount = if e.purpose = .guard then 0 else s.claims.waitCount := by
  intro members u
  set f : ClaimEntry → ClaimEntry := fun x =>
    if e.groupedWith x then { x with state := .held, wonTime := some (s.lastWindowEnd e) } else x with hf
  have hseg : ∀ x, (f x).seg = x.seg := fun x => by simp only [hf]; split <;> rfl
  have hpurpose : ∀ x, (f x).purpose = x.purpose := fun x => by simp only [hf]; split <;> rfl
  have hent : (s.won e).claims.entries = s.claims.entries.map f := s.won_entries e
  have hn' : ((s.won e).claims.entries.map (·.seg)).Nodup := by
    rw [hent, List.map_map, show (·.seg) ∘ f = (·.seg) from funext hseg]
    exact hn
  have hmem : ∀ x ∈ s.claims.entries, x.seg ∈ members ↔ e.groupedWith x = true := fun x hx => by
    refine ⟨fun h => ?_, fun h => List.mem_map.2 ⟨x, List.mem_filter.2 ⟨hx, h⟩, rfl⟩⟩
    obtain ⟨y, hy, hys⟩ := List.mem_map.1 h
    obtain ⟨hy, hg⟩ := List.mem_filter.1 hy
    rwa [← List.inj_on_of_nodup_map hn hy hx hys]
  have hrel : (s.won e).ReleasedAll members u := Station.releasedAll_releaseAll members hn' fun x hx hxm => by
    rw [hent] at hx
    obtain ⟨y, hy, rfl⟩ := List.mem_map.1 hx
    rw [hseg, hmem y hy] at hxm
    simp only [hf, hxm, if_true]
  refine ⟨fun x hx => ⟨fun hg hd => ?_, fun hg hs => ?_⟩, ?_⟩
  · have h := hrel.toReleased hn' (e := f x) (by rw [hent]; exact List.mem_map_of_mem hx)
      (by rw [hseg]; exact (hmem x hx).2 hg) (by rwa [hpurpose])
    rw [hseg, Station.won_eq] at h
    exact h
  · rw [hrel.entries, hent]
    refine List.mem_filter.2 ⟨List.mem_map.2 ⟨x, hx, by simp only [hf, hg]; rfl⟩, ?_⟩
    have : x.seg ∉ members := fun h => by simp [(hmem x hx).1 h] at hg
    simp [this]
  · rw [hrel.wait, Station.won_wait]

/-- Settles O33. -/
theorem windowEndWinsTheClaim : Obligations.WindowEndWinsTheClaim := by
  intro dt seg e s hon he hstate
  have hex : exec (.listenWindowEnd dt seg) s = .next (s.settled dt ((s.old dt).endWindow seg) {}) := by
    dsimp only [exec, execListenWindowEnd]
    rw [State.reactWith_eq, if_pos (show (s.old dt).onLine = true from hon)]
  have hu := Station.endWindow_eq (s := s.old dt) he hstate
  have hbare : ((s.old dt).endWindow seg).bare = (s.old dt).bare := Station.bare_endWindow _ _
  have hpeers : ((s.old dt).endWindow seg).peers = s.station.peers := (congrArg Station.peers hbare : _)
  have hpos : ((s.old dt).endWindow seg).pos = s.station.pos := (congrArg Station.pos hbare : _)
  have hmem := List.mem_of_find?_eq_some he
  have heseg : e.seg = seg := by simpa using List.find?_some he
  refine ⟨fun hover hdrop => ?_, fun hover hdrop => ?_, fun hover => ?_⟩
  · intro u
    have hu' : u = ((s.old dt).won e).tell e.asker seg .won := by
      simp only [u]
      rw [hu, if_pos hover, hdrop, if_neg Bool.false_ne_true]
    have hclaims : u.claims = ((s.old dt).won e).claims := by rw [hu', Station.tell_won_claims]
    refine ⟨_, hex, rfl, ?_, ?_, fun ha hp => ?_, ?_, ?_, ?_⟩
    · rw [hclaims, Station.won_entries]
      rfl
    · simp only [ClaimBlock.holds, hclaims, Station.won_entries, List.any_map, List.any_eq_true]
      refine ⟨e, hmem, ?_⟩
      simp [ClaimEntry.groupedWith, heseg, ClaimEntry.holding]
    · rw [hu', ha]
      exact Station.tell_won_startup _ (by rw [Station.won_eq]; exact hp)
    · rw [hclaims, Station.won_wait]
      rfl
    · rw [State.settled_peers, hpeers]
    · rw [State.settled_pos_centre, hpos]
  · intro u
    have hu' : u = ((s.old dt).won e).releaseAll (((s.old dt).claims.entries.filter e.groupedWith).map (·.seg)) := by
      simp only [u]
      rw [hu, if_pos hover, if_pos hdrop]
    refine ⟨_, hex, rfl, fun hb => ?_, ?_, ?_, ?_⟩
    · rw [hu']
      exact (Station.won_released (s := s.old dt) hb.2.1).1
    · rw [hu', Station.wait_releaseAll, Station.won_wait]
      rfl
    · rw [State.settled_peers, hpeers]
    · rw [State.settled_pos_centre, hpos]
  · rw [hex, hu, if_neg (by simp [hover])]

end Sys2Proof.Machine
end

section
/-! PROOFS. Route orders accepted and refused (R93, R102, R103, R105, R109). -/

namespace Sys2Proof.Machine

/-! ## Requests for a direction, and stop points (R85, R93) -/

/-- A direction that stands or that the carriage at rest may take is taken; any other is pending with the command at 0. -/
theorem Station.requestDirection_spec (s : Station) (d : Dir) :
    (d = s.pos.dir ∨ s.effective = 0 → s.requestDirection d = (s.setPending none).setDir d) ∧
    (d ≠ s.pos.dir → s.effective ≠ 0 →
      s.requestDirection d = s.withEnv { s.env with pendingDir := some d, commanded := 0 }) := by
  unfold Station.requestDirection
  refine ⟨fun h => ?_, fun h h0 => by rw [if_neg h, if_neg h0]⟩
  by_cases hd : d = s.pos.dir
  · subst hd
    rw [if_pos rfl]
    rfl
  · rw [if_neg hd, if_pos (h.resolve_left hd)]

theorem Station.requestDirection_now {s : Station} {d : Dir} (h : d = s.pos.dir ∨ s.effective = 0) :
    (s.requestDirection d).pos.dir = d ∧ (s.requestDirection d).env.pendingDir = none ∧
    (s.requestDirection d).env.commanded = s.env.commanded := by
  rw [(s.requestDirection_spec d).1 h]
  exact ⟨rfl, rfl, rfl⟩

theorem Station.requestDirection_later {s : Station} {d : Dir} (h : d ≠ s.pos.dir) (h0 : s.effective ≠ 0) :
    (s.requestDirection d).pos.dir = s.pos.dir ∧ (s.requestDirection d).env.pendingDir = some d ∧
    (s.requestDirection d).env.commanded = 0 := by
  rw [(s.requestDirection_spec d).2 h h0]
  exact ⟨rfl, rfl, rfl⟩

/-- A request for a direction touches the envelope and the direction. -/
theorem Station.requestDirection_eq (s : Station) (d : Dir) :
    s.requestDirection d = (s.withEnv (s.requestDirection d).env).withPos (s.requestDirection d).pos := by
  unfold Station.requestDirection
  split
  · rfl
  · split <;> rfl

theorem Station.handedOn_requestDirection (s : Station) (d : Dir) :
    (s.requestDirection d).env.handedOn = s.env.handedOn := by
  unfold Station.requestDirection
  split
  · rfl
  · split <;> rfl

/-- A leg begins with its stop point and its direction asked for (R109). -/
theorem Station.beginLeg_eq (s : Station) : s.beginLeg = match s.order.leg? with
    | none => s
    | some g =>
      (if s.pos.frame = .deck then s.withOrder { s.order with legStop := none, aboardStart := true }
        else s.giveStop g).requestDirection g.dir := by
  unfold Station.beginLeg
  split
  · next h => simp [h]
  · next g h =>
    simp only [h]
    split <;> rfl

theorem Station.requestDirection_order (s : Station) (d : Dir) : (s.requestDirection d).order = s.order := by
  rw [Station.requestDirection_eq, Station.withPos_order, Station.withEnv_order]

theorem Station.requestDirection_claims (s : Station) (d : Dir) : (s.requestDirection d).claims = s.claims := by
  rw [Station.requestDirection_eq, Station.withPos_claims, Station.withEnv_claims]

theorem Station.requestDirection_backing (s : Station) (d : Dir) : (s.requestDirection d).backing = s.backing := by
  rw [Station.requestDirection_eq, Station.withPos_backing, Station.withEnv_backing]

theorem Station.requestDirection_trail (s : Station) (d : Dir) : (s.requestDirection d).trail = s.trail := by
  rw [Station.requestDirection_eq, Station.withPos_trail, Station.withEnv_trail]

theorem Station.requestDirection_peers (s : Station) (d : Dir) : (s.requestDirection d).peers = s.peers := by
  rw [Station.requestDirection_eq, Station.withPos_peers, Station.withEnv_peers]

theorem Station.requestDirection_appr (s : Station) (d : Dir) : (s.requestDirection d).appr = s.appr := by
  rw [Station.requestDirection_eq, Station.withPos_appr, Station.withEnv_appr]

theorem Station.requestDirection_passage (s : Station) (d : Dir) : (s.requestDirection d).passage = s.passage := by
  rw [Station.requestDirection_eq, Station.withPos_passage, Station.withEnv_passage]

/-- What a stop point given anew leaves alone. -/
theorem Station.giveStop_keeps (s : Station) (g : Leg) :
    (s.giveStop g).order = { s.order with legStop := s.legStopOf g, aboardStart := false } ∧
    (s.giveStop g).trail = s.trail ∧ (s.giveStop g).claims = s.claims ∧ (s.giveStop g).peers = s.peers ∧
    (s.giveStop g).passage = s.passage ∧ (s.giveStop g).appr = {} ∧ (s.giveStop g).env.handedOn = false ∧
    (s.giveStop g).pos = s.pos := by
  have hstop : s.freshStop.legStopOf g = s.legStopOf g := rfl
  unfold Station.giveStop Station.setLegStop
  rw [hstop]
  simp [Station.freshStop, Station.dropStop]

/-- What the beginning of a leg leaves alone. -/
theorem Station.beginLeg_keeps (s : Station) :
    (∃ x b, s.beginLeg.order = { s.order with legStop := x, aboardStart := b }) ∧ s.beginLeg.trail = s.trail ∧
    s.beginLeg.claims = s.claims ∧ s.beginLeg.peers = s.peers ∧ (s.appr.docked = false → s.beginLeg.appr.docked = false) := by
  rw [Station.beginLeg_eq]
  cases s.order.leg? with
  | none => exact ⟨⟨s.order.legStop, s.order.aboardStart, rfl⟩, rfl, rfl, rfl, id⟩
  | some g =>
    dsimp only
    rw [Station.requestDirection_order, Station.requestDirection_trail, Station.requestDirection_claims,
      Station.requestDirection_peers, Station.requestDirection_appr]
    split
    · exact ⟨⟨none, true, Station.withOrder_order _ _⟩, Station.withOrder_trail _ _, Station.withOrder_claims _ _,
        Station.withOrder_peers _ _, id⟩
    · obtain ⟨horder, htrail, hclaims, hpeers, -, happr, -⟩ := s.giveStop_keeps g
      exact ⟨⟨_, _, horder⟩, htrail, hclaims, hpeers, fun _ => by rw [happr]⟩

/-! ## The tests of R103 -/

/-- The legs are judged by the map, the place and the parameters alone. -/
theorem Station.badLegFrom_eq {s u : Station} {tgt : Target} {line : Nat} {x : Chainage}
    (h : ∀ g prev last, s.legOk g prev tgt line x last = u.legOk g prev tgt line x last) (legs : List Leg) :
    ∀ i prev, s.badLegFrom tgt line x i prev legs = u.badLegFrom tgt line x i prev legs := by
  induction legs with
  | nil => exact fun _ _ => rfl
  | cons g rest ih =>
    intro i prev
    unfold Station.badLegFrom
    rw [h, ih]

/-- Hearing the frame of an order leaves the tests of R103 as they are. -/
theorem Station.refusal_heard (s : State) (dt : Nat) (o : OrderHead) (k : OrderKind) (r : RouteOrder) :
    ((s.old dt).heard o.src .carriage .order).refusal k r = s.station.refusal k r := by
  have hleg : ∀ line x, ((s.old dt).heard o.src .carriage .order).badLeg r line x = s.station.badLeg r line x := by
    intro line x
    unfold Station.badLeg
    rw [Station.badLegFrom_eq (u := s.station) fun g prev last => by
      rw [Station.heard_eq]
      rfl]
  have htarget : ((s.old dt).heard o.src .carriage .order).resolveTarget r.target = s.station.resolveTarget r.target := by
    rw [Station.heard_eq]
    cases r.target <;> rfl
  have hlift : ((s.old dt).heard o.src .carriage .order).liftRefusal k = s.station.liftRefusal k := by
    rw [Station.heard_eq]
    cases k <;> rfl
  have hfault : ((s.old dt).heard o.src .carriage .order).line.fault = s.station.line.fault := by simp
  unfold Station.refusal
  simp only [htarget, hlift, hfault, hleg, Station.heard_start, Station.heard_order, Station.heard_pos, State.old_start,
    State.old_order, State.old_pos]

/-- The command of a route order. -/
def routeCommand (k : OrderKind) (dt : Nat) (o : OrderHead) (r : RouteOrder) : Instr :=
  match k with
  | .move => .orderMove dt o r
  | .fetch => .orderFetch dt o r
  | .place => .orderPlace dt o r

theorem State.exec_route {s : State} {o : OrderHead} (k : OrderKind) (dt : Nat) (r : RouteOrder) (h : s.ordered o)
    (hcar : s.station.isCarriage = true) (hnew : ¬(o.number = s.station.order.number ∧ s.station.order.state ≠ .idle)) :
    let v := (s.old dt).heard o.src .carriage .order
    exec (routeCommand k dt o r) s = .next (s.settled dt (match s.station.refusal k r with
      | some (x, i) => v.answer o .failed x i
      | none => v.accept k o r) .ofOrder) := by
  intro v
  obtain ⟨hon, hsrc, ht, h1, h29, hn⟩ := h
  have htake : ∀ k, s.takeOrder dt o false (fun u => u.carriageOnly fun v => v.takeRoute k o r) =
      .next (s.settled dt (v.takeRoute k o r) .ofOrder) := fun k => by
    rw [State.receive_order dt _ _ hon (by omega) hsrc,
      Station.orderFor_taken _ (.inl (by simpa using ht)) hn fun h => absurd h (by omega)]
    unfold Station.carriageOnly
    rw [if_pos (by simpa using hcar)]
  have hroute : v.takeRoute k o r = match s.station.refusal k r with
      | some (x, i) => v.answer o .failed x i
      | none => v.accept k o r := by
    unfold Station.takeRoute
    rw [if_neg (by simpa [v] using hnew), Station.refusal_heard] <;> rfl
  rw [← hroute]
  cases k
  · exact htake .move
  · exact htake .fetch
  · exact htake .place

theorem routeCommand_eq (k : OrderKind) (dt : Nat) (o : OrderHead) (r : RouteOrder) :
    (match k with
      | .move => .orderMove dt o r
      | .fetch => .orderFetch dt o r
      | .place => .orderPlace dt o r : Instr) = routeCommand k dt o r := by
  cases k <;> rfl

/-- Settles O18. -/
theorem refusedOrderFillsAnswerSlot : Obligations.RefusedOrderFillsAnswerSlot := by
  intro dt o r s k x leg ho hcar href hnew c
  have hex : exec c s = .next (s.settled dt (((s.old dt).heard o.src .carriage .order).answer o .failed x leg) .ofOrder) := by
    have h := State.exec_route k dt r ho hcar hnew
    rw [href] at h
    have hc : c = routeCommand k dt o r := by
      cases k <;> rfl
    rw [hc]
    exact h
  have ht : o.target ≠ 0 := by
    obtain ⟨-, -, -, h1, -⟩ := ho
    omega
  have hans : ((s.old dt).heard o.src .carriage .order).answer o .failed x leg =
      ((s.old dt).heard o.src .carriage .order).withOrder
        { s.station.order with answer := some ⟨o.number, .failed, x, leg⟩ } := by
    unfold Station.answer
    rw [if_neg ht]
    simp
  refine ⟨_, hex, rfl, ?_⟩
  rw [hans]
  refine ⟨by simp, by simp, by simp, by simp, by simp, by simp, by simp, by simp, by simp, fun hs => ?_⟩
  refine s.settled_order_ended dt (((s.old dt).heard o.src .carriage .order).withOrder
    { s.station.order with answer := some ⟨o.number, .failed, x, leg⟩ }) .ofOrder ?_
  obtain h | h | h | h := hs <;> simp [h, OrderState.resting]

/-- The part with an accepted order in its record, before leg 1 begins (R105). -/
def Station.accepted (s : Station) (k : OrderKind) (o : OrderHead) (r : RouteOrder) : Station :=
  let place := (s.resolveTarget r.target).getD (0, 0)
  let filled := s.withOrder { s.order with
    number := o.number, kind := k, target := r.target, line := place.1, chainage := place.2, route := r.legs
    origin := o.src, cursor := 1, state := .running, reason := .none, resume := none
    haltOperator := false, haltLine := false, blocked := false, waitStart := none
    askTimes := Vector.replicate 128 none }
  ((filled.setReserve false).withAppr { filled.appr with docked := false, dockedPad := none }).withTrail []

theorem Station.accept_eq (s : Station) (k : OrderKind) (o : OrderHead) (r : RouteOrder) :
    s.accept k o r = (s.accepted k o r).beginLeg := rfl

theorem Station.accepted_peers (s : Station) (k : OrderKind) (o : OrderHead) (r : RouteOrder) :
    (s.accepted k o r).peers = s.peers := rfl

/-- How leg 1 of an accepted order begins (R93, R109). -/
theorem Station.beginLeg_first {s : Station} {g : Leg} (hg : s.order.leg? = some g) :
    (s.pos.frame = .deck → s.beginLeg.order.legStop = none ∧ s.beginLeg.order.aboardStart = true) ∧
    (s.pos.frame = .line → s.beginLeg.order.aboardStart = false ∧ s.beginLeg.env.handedOn = false ∧
      s.beginLeg.appr.state = .none ∧ s.beginLeg.appr.attempts = 0 ∧ s.beginLeg.order.legStop = s.legStopOf g) ∧
    (g.dir = s.pos.dir ∨ s.effective = 0 → s.beginLeg.pos.dir = g.dir ∧ s.beginLeg.env.pendingDir = none ∧
      s.beginLeg.env.commanded = s.env.commanded) ∧
    (g.dir ≠ s.pos.dir → s.effective ≠ 0 → s.beginLeg.pos.dir = s.pos.dir ∧
      s.beginLeg.env.pendingDir = some g.dir ∧ s.beginLeg.env.commanded = 0) := by
  rw [Station.beginLeg_eq, hg]
  dsimp only
  by_cases hdeck : s.pos.frame = .deck
  · rw [if_pos hdeck]
    refine ⟨fun _ => ?_, fun h => absurd (h.symm.trans hdeck) (by decide), fun h => ?_, fun h h0 => ?_⟩
    · rw [Station.requestDirection_order]
      exact ⟨rfl, rfl⟩
    · exact Station.requestDirection_now (s := s.withOrder _) h
    · exact Station.requestDirection_later (s := s.withOrder _) h h0
  · rw [if_neg hdeck]
    refine ⟨fun h => absurd h hdeck, fun _ => ?_, fun h => ?_, fun h h0 => ?_⟩
    · obtain ⟨horder, -, -, -, -, happr, henv, -⟩ := s.giveStop_keeps g
      rw [Station.handedOn_requestDirection, Station.requestDirection_order, Station.requestDirection_appr, horder, happr]
      exact ⟨rfl, henv, rfl, rfl, rfl⟩
    · exact Station.requestDirection_now (s := s.giveStop g) h
    · exact Station.requestDirection_later (s := s.giveStop g) h h0

/-- Settles O17. -/
theorem routeOrdersAreAccepted : Obligations.RouteOrdersAreAccepted := by
  intro dt o r s k ho hcar href hnew u c
  have hex : exec c s = .next (s.settled dt u .ofOrder) := by
    have h := State.exec_route k dt r ho hcar hnew
    rw [href] at h
    have hc : c = routeCommand k dt o r := by
      cases k <;> rfl
    rw [hc]
    exact h
  obtain ⟨hon, hsrc, -⟩ := ho
  set v := (s.old dt).heard o.src .carriage .order with hv
  set b := v.accepted k o r with hb
  have hu : u = b.beginLeg := Station.accept_eq v k o r
  obtain ⟨⟨stop, aboard, horder⟩, htrail, hclaims, hpeers, hdock⟩ := b.beginLeg_keeps
  rw [← hu] at horder htrail hclaims hpeers hdock
  have hplace : v.resolveTarget r.target = s.station.resolveTarget r.target := by
    rw [hv, Station.heard_eq]
    cases r.target <;> rfl
  have hpeerv : v.peers = s.station.peers := by
    rw [hv, Station.heard_peers_order hsrc]
    rfl
  have hpos : b.pos = s.station.pos := by
    rw [hb, hv, Station.heard_eq]
    rfl
  have henv : b.env = s.station.env := by
    rw [hb, hv, Station.heard_eq]
    rfl
  have hconfirmed : v.inputs.confirmed = s.station.inputs.confirmed := by simp [hv]
  have heff : b.effective = s.station.effective := by
    have hin : b.inputs = v.inputs := rfl
    unfold Station.effective
    rw [hin, hconfirmed, henv]
  have hcentre : ∀ g, b.deckCentreOf g = s.station.deckCentreOf g := fun g => by
    rw [hb, hv, Station.heard_eq]
    rfl
  refine ⟨_, hex, rfl, ?_⟩
  refine ⟨?_, ?_, ?_, ?_, ?_, ?_, ?_, ?_, ?_, ?_, ?_, ?_, ?_, ?_, ?_⟩
  · rw [horder]; rfl
  · rw [htrail]; rfl
  · rw [hclaims]; rfl
  · have hv' : v.claims = s.station.claims := by simp [hv]
    rw [hclaims, ← hv']
    rfl
  · rw [State.settled_order_number, horder]; rfl
  · rw [State.settled_order_kind, horder]; rfl
  · rw [State.settled_order_target, horder]; rfl
  · rw [State.settled_order_route, horder]; rfl
  · rw [State.settled_order_origin, horder]; rfl
  · rw [State.settled_order_cursor, horder]; rfl
  · intro line x hx
    have hp : (v.resolveTarget r.target).getD (0, 0) = (line, x) := by rw [hplace, hx]; rfl
    rw [State.settled_order_line, State.settled_order_chainage, horder]
    exact ⟨congrArg Prod.fst hp, congrArg Prod.snd hp⟩
  · have hv' : v.order.answer = s.station.order.answer := by simp [hv]
    rw [State.settled_order_answer, horder, ← hv']
    rfl
  · rw [State.settled_peers, hpeers, hb, Station.accepted_peers]; exact hpeerv
  · exact hdock rfl
  · intro g rest hlegs
    have hg : b.order.leg? = some g := by
      have hroute : b.order.route = g :: rest := hlegs
      have hcur : b.order.cursor = 1 := rfl
      unfold OrderUnit.leg?
      rw [hroute, hcur]
      rfl
    obtain ⟨hd, hl, hnow, hlater⟩ := Station.beginLeg_first hg
    rw [← hu, hpos] at hd hl hnow hlater
    rw [heff] at hnow hlater
    rw [henv] at hnow
    refine ⟨hd, fun hf => ?_, hnow, hlater⟩
    obtain ⟨h1, h2, h3, h4, h5⟩ := hl hf
    refine ⟨h1, h2, h3, h4, fun line x ht hx => ?_, fun tt e ht => ?_⟩
    · have hp : (v.resolveTarget r.target).getD (0, 0) = (line, x) := by rw [hplace, hx]; rfl
      rw [h5, Station.legStopOf, ht]
      exact congrArg some (congrArg Prod.snd hp)
    · rw [h5, Station.legStopOf, ht]
      exact hcentre g

end Sys2Proof.Machine
end

section
/-! PROOFS. The lift: travel, its ends and its faults (R143-R150). -/

namespace Sys2Proof.Machine

/-! ## The lift through releases and endings (R116, R132) -/

/-- A field that does not speak of claims, queue or backing stays where the bare part stays. -/
theorem Station.field_of_bare {α : Type} {s t : Station} (g : Station → α) (hg : ∀ x : Station, g x.bare = g x)
    (h : t.bare = s.bare) : g t = g s := by
  rw [← hg t, h, hg]

theorem Station.lift_of_bare {s t : Station} (h : t.bare = s.bare) : t.lift = s.lift :=
  Station.field_of_bare (·.lift) (fun _ => rfl) h

theorem Station.lift_giveUpAttempt (s : Station) : s.giveUpAttempt.lift = s.lift := by
  unfold Station.giveUpAttempt
  split <;> rfl

theorem Station.lift_endOrder (s : Station) (st : OrderState) (r : Reason) :
    (s.endOrder st r).lift = { s.lift with operation := .none } := by
  unfold Station.endOrder
  dsimp only [Station.openPark, Station.withPark_lift, Station.clearWait, Station.setReserve, Station.withClaims_lift]
  rw [Station.lift_of_bare (Station.bare_releaseAhead _), Station.lift_giveUpAttempt]
  rfl

theorem Station.ends_endOrder (s : Station) (st : OrderState) (r : Reason) : (s.endOrder st r).ends = (st, r) := by
  unfold Station.endOrder
  simp only [Station.ends_openPark, Station.ends_clearWait, Station.ends_setReserve, Station.ends_releaseAhead,
    Station.ends_giveUpAttempt, Station.ends_withLift]
  rfl

theorem Station.lift_unwindBacking (s : Station) (b : Backing) : (s.unwindBacking b).lift = s.lift := by
  unfold Station.unwindBacking
  have hturn : ∀ x : Station, (x.freshStop.requestDirection b.forward).lift = x.lift := fun x => by
    rw [Station.requestDirection_eq]
    rfl
  have hrel : ∀ l (u : Station), (u.releaseAll l).lift = u.lift := fun l u => Station.lift_of_bare (u.bare_releaseAll l)
  dsimp only
  rw [hturn]
  split
  · rw [Station.withTrail_lift, hrel]
    rfl
  · rw [Station.lift_of_bare (Station.bare_object _ _ _ _ _), Station.withTrail_lift, hrel]
    rfl

theorem Station.lift_cutBacking (s : Station) : s.cutBacking.lift = s.lift := by
  unfold Station.cutBacking
  split
  · exact s.lift_unwindBacking _
  · rfl

theorem Station.ends_cutBacking (s : Station) : s.cutBacking.ends = s.ends := by
  unfold Station.cutBacking
  split
  · simp
  · rfl

/-! ## Lift faults (R149) -/

theorem Station.lift_faultLift (s : Station) : s.faultLift.lift =
    { s.lift with state := .fault, timer := none, operation := .none, returning := false } := by
  unfold Station.faultLift
  dsimp only
  split
  · rw [Station.lift_endOrder, Station.lift_cutBacking, Station.lift_giveUpAttempt]
    rfl
  · rfl

theorem Station.ends_faultLift (s : Station) :
    s.faultLift.ends = if s.order.state.active = true then (.failed, .lift) else s.ends := by
  unfold Station.faultLift
  dsimp only
  split
  · next h => rw [if_pos (by exact h), Station.ends_endOrder]
  · next h => rw [if_neg (by exact h)]; rfl

theorem Station.inputs_faultLift (s : Station) : s.faultLift.inputs = s.inputs := by
  unfold Station.faultLift
  dsimp only
  split
  · exact Station.inputs_of_steady (t := Station.endOrder _ _ _) (s := s.withLift _) (by simp)
  · rfl

/-- What a change at the lift port does, by the lift state (R145, R146, R149). -/
theorem Station.liftInput_eq {s : Station} (act : Station → Station) (hon : s.onLine = true) (hcar : s.isCarriage = true) :
    s.liftInput act = if s.lift.state = .fault then s.restTest
      else if s.inputs.atTop = true ∧ s.inputs.atBottom = true then s.faultLift else act s := by
  unfold Station.liftInput
  rw [if_neg (by simp [hon, hcar])]
  simp only [Bool.and_eq_true]

/-- The rest that a lift in FAULT takes (R149). -/
theorem Station.restTest_eq {s : Station} (h : s.lift.state = .fault) :
    s.restTest = s.withLift { s.lift with state := if s.inputs.liftFault then .fault else s.inputs.endState } := by
  unfold Station.restTest
  cases hf : s.inputs.liftFault with
  | true =>
    have : { s.lift with state := .fault } = s.lift := by rw [← h]
    simp [h, this]
    rfl
  | false => simp [h]

theorem Inputs.endState_eq (i : Inputs) : i.endState = match i.atTop, i.atBottom with
    | true, false => .raised
    | false, true => .lowered
    | _, _ => .fault := by
  unfold Inputs.endState
  cases i.atTop <;> cases i.atBottom <;> rfl

/-- Settles O47. -/
theorem liftFaultsBeginAndEnd : Obligations.LiftFaultsBeginAndEnd := by
  refine ⟨fun dt sensed c i s hon hcar hlift hc => ?_, fun dt a l c i s hon hcar hlift hc => ?_⟩
  · intro u
    have hin : ∀ (j : Inputs) act, ((s.old dt).withInputs j).liftInput act =
        if j.atTop = true ∧ j.atBottom = true then ((s.old dt).withInputs j).faultLift
        else act ((s.old dt).withInputs j) := fun j act => by
      rw [Station.liftInput_eq (s := (s.old dt).withInputs j) act hon hcar]
      exact if_neg hlift
    have hex : exec c s = .next (s.settled dt u {}) := by
      obtain ⟨rfl, hf, rfl⟩ | ⟨rfl, hdue, htr, rfl⟩ | ⟨rfl, hb, rfl⟩ | ⟨rfl, hb, rfl⟩ := hc
      · dsimp only [exec, execLiftFaultChange]
        rw [State.reactWith_eq, State.old_inputs, hin, hf]
        simp only [Bool.not_false, Bool.and_self, if_true, ite_self]
        rfl
      · dsimp only [exec, execLiftTimeout]
        rw [State.onTimer_due _ _ _ _ _ hon hdue, if_pos (by simp [hcar, htr])]
        rfl
      · dsimp only [exec, execAtTopChange]
        rw [State.reactWith_eq, State.old_inputs, hin, if_pos ⟨rfl, hb⟩]
      · dsimp only [exec, execAtBottomChange]
        rw [State.reactWith_eq, State.old_inputs, hin, if_pos ⟨hb, rfl⟩]
    have hl : u.lift = { s.station.lift with state := .fault, timer := none, operation := .none, returning := false } :=
      Station.lift_faultLift _
    have hends : u.ends = if s.station.order.state.active = true then (.failed, .lift) else s.station.ends :=
      Station.ends_faultLift _
    have hrest : u.order.state.resting = true ∨ u.order.state = .stopped := by
      refine .inl ?_
      rw [show u.order.state = _ from congrArg Prod.fst hends]
      split
      · rfl
      · next h => exact OrderState.resting_of_not_active (Bool.not_eq_true _ ▸ h)
    obtain ⟨hst, hre⟩ := s.settled_order_ended dt u {} hrest
    refine ⟨_, hex, rfl, by rw [hl], by rw [hl], by rw [hl], by rw [State.settled_lift_load, hl], ?_,
      s.settled_commanded_of_ended dt {} hrest, fun ha => ?_, fun ha => ?_⟩
    · rw [State.settled_inputs]
      exact Station.inputs_faultLift _
    · rw [hst, hre]
      rw [if_pos ha] at hends
      exact ⟨congrArg Prod.fst hends, congrArg Prod.snd hends⟩
    · rw [hst, hre]
      rw [if_neg (by simp [ha])] at hends
      exact ⟨congrArg Prod.fst hends, congrArg Prod.snd hends⟩
  · intro rest
    have hin : ∀ (j : Inputs) act, ((s.old dt).withInputs j).liftInput act = ((s.old dt).withInputs j).restTest :=
      fun j act => by
        rw [Station.liftInput_eq (s := (s.old dt).withInputs j) act hon hcar]
        exact if_pos hlift
    have hrest : ((s.old dt).withInputs i).restTest =
        ((s.old dt).withInputs i).withLift { s.station.lift with state := rest } := by
      rw [Station.restTest_eq (by exact hlift), show ((s.old dt).withInputs i).inputs = i from rfl, Inputs.endState_eq]
      rfl
    have hex : exec c s = .next (s.settled dt (((s.old dt).withInputs i).withLift { s.station.lift with state := rest }) {}) := by
      rw [← hrest]
      obtain ⟨rfl, rfl⟩ | ⟨rfl, rfl⟩ | ⟨rfl, rfl⟩ := hc
      · dsimp only [exec, execLiftFaultChange]
        rw [State.reactWith_eq, State.old_inputs, hin]
      · dsimp only [exec, execAtTopChange]
        rw [State.reactWith_eq, State.old_inputs, hin]
      · dsimp only [exec, execAtBottomChange]
        rw [State.reactWith_eq, State.old_inputs, hin]
    refine ⟨_, hex, rfl, by simp, by simp, fun hr => ?_⟩
    obtain ⟨hst, hre⟩ := s.settled_order_ended dt (((s.old dt).withInputs i).withLift { s.station.lift with state := rest }) {}
      (.inl hr)
    exact ⟨hst, hre⟩

/-! ## Ends of travel (R145, R146, R148) -/

/-- How a raise ends: under a CANCEL at the raised start rest, or by what LOAD-SENSED shows. -/
theorem Station.reachTop_spec {s : Station} (h : s.lift.state = .raising) :
    (s.lift.returning = false → s.reachTop.lift = { s.lift with
        state := .raised, timer := none, operation := .none
        load := if s.inputs.loadSensed then .loaded else s.lift.load } ∧
      s.reachTop.ends = (if s.inputs.loadSensed then .done else .failed, if s.inputs.loadSensed then .none else .noLoad)) ∧
    (s.lift.returning = true → s.lift.startRaised = true → s.reachTop.lift =
        { s.lift with state := .raised, timer := none, operation := .none, returning := false } ∧
      s.reachTop.ends = (.failed, .cancelled)) := by
  unfold Station.reachTop
  rw [if_pos h]
  refine ⟨fun hr => ?_, fun hr hs => ?_⟩
  · rw [if_neg (by simp [hr])]
    cases hl : s.inputs.loadSensed
    · exact ⟨Station.lift_endOrder _ _ _, Station.ends_endOrder _ _ _⟩
    · exact ⟨Station.lift_endOrder _ _ _, Station.ends_endOrder _ _ _⟩
  · rw [if_pos hr, if_pos hs]
    exact ⟨Station.lift_endOrder _ _ _, Station.ends_endOrder _ _ _⟩

/-- How a lowering ends: under a CANCEL at the lowered start rest, or by what LOAD-SENSED shows. -/
theorem Station.reachBottom_spec {s : Station} (h : s.lift.state = .lowering) :
    (s.lift.returning = false → s.reachBottom.lift = { s.lift with
        state := .lowered, timer := none, operation := .none
        load := if s.inputs.loadSensed then s.lift.load else .empty } ∧
      s.reachBottom.ends = (if s.inputs.loadSensed then .failed else .done, if s.inputs.loadSensed then .lift else .none)) ∧
    (s.lift.returning = true → s.lift.startRaised = false → s.reachBottom.lift =
        { s.lift with state := .lowered, timer := none, operation := .none, returning := false } ∧
      s.reachBottom.ends = (.failed, .cancelled)) := by
  unfold Station.reachBottom
  rw [if_pos h]
  refine ⟨fun hr => ?_, fun hr hs => ?_⟩
  · rw [if_neg (by simp [hr])]
    cases hl : s.inputs.loadSensed
    · exact ⟨Station.lift_endOrder _ _ _, Station.ends_endOrder _ _ _⟩
    · exact ⟨Station.lift_endOrder _ _ _, Station.ends_endOrder _ _ _⟩
  · rw [if_pos hr, if_neg (by simp [hs])]
    exact ⟨Station.lift_endOrder _ _ _, Station.ends_endOrder _ _ _⟩

theorem Station.inputs_reachTop (s : Station) : s.reachTop.inputs = s.inputs := by
  unfold Station.reachTop
  have he : ∀ (x : Station) st r, (x.endOrder st r).inputs = x.inputs := fun x st r =>
    Station.inputs_of_steady (x.steady_endOrder st r)
  split
  · split
    · split
      · exact he _ _ _
      · rfl
    · split <;> exact he _ _ _
  · rfl

theorem Station.inputs_reachBottom (s : Station) : s.reachBottom.inputs = s.inputs := by
  unfold Station.reachBottom
  have he : ∀ (x : Station) st r, (x.endOrder st r).inputs = x.inputs := fun x st r =>
    Station.inputs_of_steady (x.steady_endOrder st r)
  split
  · split
    · split
      · rfl
      · exact he _ _ _
    · split <;> exact he _ _ _
  · rfl

/-- An order that a command ended stays as the command left it. -/
theorem State.settled_ends (s : State) (dt : Nat) {u : Station} {st : OrderState} {r : Reason} (ev : Events)
    (h : u.ends = (st, r)) (hr : st.resting = true) :
    (s.settled dt u ev).station.order.state = st ∧ (s.settled dt u ev).station.order.reason = r := by
  have hs : u.order.state = st := congrArg Prod.fst h
  obtain ⟨h1, h2⟩ := s.settled_order_ended dt u ev (.inl (hs ▸ hr))
  exact ⟨h1.trans hs, h2.trans (congrArg Prod.snd h)⟩

/-- A change at the lift port, where the lift is not in FAULT and one end at most is active. -/
theorem State.liftInput_act {s : State} {dt : Nat} {i : Inputs} {act : Station → Station} (hon : s.station.onLine = true)
    (hcar : s.station.isCarriage = true) (hl : s.station.lift.state ≠ .fault) (hi : ¬(i.atTop = true ∧ i.atBottom = true)) :
    ((s.old dt).withInputs i).liftInput act = act ((s.old dt).withInputs i) := by
  rw [Station.liftInput_eq (s := (s.old dt).withInputs i) act hon hcar, if_neg (by exact hl), if_neg (by exact hi)]

/-! ## Travel under the interlock (R144, R147) -/

theorem LiftState.travelling_iff (x : LiftState) : x.travelling = true ↔ x = .raising ∨ x = .lowering := by
  cases x <;> decide

theorem Station.interlock_iff (s : Station) : s.interlock = true ↔
    s.appr.docked = true ∧ s.inputs.confirmed = 0 ∧ s.env.commanded = 0 := by
  unfold Station.interlock Station.brake Station.effective
  simp only [Bool.and_eq_true, decide_eq_true_eq]
  constructor
  · rintro ⟨⟨hd, hc⟩, hm⟩
    exact ⟨hd, hc, by omega⟩
  · rintro ⟨hd, hc, hm⟩
    exact ⟨⟨hd, hc⟩, by omega⟩

theorem Station.stopLift_of (s : Station) :
    (s.lift.state = .raising ∨ s.lift.state = .lowering →
      s.stopLift = s.withLift { s.lift with state := .stoppedMid, timer := none }) ∧
    (s.lift.state ≠ .raising → s.lift.state ≠ .lowering → s.stopLift = s) := by
  unfold Station.stopLift
  refine ⟨fun h => if_pos ((LiftState.travelling_iff _).2 h), fun h1 h2 => if_neg fun h => ?_⟩
  exact ((LiftState.travelling_iff _).1 h).elim h1 h2

/-- Settles O46. -/
theorem liftEndsJudgeFetchAndPlace : Obligations.LiftEndsJudgeFetchAndPlace := by
  refine ⟨fun dt sensed s hon hcar => ⟨fun hl ht hb => ?_, fun hl ht hb => ?_⟩, fun v hdrive => ?_⟩
  · intro u
    have hex : exec (.atTopChange dt true sensed) s = .next (s.settled dt u {}) := by
      dsimp only [exec, execAtTopChange]
      rw [State.reactWith_eq, State.old_inputs, State.liftInput_act hon hcar (by rw [hl]; decide) (by simp [hb]), ht]
      rfl
    obtain ⟨hgo, hback⟩ := Station.reachTop_spec
      (s := (s.old dt).withInputs { s.station.inputs with atTop := true, loadSensed := sensed }) hl
    refine ⟨_, hex, rfl, ?_, fun h => ?_, fun h => ?_, fun h h' => ?_⟩
    · rw [State.settled_inputs, Station.inputs_reachTop]
      rfl
    · cases hr : s.station.lift.returning with
      | false =>
        simp only [u, (hgo hr).1]
        exact ⟨trivial, trivial, trivial, hr⟩
      | true =>
        simp only [u, (hback hr (h.resolve_left (by simp [hr]))).1]
        exact ⟨trivial, trivial, trivial, trivial⟩
    · obtain ⟨hlift, hends⟩ := hgo h
      obtain ⟨h1, h2⟩ := s.settled_ends dt {} hends (by split <;> rfl)
      refine ⟨h1, h2, ?_⟩
      rw [State.settled_lift_load, hlift]
      rfl
    · obtain ⟨hlift, hends⟩ := hback h h'
      obtain ⟨h1, h2⟩ := s.settled_ends dt {} hends rfl
      refine ⟨h1, h2, ?_⟩
      rw [State.settled_lift_load, hlift]
      rfl
  · intro u
    have hex : exec (.atBottomChange dt true sensed) s = .next (s.settled dt u {}) := by
      dsimp only [exec, execAtBottomChange]
      rw [State.reactWith_eq, State.old_inputs, State.liftInput_act hon hcar (by rw [hl]; decide) (by simp [ht]), hb]
      rfl
    obtain ⟨hgo, hback⟩ := Station.reachBottom_spec
      (s := (s.old dt).withInputs { s.station.inputs with atBottom := true, loadSensed := sensed }) hl
    refine ⟨_, hex, rfl, ?_, fun h => ?_, fun h => ?_, fun h h' => ?_⟩
    · rw [State.settled_inputs, Station.inputs_reachBottom]
      rfl
    · cases hr : s.station.lift.returning with
      | false =>
        simp only [u, (hgo hr).1]
        exact ⟨trivial, trivial, trivial, hr⟩
      | true =>
        simp only [u, (hback hr (h.resolve_left (by simp [hr]))).1]
        exact ⟨trivial, trivial, trivial, trivial⟩
    · obtain ⟨hlift, hends⟩ := hgo h
      obtain ⟨h1, h2⟩ := s.settled_ends dt {} hends (by split <;> rfl)
      refine ⟨h1, h2, ?_⟩
      rw [State.settled_lift_load, hlift]
      rfl
    · obtain ⟨hlift, hends⟩ := hback h h'
      obtain ⟨h1, h2⟩ := s.settled_ends dt {} hends rfl
      refine ⟨h1, h2, ?_⟩
      rw [State.settled_lift_load, hlift]
      rfl
  · intro interlock u
    have hdrives : ∀ l, (v.withLift l).driving = true := fun _ => hdrive
    have hlock : v.interlock = true ↔ interlock := v.interlock_iff
    have hu : u = if v.order.state = .loading ∧ v.interlock = true then
        (if v.lift.operation ≠ .none ∧ (v.lift.state = .stoppedMid ∨ v.lift.state.atRest = true) then v.startTravel else v)
        else v.stopLift := by
      simp only [u, Station.liftEval, hdrive, Bool.not_true, Bool.false_eq_true, if_false, Bool.and_eq_true,
        decide_eq_true_eq, Bool.or_eq_true]
    obtain ⟨hstop, hstay⟩ := v.stopLift_of
    refine ⟨fun hload hi hop hst => ?_, fun hload hi hst => ?_, fun hno => ⟨fun hst => ?_, fun h1 h2 => ?_⟩,
      fun hload hst => ?_, fun hk => ?_, fun hk => ?_⟩
    · have hrest : v.lift.state = .stoppedMid ∨ v.lift.state.atRest = true := by
        obtain h | h | h := hst <;> simp [h, LiftState.atRest]
      rw [hu, if_pos ⟨hload, hlock.2 hi⟩, if_pos ⟨hop, hrest⟩]
      unfold Station.startTravel Station.liftOutput
      cases v.lift.travelDir <;> simp [hdrives]
    · rw [hu, if_pos ⟨hload, hlock.2 hi⟩, if_neg]
      rintro ⟨-, h⟩
      obtain h' | h' := hst <;> simp [h', LiftState.atRest] at h
    · rw [hu, if_neg (by rw [hlock]; tauto), hstop hst]
      exact ⟨rfl, by simp [Station.liftOutput, hdrives]⟩
    · rw [hu, if_neg (by rw [hlock]; tauto), hstay h1 h2]
    · have hmid : ∀ o, (v.withOrder o).stopLift.lift = { v.lift with state := .stoppedMid, timer := none } := fun o =>
        congrArg Station.lift ((v.withOrder o).stopLift_of.1 hst)
      refine ⟨?_, fun r => ?_⟩
      · unfold Station.haltForLine Station.haltWith
        simp only [hload]
        exact hmid _
      · unfold Station.stopOrder
        rw [if_neg (by simp [hload, OrderState.active]), if_neg (by simp [hload])]
        exact hmid _
    · unfold Station.endTargetLeg
      simp [hk]
    · unfold Station.endTargetLeg
      simp [hk]

end Sys2Proof.Machine
end

section
/-! PROOFS. Answers to the carriage's side of a passage: EXIT, GRANT and the others (R32, R33, R169-R171). -/

namespace Sys2Proof.Machine

/-! ## The frame of an answer (R177) -/

/-- An answer addressed to a carriage is heard and then acted on. -/
theorem State.takeAnswer_eq {s : State} {h : FrameHead} (dt : Nat) (act : Station → Station) (hs : s.hears h.src)
    (hcar : s.station.isCarriage = true) :
    s.takeAnswer dt h s.station.par.station act =
      .next (s.settled dt (act ((s.old dt).heard h.src h.role .turnAnswer)) .frame) := by
  unfold State.takeAnswer
  rw [State.reactWith_eq, (State.receive_peer dt h.role (by decide) _ hs).1, if_pos (by simp [hcar])]

/-! ## A leg that begins, and the EXIT transfer (R33, R109) -/

theorem Station.beginLeg_pos (s : Station) : ∃ d, s.beginLeg.pos = { s.pos with dir := d } := by
  have hreq : ∀ (x : Station) d, ∃ d', (x.requestDirection d).pos = { x.pos with dir := d' } := fun x d => by
    unfold Station.requestDirection
    split
    · exact ⟨_, rfl⟩
    · split
      · exact ⟨_, rfl⟩
      · exact ⟨_, rfl⟩
  rw [Station.beginLeg_eq]
  split
  · exact ⟨_, rfl⟩
  · split
    · exact hreq (s.withOrder _) _
    · exact hreq (s.giveStop _) _

theorem Station.beginLeg_passage (s : Station) : s.beginLeg.passage = s.passage := by
  rw [Station.beginLeg_eq]
  split
  · rfl
  · rw [Station.requestDirection_passage]
    split
    · rfl
    · exact (s.giveStop_keeps _).2.2.2.2.1

/-- A leg that begins in the direction that stands leaves it. -/
theorem Station.beginLeg_dir {s : Station} {d : Dir} (hd : s.pos.dir = d)
    (hg : ∀ g, s.beginLeg.order.leg? = some g → g.dir = d) : s.beginLeg.pos.dir = d := by
  obtain ⟨⟨x, b, ho⟩, -⟩ := s.beginLeg_keeps
  rw [ho] at hg
  cases hl : s.order.leg? with
  | none =>
    rw [Station.beginLeg_eq, hl]
    exact hd
  | some g =>
    have hgd : g.dir = d := hg g hl
    rw [((Station.beginLeg_first hl).2.2.1 (.inl (hgd.trans hd.symm))).1, hgd]

/-- The part with its order at leg `c`. -/
def Station.atLeg (s : Station) (c : Nat) : Station := s.withOrder { s.order with cursor := c }

theorem Station.atLeg_pos (s : Station) (c : Nat) : (s.atLeg c).pos = s.pos := rfl
theorem Station.atLeg_trail (s : Station) (c : Nat) : (s.atLeg c).trail = s.trail := rfl
theorem Station.atLeg_claims (s : Station) (c : Nat) : (s.atLeg c).claims = s.claims := rfl
theorem Station.atLeg_passage (s : Station) (c : Nat) : (s.atLeg c).passage = s.passage := rfl

/-- After the EXIT transfer the order stays, begins the leg it was accepted aboard for, or begins its next leg (R109). -/
theorem Station.legAfterExit_cases (s : Station) :
    s.legAfterExit = s ∨ ∃ c, s.order.state.active = true ∧ s.legAfterExit = (s.atLeg c).beginLeg := by
  unfold Station.legAfterExit
  split
  · exact .inl rfl
  · next ha =>
    have ha : s.order.state.active = true := by simpa using ha
    split
    · exact .inr ⟨s.order.cursor, ha, rfl⟩
    · split
      · exact .inr ⟨_, ha, rfl⟩
      · exact .inl rfl

/-- The carriage on the exit line, before its order goes on (R33). -/
def Station.exited (s : Station) (k : DeckOnLine) : Station :=
  let placed := (s.withPos { s.pos.reference k.line k.centre s.par.centring s.par.drift with dir := k.off }).withTrail []
  (placed.freshStop.setPending none).withPassage { placed.passage with state := .leaving }

theorem Station.exited_dir (s : Station) (k : DeckOnLine) : (s.exited k).pos.dir = k.off := rfl
theorem Station.exited_trail (s : Station) (k : DeckOnLine) : (s.exited k).trail = [] := rfl
theorem Station.exited_passage (s : Station) (k : DeckOnLine) : (s.exited k).passage.state = .leaving := rfl
theorem Station.exited_claims (s : Station) (k : DeckOnLine) : (s.exited k).claims = s.claims := rfl
theorem Station.exited_order (s : Station) (k : DeckOnLine) : (s.exited k).order = s.order := rfl

theorem Station.doExit_some {s : Station} {e : Nat} {k : DeckOnLine} (h : s.map.deck? s.pos.deckTurntable e = some k) :
    s.doExit e = (s.exited k).legAfterExit := by
  unfold Station.doExit
  rw [h]
  rfl

/-- What the EXIT transfer leaves (R33, R125, R171). -/
theorem Station.doExit_spec {s : Station} {e : Nat} {k : DeckOnLine} (h : s.map.deck? s.pos.deckTurntable e = some k) :
    (∃ d, (s.doExit e).pos = { (s.exited k).pos with dir := d }) ∧ (s.doExit e).trail = [] ∧
    (s.doExit e).passage.state = .leaving ∧ (s.doExit e).claims = s.claims ∧
    ((∀ g, (s.doExit e).order.leg? = some g → g.dir = k.off) → (s.doExit e).pos.dir = k.off) ∧
    (s.order.state.active = false → (s.doExit e).pos.dir = k.off ∧ (s.doExit e).order = s.order) := by
  rw [Station.doExit_some h]
  have hdir := s.exited_dir k
  have htrail := s.exited_trail k
  have hstate := s.exited_passage k
  have hclaims := s.exited_claims k
  have horder := s.exited_order k
  obtain hx | ⟨c, ha, hx⟩ := (s.exited k).legAfterExit_cases
  · rw [hx]
    exact ⟨⟨_, rfl⟩, htrail, hstate, hclaims, fun _ => hdir, fun _ => ⟨hdir, horder⟩⟩
  · rw [hx]
    obtain ⟨-, htrail', hclaims', -⟩ := ((s.exited k).atLeg c).beginLeg_keeps
    have hpos := ((s.exited k).atLeg c).beginLeg_pos
    rw [Station.atLeg_pos] at hpos
    refine ⟨hpos, by rw [htrail', Station.atLeg_trail, htrail], ?_, by rw [hclaims', Station.atLeg_claims, hclaims],
      fun hg => Station.beginLeg_dir (by rw [Station.atLeg_pos, hdir]) hg, fun hn => ?_⟩
    · rw [Station.beginLeg_passage, Station.atLeg_passage, hstate]
    · rw [horder, hn] at ha
      cases ha

/-- What a carriage that learns it is accepted keeps: all but its claims and its passage (R171). -/
theorem Station.learnAccepted_bare (s : Station) : s.learnAccepted.bare = (s.setPassageState .accepted).bare :=
  Station.bare_releaseAll _ _

/-- EXIT in frame DECK, for an arm that the deck lookup gives (R171). -/
theorem Station.takeExit_deck {s : Station} {e : Nat} {k : DeckOnLine} (hf : s.pos.frame = .deck)
    (hk : s.map.deck? s.pos.deckTurntable e = some k) :
    s.takeExit e = (if s.passage.state = .aboardSent then s.learnAccepted else s).doExit e := by
  have hpos : (if s.passage.state = .aboardSent then s.learnAccepted else s).pos = s.pos := by
    split
    · exact Station.field_of_bare (s := s.setPassageState .accepted) (·.pos) (fun _ => rfl) s.learnAccepted_bare
    · rfl
  unfold Station.takeExit
  rw [if_neg (by simp [hk])]
  exact if_pos ((congrArg Position.frame hpos).trans hf)

theorem Station.uncalledFor_iff (s : Station) :
    s.uncalledFor = true ↔ s.passage.state = .none ∨ s.passage.state = .asked := by
  unfold Station.uncalledFor
  simp

/-- Settles O27. -/
theorem exitPlacesCarriageOnExitLine : Obligations.ExitPlacesCarriageOnExitLine := by
  intro dt arm h s hs hcar v
  have hex : exec (.turnAnswerExit dt h s.station.par.station arm) s = .next (s.settled dt
      (if s.station.passage.state = .none ∨ s.station.passage.state = .asked then v.countBad
      else if s.station.passage.state = .aboardSent ∨ s.station.passage.state = .accepted then v.takeExit arm else v)
      .frame) := by
    have hpass : v.passage = s.station.passage := by simp [v]
    dsimp only [exec, execTurnAnswerExit]
    rw [State.takeAnswer_eq dt _ hs hcar]
    simp only [Station.uncalledFor_iff, Bool.or_eq_true, decide_eq_true_eq]
    rw [hpass]
  have hv : v.pos = s.station.pos ∧ v.map = s.station.map ∧ v.passage = s.station.passage ∧ v.par = s.station.par ∧
      v.order = s.station.order := by simp [v]
  obtain ⟨hpos, hmap, hpass, hpar, horder⟩ := hv
  refine ⟨fun k hst hf hk => ?_, fun hno => ?_⟩
  · intro w u
    have htake : v.takeExit arm = u := by
      have hkv : v.map.deck? v.pos.deckTurntable arm = some k := by rw [hmap, hpos]; exact hk
      rw [Station.takeExit_deck (hpos ▸ hf) hkv, hpass]
      obtain hst | hst := hst
      · simp [u, w, hst]
      · simp [u, w, hst]
    have hw : w.pos = s.station.pos ∧ w.map = s.station.map ∧ w.par = s.station.par ∧ w.order.state = s.station.order.state ∧
        w.order.cursor = s.station.order.cursor := by
      simp only [w]
      split
      · exact ⟨hpos, hmap, hpar, congrArg OrderUnit.state horder, congrArg OrderUnit.cursor horder⟩
      · have hb := v.learnAccepted_bare
        exact ⟨(Station.field_of_bare (·.pos) (fun _ => rfl) hb).trans hpos,
          (Station.field_of_bare (·.map) (fun _ => rfl) hb).trans hmap,
          (Station.field_of_bare (·.par) (fun _ => rfl) hb).trans hpar,
          (Station.field_of_bare (·.order.state) (fun _ => rfl) hb).trans (congrArg OrderUnit.state horder),
          (Station.field_of_bare (·.order.cursor) (fun _ => rfl) hb).trans (congrArg OrderUnit.cursor horder)⟩
    obtain ⟨hwpos, hwmap, hwpar, hwstate, hwcursor⟩ := hw
    obtain ⟨⟨d, hupos⟩, htrail, hleaving, hclaims, hdir, hrest⟩ :=
      Station.doExit_spec (s := w) (e := arm) (k := k) (by rw [hwmap, hwpos]; exact hk)
    have hupos : u.pos = { (w.exited k).pos with dir := d } := hupos
    have hx : (w.exited k).pos = { w.pos.reference k.line k.centre w.par.centring w.par.drift with dir := k.off } := rfl
    rw [hx, hwpos, hwpar] at hupos
    rw [if_neg (by obtain h | h := hst <;> simp [h]), if_pos hst.symm, htake] at hex
    refine ⟨_, hex, rfl, ?_, htrail, hleaving, by rw [hclaims], ?_, ?_, ?_, ?_, ?_, ?_, hdir, fun ha => ?_⟩
    · rw [hupos]; rfl
    · rw [State.settled_pos_line, hupos]; rfl
    · rw [State.settled_pos_centre, hupos]; rfl
    · rw [State.settled_pos_travel, hupos]; rfl
    · rw [State.settled_pos_uRef, hupos]; rfl
    · rw [State.settled_pos_u, hupos]
      simp [Position.reference, Position.recompute, computeU, Config.uMax, ceilDiv]
    · rw [State.settled_pos_doubt, hupos]; rfl
    · obtain ⟨h1, h2⟩ := hrest (hwstate.symm ▸ ha)
      rw [State.settled_order_cursor, h2]
      exact ⟨h1, hwcursor⟩
  · have hbad : exec (.turnAnswerExit dt h s.station.par.station arm) s = .next (s.settled dt v.countBad .frame) := by
      rw [hex]
      obtain h1 | h1 | ⟨h1, hf, hk⟩ := hno
      · rw [if_pos (.inl h1)]
      · rw [if_pos (.inr h1)]
      · rw [if_neg (by obtain h | h := h1 <;> simp [h]), if_pos h1.symm]
        unfold Station.takeExit
        rw [if_pos (by simp [hpos, hmap, hf, hk])]
    refine ⟨_, hbad, rfl, ?_, ?_, ?_⟩ <;> simp [Station.countBad_eq, v]

end Sys2Proof.Machine
end

section
/-! PROOFS. The other answers of a turntable: REFUSED-FULL, FAULT, REVOKED, NOT-CENTRED (R32, R85, R109, R141, R169, R170). -/

namespace Sys2Proof.Machine

/-! ## The frame of the carriage (R32) -/

theorem Station.backToLine_eq (s : Station) : s.backToLine = s.withPos s.backToLine.pos := by
  unfold Station.backToLine
  split <;> rfl

theorem Station.backToLine_pos (s : Station) :
    s.backToLine.pos.frame = (if s.pos.frame = .deck then .line else s.pos.frame) ∧
    s.backToLine.pos.centre = s.pos.centre := by
  unfold Station.backToLine
  split
  · exact ⟨rfl, rfl⟩
  · exact ⟨rfl, rfl⟩

/-! ## REVOKED (R170) -/

/-- An active order is on a TURNTABLE leg that the passage serves (R172). -/
theorem Station.legKeepsPassage_iff (s : Station) : s.legKeepsPassage = true ↔ s.order.state.active = true ∧
    ∃ l d e, s.order.leg? = some ⟨l, d, .turntable s.passage.turntable e⟩ ∧
      s.map.arm? l d.atHigh = some (s.passage.turntable, s.passage.entryArm) := by
  unfold Station.legKeepsPassage
  rw [Bool.and_eq_true]
  refine and_congr_right fun _ => ?_
  cases hl : s.order.leg? with
  | none => simp
  | some g =>
    obtain ⟨l, d, stop⟩ := g
    cases stop with
    | target => simp
    | turntable t e =>
      simp only [Bool.and_eq_true, decide_eq_true_eq]
      constructor
      · rintro ⟨rfl, h⟩
        exact ⟨l, d, e, rfl, h⟩
      · rintro ⟨l', d', e', heq, h⟩
        cases heq
        exact ⟨rfl, h⟩

theorem Station.nearsDeck_iff (s : Station) :
    s.nearsDeck = true ↔ s.appr.state = .aboardAsked ∨ (s.legKeepsPassage = true ∧ s.backing = none) := by
  unfold Station.nearsDeck
  simp

/-- The stop point that is withdrawn, and the approach to it (R85, R109, R170). -/
theorem Station.withdrawDeckStop_spec (s : Station) :
    (s.legKeepsPassage = true → s.withdrawDeckStop.order.legStop = none) ∧
    (s.legKeepsPassage = false → s.withdrawDeckStop.order = s.order) ∧
    (s.nearsDeck = true → s.withdrawDeckStop.appr = { s.appr with state := .none, attempts := 0 } ∧
      s.withdrawDeckStop.env = s.dropStop.env) ∧
    (s.nearsDeck = false → s.withdrawDeckStop.appr = s.appr ∧ s.withdrawDeckStop.env = s.env) ∧
    s.withdrawDeckStop.pos = s.pos ∧ s.withdrawDeckStop.map = s.map := by
  unfold Station.withdrawDeckStop
  dsimp only
  refine ⟨fun h => ?_, fun h => ?_, fun h => ?_, fun h => ?_, ?_, ?_⟩
  · rw [if_pos h]
    rfl
  · rw [if_neg (by simp [h])]
    split <;> rfl
  · rw [if_pos h]
    split <;> exact ⟨rfl, rfl⟩
  · rw [if_neg (show ¬s.nearsDeck = true by simp [h])]
    split <;> exact ⟨rfl, rfl⟩
  · split
    · split <;> rfl
    · split <;> rfl
  · split
    · split <;> rfl
    · split <;> rfl

/-- What REVOKED leaves (R32, R170). -/
theorem Station.takeRevoked_eq (s : Station) : s.takeRevoked =
    ((s.backToLine.withdrawDeckStop.removeDeckEntry s.passage.turntable).withPassage
      { clearsOwed := s.backToLine.withdrawDeckStop.passage.clearsOwed }) := rfl

/-! ## The end of an order (R116) -/

/-- The record of an order that ends, with the lift operation and the attempt that end with it (R116, R142). -/
def Station.ended (s : Station) (st : OrderState) (r : Reason) : Station :=
  ((s.withOrder { s.order with
    state := st, reason := r, resume := none, haltOperator := false, haltLine := false, blocked := false
    waitStart := none, legStop := none, aboardStart := false }).withLift { s.lift with operation := .none }).giveUpAttempt

/-- An ending: its record, and else claims alone. -/
theorem Station.bare_endOrder (s : Station) (st : OrderState) (r : Reason) :
    (s.endOrder st r).bare = (s.ended st r).openPark.bare := by
  have hopen : ∀ x : Station, x.openPark.bare = x.bare.openPark := fun _ => rfl
  unfold Station.endOrder
  rw [hopen, hopen, Station.bare_clearWait, Station.bare_setReserve, Station.bare_releaseAhead]
  rfl

theorem Station.pos_ended (s : Station) (st : OrderState) (r : Reason) : (s.ended st r).pos = s.pos := by
  unfold Station.ended Station.giveUpAttempt
  split <;> rfl

theorem Station.passage_ended (s : Station) (st : OrderState) (r : Reason) : (s.ended st r).passage = s.passage := by
  unfold Station.ended Station.giveUpAttempt
  split <;> rfl

theorem Station.pos_endOrder (s : Station) (st : OrderState) (r : Reason) : (s.endOrder st r).pos = s.pos := by
  have h := Station.field_of_bare (s := (s.ended st r).openPark) (·.pos) (fun _ => rfl) (s.bare_endOrder st r)
  exact h.trans (s.pos_ended st r)

theorem Station.passageState_endOrder (s : Station) (st : OrderState) (r : Reason) :
    (s.endOrder st r).passage.state = s.passage.state := by
  have h := Station.field_of_bare (s := (s.ended st r).openPark) (·.passage.state) (fun _ => rfl) (s.bare_endOrder st r)
  exact h.trans (congrArg Passage.state (s.passage_ended st r))

theorem Station.dropApproach_keeps (s : Station) : s.dropApproach.pos = s.pos ∧ s.dropApproach.passage = s.passage ∧
    s.dropApproach.ends = s.ends ∧ s.dropApproach.appr = { s.appr with state := .none, attempts := 0 } :=
  ⟨rfl, rfl, rfl, rfl⟩

/-! ## NOT-CENTRED, and a failed attempt (R141, R170) -/

theorem Station.startAttempt_spec (s : Station) :
    s.startAttempt.appr = { s.appr with state := .attempt, attempts := s.appr.attempts + 1, docked := false, dockedPad := none } ∧
    s.startAttempt.env.finalStop = some s.appr.stop ∧ s.startAttempt.passage = s.passage ∧
    ∃ d, s.startAttempt.pos = { s.pos with dir := d } := by
  have hturn : ∀ (x : Station) d, (x.requestDirection d).env.finalStop = x.env.finalStop ∧
      ∃ d', (x.requestDirection d).pos = { x.pos with dir := d' } := fun x d => by
    unfold Station.requestDirection
    split
    · exact ⟨rfl, _, rfl⟩
    · split
      · exact ⟨rfl, _, rfl⟩
      · exact ⟨rfl, _, rfl⟩
  unfold Station.startAttempt
  dsimp only
  split
  · obtain ⟨hf, hp⟩ := hturn (Station.withEnv _ _) .up
    refine ⟨?_, hf, ?_, hp⟩ <;> rw [Station.requestDirection_eq] <;> rfl
  · split
    · obtain ⟨hf, hp⟩ := hturn (Station.withEnv _ _) .down
      refine ⟨?_, hf, ?_, hp⟩ <;> rw [Station.requestDirection_eq] <;> rfl
    · exact ⟨rfl, rfl, rfl, _, rfl⟩

theorem Station.failAttempt_spec (s : Station) : s.failAttempt.passage.state = s.passage.state ∧
    (∃ d, s.failAttempt.pos = { s.pos with dir := d }) ∧
    (s.appr.attempts < 3 → s.failAttempt.appr.state = .attempt ∧ s.failAttempt.appr.attempts = s.appr.attempts + 1 ∧
      s.failAttempt.env.finalStop = some s.appr.stop) ∧
    (3 ≤ s.appr.attempts → s.failAttempt.appr.state = .none ∧ s.failAttempt.appr.attempts = 0 ∧
      (s.order.state.active = true →
        s.failAttempt.ends = (.failed, if s.appr.kind = .deck then .turntable else .dock))) := by
  unfold Station.failAttempt
  split
  · next h =>
    obtain ⟨happr, hfinal, hpass, hpos⟩ := s.startAttempt_spec
    exact ⟨congrArg Passage.state hpass, hpos, fun _ => ⟨by rw [happr], by rw [happr], hfinal⟩, fun h3 => absurd h (by omega)⟩
  · next h =>
    split
    · obtain ⟨hpos, hpass, hends, happr⟩ :=
        (s.endOrder .failed (if s.appr.kind = .deck then .turntable else .dock)).dropApproach_keeps
      rw [hpos, hpass, hends, happr, Station.pos_endOrder, Station.passageState_endOrder, Station.ends_endOrder]
      exact ⟨rfl, ⟨s.pos.dir, rfl⟩, fun h3 => absurd h3 h, fun _ => ⟨rfl, rfl, fun _ => rfl⟩⟩
    · next ha =>
      obtain ⟨hpos, hpass, -, happr⟩ := s.dropApproach_keeps
      rw [hpos, hpass, happr]
      exact ⟨rfl, ⟨s.pos.dir, rfl⟩, fun h3 => absurd h3 h, fun _ => ⟨rfl, rfl, fun h => absurd h ha⟩⟩

/-- Settles O28. -/
theorem otherTurnAnswersAreTaken : Obligations.OtherTurnAnswersAreTaken := by
  intro dt arm h s hs hcar v back
  have hv : v.pos = s.station.pos ∧ v.map = s.station.map ∧ v.passage = s.station.passage ∧ v.appr = s.station.appr ∧
      v.order = s.station.order ∧ v.env = s.station.env ∧ v.backing = s.station.backing := by simp [v]
  obtain ⟨hpos, hmap, hpass, happr, horder, henv, hback⟩ := hv
  refine ⟨fun c hc => ?_, fun hst => ?_, fun hst => ?_, fun hst c hc => ?_⟩
  · have hex : exec c s = .next (s.settled dt (v.setRetry h.src) .frame) := by
      obtain rfl | rfl := hc
      · dsimp only [exec, execTurnAnswerRefusedFull]
        exact State.takeAnswer_eq dt _ hs hcar
      · dsimp only [exec, execTurnAnswerFault]
        exact State.takeAnswer_eq dt _ hs hcar
    refine ⟨fun p hst hp => ⟨_, ?_, rfl, by simp [v]⟩, fun hst => ⟨_, ?_, rfl, by simp [v]⟩⟩
    · rw [hex]
      unfold Station.setRetry
      rw [if_pos (by rw [hpass, hst]), hpass, hp]
      simp [v]
    · rw [hex]
      unfold Station.setRetry
      rw [if_neg (by rw [hpass]; exact hst)]
  · intro u served
    have hserved : v.backToLine.legKeepsPassage = true ↔ served := by
      rw [Station.legKeepsPassage_iff, Station.backToLine_eq]
      simp only [Station.withPos_order, Station.withPos_passage, Station.withPos_map, hpass, hmap, horder]
      rfl
    have hnear : v.backToLine.nearsDeck = true ↔
        s.station.appr.state = .aboardAsked ∨ (served ∧ s.station.backing = none) := by
      rw [Station.nearsDeck_iff, hserved, Station.backToLine_eq]
      simp only [Station.withPos_appr, Station.withPos_backing, happr, hback]
    obtain ⟨hgo, hstay, hnearly, hfar, hwpos, hwmap⟩ := v.backToLine.withdrawDeckStop_spec
    have hex : exec (.turnAnswerRevoked dt h s.station.par.station arm) s = .next (s.settled dt u .frame) := by
      dsimp only [exec, execTurnAnswerRevoked]
      rw [State.takeAnswer_eq dt _ hs hcar, if_neg (by
        rw [Station.uncalledFor_iff, show ((s.old dt).heard h.src h.role .turnAnswer).passage = _ from hpass]
        obtain h | h := hst <;> simp [h]), if_pos (by
        rw [show ((s.old dt).heard h.src h.role .turnAnswer).passage = _ from hpass]
        obtain h | h := hst <;> simp [h])]
    have hentries : u.claims.entries = v.backToLine.withdrawDeckStop.claims.entries.filter fun e =>
        !(e.purpose = .deck && s.station.map.deckSegment s.station.passage.turntable = some e.seg) := by
      have hm : v.backToLine.withdrawDeckStop.map = s.station.map := by
        rw [hwmap, Station.backToLine_eq]
        exact hmap
      rw [← hm, ← hpass]
      rfl
    refine ⟨hex, rfl, ?_, ?_, fun h => hgo (hserved.2 h), fun h => ?_, fun h => ?_, fun h1 h2 => ?_, fun n hn e he hne => ?_⟩
    · change v.backToLine.withdrawDeckStop.pos.frame = _
      rw [hwpos, v.backToLine_pos.1, hpos]
    · change v.backToLine.withdrawDeckStop.pos.centre = _
      rw [hwpos, v.backToLine_pos.2, hpos]
    · refine (hstay (Bool.eq_false_iff.2 fun hk => h (hserved.1 hk))).trans ?_
      rw [Station.backToLine_eq]
      exact horder
    · obtain ⟨h1, h2⟩ := hnearly (hnear.2 h)
      have hu : u.appr = { s.station.appr with state := .none, attempts := 0 } := by
        refine h1.trans ?_
        rw [Station.backToLine_eq, Station.withPos_appr, happr]
      have hue : u.env = { s.station.env with
          handedOn := false
          finalStop := if s.station.appr.state = .attempt then none else s.station.env.finalStop } := by
        refine h2.trans ?_
        rw [Station.backToLine_eq, ← happr, ← henv]
        rfl
      rw [hu, hue]
      exact ⟨rfl, rfl, rfl, rfl⟩
    · obtain ⟨h3, h4⟩ := hfar (Bool.eq_false_iff.2 fun hk => (hnear.1 hk).elim h1 h2)
      refine ⟨h3.trans ?_, h4.trans ?_⟩
      · rw [Station.backToLine_eq]
        exact happr
      · rw [Station.backToLine_eq]
        exact henv
    · rw [hentries] at he
      obtain ⟨-, hkept⟩ := List.mem_filter.1 he
      simp [hne.1, hne.2, hn] at hkept
  · intro u
    have hex : exec (.turnAnswerNotCentred dt h s.station.par.station arm) s = .next (s.settled dt u .frame) := by
      dsimp only [exec, execTurnAnswerNotCentred]
      rw [State.takeAnswer_eq dt _ hs hcar]
      rw [show (s.old dt).heard h.src h.role .turnAnswer = v from rfl, if_neg (by rw [Station.uncalledFor_iff, hpass, hst]; decide), if_pos (by rw [hpass, hst])]
    have hx : (v.backToLine.setPassageState .granted).appr = s.station.appr := by
      rw [Station.backToLine_eq]
      exact happr
    have hxo : (v.backToLine.setPassageState .granted).order = s.station.order := by
      rw [Station.backToLine_eq]
      exact horder
    have hxp : (v.backToLine.setPassageState .granted).pos = v.backToLine.pos := rfl
    have hu : u = if s.station.appr.state = .aboardAsked then (v.backToLine.setPassageState .granted).failAttempt
        else v.backToLine.setPassageState .granted := by
      rw [← hx]
      rfl
    obtain ⟨hframe, hcentre⟩ := v.backToLine_pos
    rw [hpos] at hframe hcentre
    obtain ⟨hfpass, ⟨d, hfpos⟩, htry, hgive⟩ := (v.backToLine.setPassageState .granted).failAttempt_spec
    rw [hx] at htry hgive
    rw [hxo] at hgive
    by_cases ha : s.station.appr.state = .aboardAsked
    · rw [if_pos ha] at hu
      rw [hu] at hex ⊢
      refine ⟨hex, hfpass, ?_, ?_, fun _ h3 => htry h3, fun _ h3 => ?_, fun h => absurd ha h⟩
      · rw [hfpos]
        exact hframe
      · rw [hfpos]
        exact hcentre
      · obtain ⟨h1, h2, h4⟩ := hgive h3
        refine ⟨h1, h2, fun hk hact => ?_⟩
        have hends := h4 hact
        rw [if_pos hk] at hends
        exact ⟨congrArg Prod.fst hends, congrArg Prod.snd hends⟩
    · rw [if_neg ha] at hu
      rw [hu] at hex ⊢
      exact ⟨hex, rfl, hframe, hcentre, fun h => absurd h ha, fun h => absurd h ha, fun _ => ⟨hx, hxo⟩⟩
  · have hbad : ∀ act : Station → Station, s.takeAnswer dt h s.station.par.station
        (fun x => if x.uncalledFor then x.countBad else act x) = .next (s.settled dt v.countBad .frame) := fun act => by
      rw [State.takeAnswer_eq dt _ hs hcar, if_pos ((Station.uncalledFor_iff _).2 (hpass.symm ▸ hst))]
    have hex : exec c s = .next (s.settled dt v.countBad .frame) := by
      obtain rfl | rfl := hc
      · exact hbad _
      · exact hbad _
    exact ⟨_, hex, rfl, by simp [Station.countBad_eq, v]⟩

end Sys2Proof.Machine
end

section
/-! PROOFS. A GRANT to the carriage's side of a passage (R76, R85, R109, R169). -/

namespace Sys2Proof.Machine

/-! ## The deck centre given again (R109) -/

theorem Station.regiveDeckStop_keeps (s : Station) :
    s.regiveDeckStop.claims = s.claims ∧ s.regiveDeckStop.passage = s.passage := by
  unfold Station.regiveDeckStop
  split
  · split
    · split <;> exact ⟨rfl, rfl⟩
    · exact ⟨rfl, rfl⟩
  · exact ⟨rfl, rfl⟩

theorem Station.regiveDeckStop_given {s : Station} {l : Nat} {d : Dir} {t e : Nat}
    (hg : s.order.leg? = some ⟨l, d, .turntable t e⟩) (ha : s.order.state.active = true) (hs : s.order.legStop = none)
    (hb : s.order.aboardStart = false) :
    s.regiveDeckStop = if s.backing.isSome then s.setLegStop ⟨l, d, .turntable t e⟩ else s.giveStop ⟨l, d, .turntable t e⟩ := by
  unfold Station.regiveDeckStop
  rw [hg]
  exact if_pos (by simp [ha, hs, hb])

/-! ## GRANT (R76, R169) -/

theorem Station.makeDeckEntry_eq {s : Station} {t n : Nat} (h : s.map.deckSegment t = some n) :
    s.makeDeckEntry t = if s.claims.lists n = true then (s, true)
      else if s.claims.entries.length < 8 then (s.setEntries (s.claims.entries ++
        [{ seg := n, state := .held, purpose := .deck, wonTime := some s.ms }]), true)
      else (s, false) := by
  unfold Station.makeDeckEntry
  rw [h]

/-- The passage with its DECK entry made, before the grant is acted on. -/
def Station.deckMade (s : Station) : Station :=
  (s.setReserve false).withPassage { s.passage with retryDue := none, askOwed := false }

/-- A GRANT for which the DECK entry stands or finds room (R169). -/
theorem Station.takeGrant_made {s x : Station} (h : s.makeDeckEntry s.passage.turntable = (x, true)) :
    s.takeGrant = if x.pos.frame = .deck then x.deckMade.sendAboard
      else (x.deckMade.setPassageState .granted).regiveDeckStop := by
  unfold Station.takeGrant
  rw [h]
  rfl

/-- A GRANT without room for the DECK entry (R169). -/
theorem Station.takeGrant_full {s : Station} (h : s.makeDeckEntry s.passage.turntable = (s, false)) :
    s.takeGrant = ((s.clearTo s.passage.turntable).setReserve false).endPassage := by
  unfold Station.takeGrant
  rw [h]

theorem Station.queues_enqueue (s : Station) (q : List QueueItem) (f : OutFrame) : (s.setQueue (enqueue q f)).queues f :=
  ⟨{ frame := f }, mem_enqueue _ _, rfl⟩

theorem Station.clearTo_room {s : Station} (t : Nat) (h : s.line.queue.length < 8) :
    s.clearTo t = s.setQueue (enqueue s.line.queue (.turnClear t)) := by
  unfold Station.clearTo Station.sendClear
  rw [Station.offer_room _ h]

theorem Station.sendAboard_room {s : Station} (h : s.line.queue.length < 8) :
    s.sendAboard = (s.withPassage { s.passage with state := .aboardSent, aboardTime := none }).setQueue
      (enqueue s.line.queue (.turnAboard s.passage.turntable)) := by
  unfold Station.sendAboard
  rw [Station.send_room _ (by exact h)]
  rfl

/-- What a GRANT with its DECK entry made leaves (R109, R169). -/
theorem Station.takeGrant_spec {s x : Station} (h : s.makeDeckEntry s.passage.turntable = (x, true))
    (hq : x.line.queue.length < 8) :
    s.takeGrant.claims = { x.claims with deckReserve := false } ∧ s.takeGrant.passage.retryDue = none ∧
    (x.pos.frame ≠ .deck → s.takeGrant.passage.state = .granted ∧
      ∀ l d t e, x.order.leg? = some ⟨l, d, .turntable t e⟩ → x.order.state.active = true → x.order.legStop = none →
        x.order.aboardStart = false → s.takeGrant.order.legStop = x.deckCentreOf ⟨l, d, .turntable t e⟩ ∧
        (x.backing = none → s.takeGrant.appr = {} ∧ s.takeGrant.env.handedOn = false) ∧
        (x.backing ≠ none → s.takeGrant.appr = x.appr ∧ s.takeGrant.env = x.env)) ∧
    (x.pos.frame = .deck → s.takeGrant.passage.state = .aboardSent ∧
      s.takeGrant.queues (.turnAboard x.passage.turntable)) := by
  rw [Station.takeGrant_made h]
  by_cases hf : x.pos.frame = .deck
  · rw [if_pos hf, Station.sendAboard_room (s := x.deckMade) hq]
    exact ⟨rfl, rfl, fun h => absurd hf h, fun _ => ⟨rfl, Station.queues_enqueue _ _ _⟩⟩
  · rw [if_neg hf]
    obtain ⟨hclaims, hpass⟩ := (x.deckMade.setPassageState .granted).regiveDeckStop_keeps
    refine ⟨by rw [hclaims]; rfl, by rw [hpass]; rfl, fun _ => ⟨by rw [hpass]; rfl, fun l d t e hg ha hs hb => ?_⟩,
      fun h => absurd h hf⟩
    have hgive := Station.regiveDeckStop_given (s := x.deckMade.setPassageState .granted) hg ha hs hb
    have hbacking : (x.deckMade.setPassageState .granted).backing = x.backing := rfl
    rw [hbacking] at hgive
    cases hk : x.backing with
    | none =>
      rw [hk] at hgive
      rw [hgive]
      exact ⟨rfl, fun _ => ⟨rfl, rfl⟩, fun h => absurd rfl h⟩
    | some b =>
      rw [hk] at hgive
      rw [hgive]
      exact ⟨rfl, fun h => (nomatch h), fun _ => ⟨rfl, rfl⟩⟩

/-- Settles O26. -/
theorem grantOpensThePassage : Obligations.GrantOpensThePassage := by
  intro dt arm h s hs hcar hroom v
  have hv : v.pos = s.station.pos ∧ v.map = s.station.map ∧ v.passage = s.station.passage ∧ v.appr = s.station.appr ∧
      v.order = s.station.order ∧ v.env = s.station.env ∧ v.backing = s.station.backing ∧ v.claims = s.station.claims := by
    simp [v]
  obtain ⟨hpos, hmap, hpass, happr, horder, henv, hback, hclaims⟩ := hv
  have hq : v.line.queue.length < 8 := by simpa [v] using hroom
  have hms : v.ms = (s.old dt).ms := by simp [v]
  have hex : exec (.turnAnswerGrant dt h s.station.par.station arm) s = .next (s.settled dt
      (if s.station.passage.state = .asked ∧ arm = s.station.passage.entryArm ∧ v.servesPassage h.src = true then v.takeGrant
      else v.clearTo (v.peer h.src).turntableId) .frame) := by
    dsimp only [exec, execTurnAnswerGrant]
    rw [State.takeAnswer_eq dt _ hs hcar, show (s.old dt).heard h.src h.role .turnAnswer = v from rfl, hpass]
    simp only [Bool.and_eq_true, decide_eq_true_eq, and_assoc]
  refine ⟨fun hst harm hserve => ⟨?_, fun n hn => ?_⟩, fun hno => ⟨?_, ?_⟩⟩
  · rw [hex, if_pos ⟨hst, harm, hserve⟩]
  · have hmake := Station.makeDeckEntry_eq (s := v) (t := v.passage.turntable) (n := n) (by rw [hmap, hpass]; exact hn)
    rw [hclaims, hms] at hmake
    have hmade : s.station.claims.lists n = true ∨ s.station.claims.entries.length < 8 →
        ∃ c, v.makeDeckEntry v.passage.turntable = (v.withClaims c, true) ∧
          c.entries = if s.station.claims.lists n = true then s.station.claims.entries else s.station.claims.entries ++
            [{ seg := n, state := .held, purpose := .deck, wonTime := some (s.old dt).ms }] := by
      intro hr
      rw [hmake]
      by_cases hl : s.station.claims.lists n = true
      · rw [if_pos hl]
        exact ⟨v.claims, rfl, by rw [if_pos hl, hclaims]⟩
      · rw [if_neg hl, if_pos (hr.resolve_left hl)]
        exact ⟨_, rfl, by rw [if_neg hl]⟩
    have hgrant : s.station.claims.lists n = true ∨ s.station.claims.entries.length < 8 →
        v.takeGrant.claims.entries = if s.station.claims.lists n = true then s.station.claims.entries else
          s.station.claims.entries ++
            [{ seg := n, state := .held, purpose := .deck, wonTime := some (s.old dt).ms }] := fun hr => by
      obtain ⟨c, hc, hentries⟩ := hmade hr
      rw [(Station.takeGrant_spec hc hq).1]
      exact hentries
    refine ⟨fun hl => ?_, fun hl hlen => ?_, fun hr => ?_, fun hlen hl => ?_⟩
    · rw [hgrant (.inl hl), if_pos hl]
    · rw [hgrant (.inr hlen), if_neg (by simp [hl])]
    · obtain ⟨c, hc, -⟩ := hmade hr
      obtain ⟨hreserve, hretry, hline, hdeck⟩ := Station.takeGrant_spec hc hq
      refine ⟨by rw [hreserve], hretry, fun hf => ?_, fun hf => ?_⟩
      · obtain ⟨hgranted, hgive⟩ := hline (by rw [Station.withClaims_pos, hpos]; exact hf)
        refine ⟨hgranted, fun l d t e hg ha hs hb => ?_⟩
        rw [Station.withClaims_order, horder, Station.withClaims_backing, hback, Station.withClaims_appr, happr,
          Station.withClaims_env, henv] at hgive
        obtain ⟨hstop, hnone, hsome⟩ := hgive l d t e hg ha hs hb
        refine ⟨hstop.trans ?_, hnone, hsome⟩
        unfold Station.deckCentreOf
        rw [Station.withClaims_map, hmap]
      · rw [Station.withClaims_pos, hpos, Station.withClaims_passage, hpass] at hdeck
        exact hdeck hf
    · rw [if_neg (by simp [hl]), if_neg (by omega)] at hmake
      rw [Station.takeGrant_full hmake, Station.clearTo_room _ hq, hpass]
      refine ⟨rfl, Station.queues_enqueue _ _ _, ?_⟩
      rw [← hclaims]
      rfl
  · rw [hex, if_neg]
    rintro ⟨h1, h2, h3⟩
    obtain h | h | h := hno
    · exact h h1
    · exact h h2
    · rw [h3] at h
      cases h
  · rw [Station.clearTo_room _ hq]
    exact ⟨Station.queues_enqueue _ _ _, hpass, hclaims⟩

end Sys2Proof.Machine
end

section
/-! PROOFS. TURN-ASK, TURN-ABOARD and TURN-CLEAR at the turntable they name (R155, R156, R161, R162, R164). -/

namespace Sys2Proof.Machine

/-- A passage frame that names this turntable is heard and then acted on (R155, R177). -/
theorem State.atTurntable_eq {s : State} {h : FrameHead} (dt : Nat) {k : FrameKind} (hk : k ≠ .order)
    (act : Station → Station) (hs : s.hears h.src) (htt : s.station.isCarriage = false) :
    (s.reactWith dt .frame fun u => u.receive h.src h.role k fun v => v.atTurntable s.station.par.turntable act) =
      .next (s.settled dt (act ((s.old dt).heard h.src h.role k)) .frame) := by
  rw [State.reactWith_eq, (State.receive_peer dt h.role hk _ hs).1]
  unfold Station.atTurntable
  rw [if_pos (by simp [htt])]

theorem Station.any_holder (s : Station) (p : Nat) :
    (s.tt.holder.any fun h => h.station = p) = true ↔ ∃ x, s.tt.holder = some x ∧ x.station = p := by
  cases s.tt.holder <;> simp

theorem Station.any_queue (s : Station) (p : Nat) :
    (s.tt.queue.any fun r => r.station = p) = true ↔ p ∈ s.tt.queue.map (·.station) := by
  simp [List.any_eq_true]

/-- TURN-ASK of a carriage that is not the holder, over two arms that are present (R155). -/
theorem Station.takeAskFrame_eq {s : Station} {p a e : Nat} (hph : s.start.phase = .ready) (ha : s.armPresent a = true)
    (he : s.armPresent e = true) (hne : a ≠ e) (hh : ∀ x, s.tt.holder = some x → x.station ≠ p) :
    s.takeAskFrame p .carriage a e =
      if p ∈ s.tt.queue.map (·.station) then
        s.withTt { s.tt with queue := s.tt.queue.map fun r =>
          if r.station = p then { r with entryArm := a, exitArm := e } else r }
      else if s.tt.deck = .fault ∨ s.line.fault = true then s.turnAnswer p .fault s.tt.aligned
      else if 8 ≤ s.tt.queue.length then s.turnAnswer p .refusedFull s.tt.aligned
      else s.withTt { s.tt with queue := s.tt.queue ++ [⟨p, a, e, s.ms⟩] } := by
  unfold Station.takeAskFrame
  rw [if_neg (by simp [hph]), if_neg (by simp [ha, he, hne]), if_neg (by
    rw [Station.any_holder]
    rintro ⟨x, hx, hxp⟩
    exact hh x hx hxp)]
  simp only [Station.any_queue, Bool.or_eq_true, decide_eq_true_eq, Config.places]

/-- An answer of the turntable leaves its queue and its deck. -/
theorem Station.turnAnswer_tt (s : Station) (p : Nat) (k : TurnAnswer) (a : Nat) :
    (s.turnAnswer p k a).tt = { s.tt with retryTime := (s.turnAnswer p k a).tt.retryTime } := Station.send_tt s _

/-- With room in the queue an answer touches the queue alone. -/
theorem Station.turnAnswer_room {s : Station} (p : Nat) (k : TurnAnswer) (a : Nat) (h : s.line.queue.length < 8) :
    (s.turnAnswer p k a).tt = s.tt ∧ (s.turnAnswer p k a).queues (.turnAnswer p k a) := by
  unfold Station.turnAnswer
  rw [Station.send_room _ h]
  exact ⟨rfl, Station.queues_enqueue _ _ _⟩

/-- Settles O25. -/
theorem passageFramesMoveTheDeck : Obligations.PassageFramesMoveTheDeck := by
  intro dt h s hs htt hroom
  have hv : ∀ k, ((s.old dt).heard h.src h.role k).tt = s.station.tt ∧
      ((s.old dt).heard h.src h.role k).line.queue.length < 8 := fun k => by simpa using hroom
  refine ⟨fun a e hph hrole ha he hne hh => ?_, ?_, ?_⟩
  · intro u
    have hq := (hv .turnAsk).2
    have hu := Station.takeAskFrame_eq (s := (s.old dt).heard h.src h.role .turnAsk) (p := h.src) (a := a) (e := e)
      (by simp [hph]) (by simpa [Station.armPresent] using ha) (by simpa [Station.armPresent] using he) hne (by simpa using hh)
    rw [(hv .turnAsk).1, Station.heard_line_fault, State.old_line, Station.heard_ms, ← hrole] at hu
    have hu : u = _ := hu
    have hanswer : ∀ k, u = ((s.old dt).heard h.src h.role .turnAsk).turnAnswer h.src k s.station.tt.aligned →
        u.tt.queue = s.station.tt.queue ∧ u.queues (.turnAnswer h.src k s.station.tt.aligned) := fun k hk => by
      obtain ⟨h1, h2⟩ := Station.turnAnswer_room h.src k s.station.tt.aligned hq
      rw [hk, h1]
      exact ⟨congrArg Turntable.queue (hv .turnAsk).1, h2⟩
    refine ⟨?_, fun hnq hdeck hfault => ⟨fun hlen => ?_, fun hlen => ?_⟩, fun hnq hf => ?_, fun hin => ?_⟩
    · dsimp only [exec, execTurnAskReceived]
      exact State.atTurntable_eq dt (by decide) _ hs htt
    · rw [if_neg hnq, if_neg (by simp [hdeck, hfault]), if_neg (by omega)] at hu
      rw [hu]
      rfl
    · rw [if_neg hnq, if_neg (by simp [hdeck, hfault]), if_pos hlen] at hu
      exact hanswer _ hu
    · rw [if_neg hnq, if_pos hf] at hu
      exact hanswer _ hu
    · rw [if_pos hin] at hu
      rw [hu]
      rfl
  · intro u
    obtain ⟨htt', hq⟩ := hv .turnAboard
    have hu : u = Station.takeAboardFrame _ _ := rfl
    unfold Station.takeAboardFrame at hu
    rw [htt', Station.heard_inputs_deckCentred, State.old_inputs] at hu
    refine ⟨?_, fun x hx hxs hdeck => ⟨fun hc => ?_, fun hc => ?_⟩, fun hno => ?_⟩
    · dsimp only [exec, execTurnAboardReceived]
      exact State.atTurntable_eq dt (by decide) _ hs htt
    · simp only [hx, hxs, hdeck, hc, ne_eq, not_true, if_false, if_true] at hu
      rw [hu]
      exact ⟨rfl, rfl, rfl, by simp⟩
    · simp only [hx, hxs, hdeck, hc, ne_eq, not_true, if_false, if_true, Bool.false_eq_true] at hu
      obtain ⟨h1, h2⟩ := Station.turnAnswer_room h.src .notCentred x.entryArm hq
      rw [hu, h1]
      exact ⟨htt', h2⟩
    · obtain ⟨h1, h2⟩ := Station.turnAnswer_room h.src .revoked s.station.tt.aligned hq
      have hrevoked : u = ((s.old dt).heard h.src h.role .turnAboard).turnAnswer h.src .revoked s.station.tt.aligned := by
        cases hx : s.station.tt.holder with
        | none => simpa only [hx] using hu
        | some x => simpa only [hx, ne_eq, hno x hx, not_false_eq_true, if_true] using hu
      rw [hrevoked, h1]
      exact ⟨htt', h2⟩
  · intro u
    obtain ⟨htt', -⟩ := hv .turnClear
    have hu : u = Station.takeClearFrame _ _ := rfl
    unfold Station.takeClearFrame at hu
    simp only [Station.any_holder, htt', Station.heard_inputs_deckClear, State.old_inputs] at hu
    refine ⟨?_, fun x hx hxs => ?_, fun hno => ?_⟩
    · dsimp only [exec, execTurnClearReceived]
      exact State.atTurntable_eq dt (by decide) _ hs htt
    · rw [if_pos ⟨x, hx, hxs⟩] at hu
      refine ⟨fun hd hc => ?_, fun hd hc => ?_, fun hd => ?_, fun hd => ?_, fun hd => ?_⟩
      · simp only [hd, hc, if_true] at hu
        rw [hu]
        exact ⟨rfl, rfl, rfl, rfl⟩
      · simp only [hd, hc, Bool.false_eq_true, if_false] at hu
        rw [hu]
        exact ⟨rfl, rfl, by simp⟩
      · simp only [hd] at hu
        rw [hu]
        exact ⟨rfl, rfl⟩
      · simp only [hd] at hu
        rw [hu]
        split
        · exact ⟨rfl, rfl, rfl⟩
        · exact ⟨rfl, rfl, hx⟩
      · have hsame : u = (s.old dt).heard h.src h.role .turnClear := by
          obtain hd | hd | hd := hd <;> simpa only [hd] using hu
        rw [hsame, htt']
    · rw [if_neg (by rintro ⟨x, hx, hxs⟩; exact hno x hx hxs)] at hu
      rw [hu]
      unfold Station.unqueue
      rw [htt']
      exact ⟨by simp, rfl⟩

end Sys2Proof.Machine
end

section
/-! PROOFS. CLAIM and YIELD-ASK of a peer at the own claim list (R60, R62, R70, R71, R128, R129, R134). -/

namespace Sys2Proof.Machine

/-! ## A claim abandoned (R62, R65) -/

theorem Station.claims_tell (s : Station) (a : Asker) (n : Nat) (t : Told) : (s.tell a n t).claims = s.claims := by
  have hmark : ∀ f, (s.markPopped n f).claims = s.claims := fun f => by
    unfold Station.markPopped
    split <;> rfl
  have hretry : s.retryBodyClaim.claims = s.claims := by
    unfold Station.retryBodyClaim
    split <;> rfl
  have hstart : ∀ x : Station, x.claims = s.claims → (if s.start.phase = .bodyClaim then x else s).claims = s.claims :=
    fun x hx => by
      split
      · exact hx
      · rfl
  unfold Station.tell
  split
  · exact hstart _ rfl
  · exact hstart _ hretry
  · exact hstart _ hretry
  · rfl
  · exact hmark _
  · exact hmark _
  · rfl
  · rfl

/-- An abandoned claim leaves the list with its group, and counts as one loss but under the drop mark (R62, R65, R68). -/
theorem Station.claims_abandon (s : Station) (e : ClaimEntry) : (s.abandon e).claims = { s.claims with
    entries := s.claims.entries.filter fun x => !e.groupedWith x
    waitCount := if e.drop then s.claims.waitCount else bump 15 s.claims.waitCount } := by
  unfold Station.abandon
  cases e.drop with
  | true =>
    rw [if_pos rfl, Station.claims_tell]
    rfl
  | false =>
    rw [if_neg (by decide), Station.claims_tell]
    rfl

/-- No entry is left for the segment of a claim that goes with its group. -/
theorem find?_ungrouped (l : List ClaimEntry) (e : ClaimEntry) :
    (l.filter fun x => !e.groupedWith x).find? (·.seg = e.seg) = none := by
  simp only [List.find?_eq_none, List.mem_filter, decide_eq_true_eq]
  rintro x ⟨-, hx⟩ hseg
  simp [ClaimEntry.groupedWith, hseg] at hx

theorem Station.object_room {s : Station} (n : Nat) (k : Objection) (r : Rank) (p : Nat) (h : s.line.queue.length < 8) :
    (s.object n k r p).queues (.object n k r p) ∧ (s.object n k r p).claims = s.claims ∧
    (s.object n k r p).order = s.order := by
  unfold Station.object
  rw [Station.send_room _ h]
  exact ⟨Station.queues_enqueue _ _ _, rfl, rfl⟩

/-! ## A CLAIM for a segment of the own list (R60) -/

/-- How a CLAIM for a segment in the own list is answered (R60). -/
theorem Station.answerClaim_eq {s : Station} {p seg : Nat} {rank : Rank} {g : SegmentSlot} {e : ClaimEntry}
    (hg : s.map.segment? seg = some g) (hk : g.kind ≠ .deck) (he : s.claims.entry? seg = some e) :
    s.answerClaim p seg rank = if e.holding = true then s.object seg .holds s.plainRank p
      else if e.drop = true then s.abandon e
      else if outranks (s.entryRank e) s.par.station rank p = true then s.object seg .outranks (s.entryRank e) p
      else s.abandon e := by
  unfold Station.answerClaim
  rw [if_neg (by simp [hg, hk]), he]

/-- A peer's frame with its sender's entry changed: all but peers, inputs and the line watch stands as it was. -/
theorem State.heard_mapPeer_fields {s : State} (dt : Nat) (h : FrameHead) (k : FrameKind) (f : PeerEntry → PeerEntry) :
    let v := ((s.old dt).heard h.src h.role k).mapPeer h.src f
    v.claims = s.station.claims ∧ v.map = s.station.map ∧ v.par = s.station.par ∧ v.order = s.station.order ∧
    v.line.queue = s.station.line.queue ∧ v.pos = s.station.pos ∧ v.ms = (s.old dt).ms := by
  intro v
  have hv : v = ((s.old dt).heard h.src h.role k).withPeers v.peers := Station.mapPeer_eq _ _ _
  rw [hv]
  refine ⟨by simp, by simp, by simp, by simp, by simp, by simp, ?_⟩
  exact Station.heard_ms _ _ _ _

/-- Settles O14. -/
theorem claimMeetsOwnEntry : Obligations.ClaimMeetsOwnEntry := by
  intro dt h seg tag rank g e s hs hg hk he hroom v u own
  obtain ⟨hclaims, hmap, hpar, -, hqueue, -⟩ := State.heard_mapPeer_fields (s := s) dt h .claim
    fun x => x.takeClaim s.station.map seg rank ((s.old dt).ms + s.station.par.window)
  have hu : u = _ := Station.answerClaim_eq (s := v) (p := h.src) (rank := rank) (by rw [hmap]; exact hg) hk
    (by rw [hclaims]; exact he)
  have hq : v.line.queue.length < 8 := by rw [hqueue]; exact hroom
  have hplain : v.plainRank = ⟨s.station.claims.waitCount, false⟩ := by
    unfold Station.plainRank
    rw [hclaims]
  have hrank : v.entryRank e = own := by
    unfold Station.entryRank
    rw [hclaims]
  rw [hplain, hrank, hpar] at hu
  have hseg : e.seg = seg := by simpa using List.find?_some he
  refine ⟨?_, fun hh => ?_, fun hh hd ho => ?_, fun hh hd ho => ?_⟩
  · dsimp only [exec, execClaimReceived]
    rw [State.reactWith_eq, (State.receive_peer dt h.role (by decide) _ hs).1]
    simp [u, v]
  · rw [if_pos hh] at hu
    obtain ⟨h1, h2, -⟩ := Station.object_room seg .holds ⟨s.station.claims.waitCount, false⟩ h.src hq
    rw [hu]
    exact ⟨h1, h2.trans hclaims⟩
  · rw [if_neg (by simp [hh]), if_neg (by simp [hd]), if_pos ho] at hu
    obtain ⟨h1, h2, -⟩ := Station.object_room seg .outranks own h.src hq
    rw [hu]
    exact ⟨h1, h2.trans hclaims⟩
  · rw [if_neg (by simp [hh]), if_neg (by simp [hd]), if_neg (by simp [ho])] at hu
    rw [hu, Station.claims_abandon, hclaims, hd, ← hseg]
    exact ⟨rfl, find?_ungrouped _ e, rfl⟩

/-! ## YIELD-ASK (R70, R71, R128, R129) -/

/-- A YIELD-ASK for a segment that is not held, yields already, or has an asker (R70). -/
theorem Station.takeYieldAsk_idle {s : Station} {p seg w : Nat}
    (h : ∀ e, s.claims.entry? seg = some e → e.holding = false ∨ e.state = .yielding ∨ e.pendingYield ≠ none) :
    (s.takeYieldAsk p seg w).1 = s := by
  unfold Station.takeYieldAsk
  cases he : s.claims.entry? seg with
  | none => rfl
  | some e =>
    dsimp only
    rw [if_pos]
    obtain h | h | h := h e he
    · simp [h]
    · simp [h]
    · simp [Option.isSome_iff_ne_none, h]

/-- How a YIELD-ASK for a HELD segment without an asker is answered (R70, R134). -/
theorem Station.takeYieldAsk_held {s : Station} {p seg w : Nat} {e : ClaimEntry} (he : s.claims.entry? seg = some e)
    (hs : e.state = .held) (hp : e.pendingYield = none) :
    (s.takeYieldAsk p seg w).1 =
      if outranks ⟨w, false⟩ p s.plainRank s.par.station = false then s.object seg .outranks s.plainRank p
      else if s.isCarriage = false ∨ s.order.state = .backing ∨ e.purpose = .guard ∨ e.purpose = .deck ∨ e.purpose = .back then
        s.object seg .occupied s.plainRank p
      else if s.overlaps seg = true then (s.takeAsk p seg).1
      else s.yieldEntry e p := by
  unfold Station.takeYieldAsk
  rw [he]
  dsimp only
  rw [if_neg (by simp [ClaimEntry.holding, hs, hp])]
  cases ho : outranks ⟨w, false⟩ p s.plainRank s.par.station with
  | false => rfl
  | true =>
    simp only [Bool.not_true, Bool.false_eq_true, if_false, Bool.true_eq_false]
    have hfirst : (!s.isCarriage || decide (e.purpose = .guard) || decide (e.purpose = .deck) ||
        decide (s.order.state = .backing)) = true ↔
        s.isCarriage = false ∨ s.order.state = .backing ∨ e.purpose = .guard ∨ e.purpose = .deck := by
      simp only [Bool.or_eq_true, Bool.not_eq_true', decide_eq_true_eq]
      tauto
    by_cases hc : s.isCarriage = false ∨ s.order.state = .backing ∨ e.purpose = .guard ∨ e.purpose = .deck
    · rw [if_pos (hfirst.2 hc), if_pos (by tauto)]
    · rw [if_neg (fun h => hc (hfirst.1 h))]
      by_cases hk : e.purpose = .back
      · rw [if_pos hk, if_pos (by tauto)]
      · have hall : ¬(s.isCarriage = false ∨ s.order.state = .backing ∨ e.purpose = .guard ∨ e.purpose = .deck ∨
            e.purpose = .back) := by tauto
        rw [if_neg hk, if_neg hall]
        split <;> rfl

/-- The part as a backing from `g` for the asker `p` begins, before it asks for its direction (R129). -/
def Station.backingBegun (s : Station) (p : Nat) (g : SegmentSlot) (seg : Nat) : Station :=
  let begun := s.withOrder { s.order with state := .backing, blocked := false, waitStart := none }
  begun.freshStop.setBacking
    { asker := p, seg := seg, origin := s.order.state, forward := s.pos.dir, stop := s.backingStop g
      horizon := s.backingHorizon (s.backingStop g) }

theorem Station.backingBegun_claims (s : Station) (p : Nat) (g : SegmentSlot) (seg : Nat) :
    (s.backingBegun p g seg).claims = s.claims := rfl

theorem Station.backingBegun_state (s : Station) (p : Nat) (g : SegmentSlot) (seg : Nat) :
    (s.backingBegun p g seg).order.state = .backing := rfl

theorem Station.backingBegun_backing (s : Station) (p : Nat) (g : SegmentSlot) (seg : Nat) :
    (s.backingBegun p g seg).backing.map (fun b => (b.asker, b.seg, b.origin)) = some (p, seg, s.order.state) := rfl

theorem Station.takeAsk_eq {s : Station} {p seg : Nat} {g : SegmentSlot} (hg : s.map.segment? seg = some g) :
    (s.takeAsk p seg).1 = if (s.canBack && s.aheadOfCentre g) = true then
      (s.backingBegun p g seg).requestDirection s.pos.dir.opposite else s.object seg .occupied s.plainRank p := by
  unfold Station.takeAsk
  rw [hg]
  dsimp only
  split <;> rfl

/-- The backing rule takes a YIELD-ASK (R128, R129). -/
theorem Station.takeAsk_spec {s : Station} {p seg : Nat} {g : SegmentSlot} (hg : s.map.segment? seg = some g)
    (hq : s.line.queue.length < 8) :
    (s.takeAsk p seg).1.claims = s.claims ∧
    ((s.canBack && s.aheadOfCentre g) = true → (s.takeAsk p seg).1.order.state = .backing ∧
      (s.takeAsk p seg).1.pos.dir = s.pos.dir.opposite ∧
      (s.takeAsk p seg).1.backing.map (fun b => (b.asker, b.seg, b.origin)) = some (p, seg, s.order.state)) ∧
    ((s.canBack && s.aheadOfCentre g) = false → (s.takeAsk p seg).1.order = s.order ∧
      (s.takeAsk p seg).1.queues (.object seg .occupied s.plainRank p)) := by
  rw [Station.takeAsk_eq hg]
  cases hb : s.canBack && s.aheadOfCentre g with
  | true =>
    rw [if_pos rfl]
    have heff : s.effective = 0 := by
      simp only [Station.canBack, Bool.and_eq_true, decide_eq_true_eq] at hb
      tauto
    have hdir := (Station.requestDirection_now (s := s.backingBegun p g seg) (d := s.pos.dir.opposite) (.inr heff)).1
    rw [Station.requestDirection_claims, Station.requestDirection_order, Station.requestDirection_backing, hdir]
    exact ⟨s.backingBegun_claims p g seg, fun _ => ⟨s.backingBegun_state p g seg, rfl, s.backingBegun_backing p g seg⟩,
      fun h => nomatch h⟩
  | false =>
    rw [if_neg (by decide)]
    obtain ⟨h1, h2, h3⟩ := Station.object_room seg .occupied s.plainRank p hq
    exact ⟨h2, fun h => (nomatch h), fun _ => ⟨h3, h1⟩⟩

/-- The asked entry yields at once, or notes its asker (R71). -/
theorem Station.yieldEntry_entries (s : Station) (e : ClaimEntry) (p : Nat) :
    (s.yieldEntry e p).claims.entries = s.claims.entries.map fun x => if x.seg = e.seg then
      (if s.holdEnd e ≤ s.ms then { x with state := .yielding } else { x with pendingYield := some p }) else x := by
  unfold Station.yieldEntry
  split <;> rfl

/-- Settles O16. -/
theorem yieldAskIsAnswered : Obligations.YieldAskIsAnswered := by
  intro dt h seg wait s hs hvalid hroom v u
  obtain ⟨hclaims, hmap, hpar, horder, hqueue, hpos, hms⟩ := State.heard_mapPeer_fields (s := s) dt h .yieldAsk
    fun e => { e with rank := ⟨wait, false⟩ }
  have hq : v.line.queue.length < 8 := by rw [hqueue]; exact hroom
  have hv : v = ((s.old dt).heard h.src h.role .yieldAsk).withPeers v.peers := Station.mapPeer_eq _ _ _
  have hplain : v.plainRank = s.station.plainRank := congrArg (fun c : ClaimBlock => (⟨c.waitCount, false⟩ : Rank)) hclaims
  have hcar : v.isCarriage = s.station.isCarriage := congrArg (fun p : Params => decide (p.role = .carriage)) hpar
  have hover : v.overlaps seg = s.station.overlaps seg := by
    rw [hv, Station.heard_eq]
    rfl
  have hback : v.canBack = s.station.canBack := by
    unfold Station.canBack Station.effective
    rw [hv]
    simp
  have hahead : ∀ g, v.aheadOfCentre g = s.station.aheadOfCentre g := fun g => by
    unfold Station.aheadOfCentre
    rw [hpos]
  refine ⟨?_, fun hno => ?_, fun e he hst => ?_, fun e he hst hp => ?_⟩
  · dsimp only [exec, execYieldAskReceived]
    rw [State.reactWith_eq, (State.receive_peer dt h.role (by decide) _ hs).1]
    rw [if_pos (by exact congrArg Params.station hpar.symm), if_pos]
    unfold Station.validSeg
    exact hmap.symm ▸ hvalid
  · refine Station.takeYieldAsk_idle fun e he => .inl ?_
    rw [hclaims] at he
    have hseg : e.seg = seg := by simpa using List.find?_some he
    simp only [ClaimBlock.holds, List.any_eq_false, Bool.and_eq_true, decide_eq_true_eq, not_and] at hno
    simpa using hno e (List.mem_of_find?_eq_some he) hseg
  · refine Station.takeYieldAsk_idle fun e' he' => .inr ?_
    rw [hclaims] at he'
    obtain rfl : e' = e := Option.some.inj (he'.symm.trans he)
    exact hst
  · have hu : u = _ := Station.takeYieldAsk_held (s := v) (p := h.src) (w := wait) (by rw [hclaims]; exact he) hst hp
    rw [hplain, hpar, hcar, horder, hover] at hu
    have hseg : e.seg = seg := by simpa using List.find?_some he
    refine ⟨fun ho => ?_, fun ho => ⟨fun hc => ?_, fun hc hk hb hov => ?_, fun g hc hk hb hov hg => ?_⟩⟩
    · rw [if_pos ho] at hu
      obtain ⟨h1, h2, -⟩ := Station.object_room seg .outranks s.station.plainRank h.src hq
      rw [hu]
      exact ⟨h1, h2.trans hclaims⟩
    · rw [if_neg (by simp [ho]), if_pos hc] at hu
      obtain ⟨h1, h2, h3⟩ := Station.object_room seg .occupied s.station.plainRank h.src hq
      rw [hu]
      exact ⟨h1, h2.trans hclaims, h3.trans horder⟩
    · rw [if_neg (by simp [ho]), if_neg (by obtain hk | hk := hk <;> simp [hc, hk, hb]), if_neg (by simp [hov])] at hu
      have hend : v.holdEnd e = s.station.holdEnd e := by
        unfold Station.holdEnd
        rw [hpar]
      rw [hu, Station.yieldEntry_entries, hclaims, hend, hms, hseg]
    · rw [if_neg (by simp [ho]), if_neg (by obtain hk | hk := hk <;> simp [hc, hk, hb]), if_pos hov] at hu
      obtain ⟨h1, h2, h3⟩ := Station.takeAsk_spec (s := v) (p := h.src) (by rw [hmap]; exact hg) hq
      rw [hback, hahead, hpos, horder] at h2
      rw [hback, hahead, horder, hplain] at h3
      rw [hu]
      exact ⟨h1.trans hclaims, h2, h3⟩

end Sys2Proof.Machine
end

section
/-! PROOFS. CANCEL and RESUME (R101, R119, R120, R124, R148, R166, R167). -/

namespace Sys2Proof.Machine

/-! ## CANCEL (R120, R148) -/

/-- How CANCEL takes an active order (R120, R148). -/
theorem Station.takeCancel_spec (s : Station) :
    (s.order.state.active = false → s.takeCancel = s) ∧
    (s.order.state.active = true → s.lift.state.atRest = true → s.takeCancel = s.cancelNow) ∧
    (s.order.state.active = true → s.lift.returning = false →
      s.lift.state = .raising ∨ s.lift.state = .lowering ∨ s.lift.state = .stoppedMid →
      s.takeCancel = (s.withOrder { s.order with
        state := .loading, reason := .cancelled, resume := none, haltOperator := false, haltLine := false
        blocked := false, waitStart := none }).reverseLift) := by
  unfold Station.takeCancel
  refine ⟨fun ha => if_pos (by simp [ha]), fun ha hr => ?_, fun ha hr hl => ?_⟩
  · rw [if_neg (by simp [ha]), if_neg]
    cases hl : s.lift.state <;> simp_all [LiftState.atRest, LiftState.travelling]
  · rw [if_neg (by simp [ha]), if_pos, if_neg (by simp [hr])]
    obtain h | h | h := hl <;> simp [h, LiftState.travelling]

/-- The lift on its way back to its start rest. -/
def Station.homeward (s : Station) : Station :=
  s.withLift { s.lift with returning := true, travelDir := if s.lift.startRaised then .up else .down }

theorem Station.reverseLift_eq (s : Station) :
    s.reverseLift = if s.lift.state.travelling = true then s.homeward.startTravel else s.homeward := rfl

theorem Station.steady_reverseLift (s : Station) : s.reverseLift.steady = s.steady := by
  have h : s.homeward.steady = s.steady := s.steady_withLift _ rfl
  rw [Station.reverseLift_eq]
  split
  · rw [Station.steady_startTravel, h]
  · exact h

theorem Station.steady_takeCancel (s : Station) : s.takeCancel.steady = s.steady := by
  unfold Station.takeCancel
  split
  · rfl
  · split
    · split
      · rfl
      · rw [Station.steady_reverseLift]
        rfl
    · unfold Station.cancelNow
      simp

theorem Station.reverseLift_spec (s : Station) : s.reverseLift.order = s.order ∧ s.reverseLift.lift.returning = true ∧
    s.reverseLift.lift.travelDir = if s.lift.startRaised then .up else .down := by
  rw [Station.reverseLift_eq]
  split
  · exact ⟨rfl, rfl, rfl⟩
  · exact ⟨rfl, rfl, rfl⟩

/-- What an ending clears of the claim block and of the order (R55, R116). -/
theorem Station.endOrder_clears (s : Station) (st : OrderState) (r : Reason) :
    (s.endOrder st r).claims.waitCount = 0 ∧ (s.endOrder st r).claims.deckReserve = false ∧
    (s.endOrder st r).order.haltOperator = false ∧ (s.endOrder st r).order.haltLine = false := by
  have hops : (s.ended st r).order.haltOperator = false ∧ (s.ended st r).order.haltLine = false := by
    unfold Station.ended Station.giveUpAttempt
    split <;> exact ⟨rfl, rfl⟩
  have hbare := s.bare_endOrder st r
  refine ⟨rfl, rfl, ?_, ?_⟩
  · exact (Station.field_of_bare (s := (s.ended st r).openPark) (·.order.haltOperator) (fun _ => rfl) hbare).trans hops.1
  · exact (Station.field_of_bare (s := (s.ended st r).openPark) (·.order.haltLine) (fun _ => rfl) hbare).trans hops.2

/-- A field that evaluations keep stays where the steady part stays. -/
theorem Station.field_of_steady {α : Type} {s t : Station} (g : Station → α) (hg : ∀ x : Station, g x.steady = g x)
    (h : t.steady = s.steady) : g t = g s := by
  rw [← hg t, h, hg]

/-- Settles O22. -/
theorem cancelFailsTheOrder : Obligations.CancelFailsTheOrder := by
  intro dt o s ho
  refine ⟨fun hcar => ?_, fun hcar => ?_⟩
  · dsimp only [exec, execOrderCancel]
    rw [State.takeOrder_any dt _ ho, Station.byRole_turntable (by simpa using hcar)]
    rfl
  · intro u
    have hex : exec (.orderCancel dt o) s = .next (s.settled dt u .ofOrder) := by
      dsimp only [exec, execOrderCancel]
      rw [State.takeOrder_any dt _ ho, Station.byRole_carriage (by simpa using hcar)]
    set v := (s.old dt).heard o.src .carriage .order with hv
    have hsteady : u.order.number = v.order.number ∧ u.order.answer = v.order.answer := by
      have h : u.steady = v.steady := v.steady_takeCancel
      exact ⟨Station.field_of_steady (·.order.number) (fun _ => rfl) h,
        Station.field_of_steady (·.order.answer) (fun _ => rfl) h⟩
    have horder : v.order = s.station.order := by simp [hv]
    have hlift : v.lift = s.station.lift := by simp [hv]
    obtain ⟨hidle, hrest, hmid⟩ := v.takeCancel_spec
    rw [horder] at hidle
    rw [horder, hlift] at hrest hmid
    refine ⟨_, hex, rfl, ?_, ?_, fun ha hr => ?_, fun ha hret hl => ?_, fun ha => ?_⟩
    · rw [State.settled_order_number, hsteady.1, horder]
    · rw [State.settled_order_answer, hsteady.2, horder]
    · have hu : u = (v.giveUpAttempt.cutBacking).endOrder .failed .cancelled := hrest ha hr
      obtain ⟨h1, h2⟩ := s.settled_ends dt (u := u) .ofOrder (by rw [hu, Station.ends_endOrder]) rfl
      refine ⟨h1, h2, ?_⟩
      obtain ⟨hw, hd, hop, hline⟩ := v.giveUpAttempt.cutBacking.endOrder_clears .failed .cancelled
      rw [hu]
      exact ⟨hw, hop, hline, hd⟩
    · have hu : u = _ := hmid ha hret hl
      obtain ⟨h1, h2, h3⟩ := Station.reverseLift_spec (v.withOrder { s.station.order with
        state := .loading, reason := .cancelled, resume := none, haltOperator := false, haltLine := false
        blocked := false, waitStart := none })
      rw [hu, h1, h2, h3, Station.withOrder_order, Station.withOrder_lift, hlift]
      exact ⟨rfl, rfl, rfl, rfl⟩
    · have hu : u = v := hidle ha
      rw [hu]
      obtain ⟨h1, h2⟩ := s.settled_order_ended dt v .ofOrder
        (.inl (by rw [horder]; exact OrderState.resting_of_not_active ha))
      rw [h1, h2, horder]
      exact ⟨rfl, rfl⟩

/-! ## One entry through a run of release requests (R66, R68) -/

/-- From `s` to `u` what is released stays released, no segment comes into the list, and segment `m` keeps its HELD and
YIELDING entries and its stamp. -/
structure Station.KeepsHeld (m : Nat) (s u : Station) : Prop where
  held : ∀ x ∈ s.claims.entries, x.seg = m → x.state ≠ .listening → x ∈ u.claims.entries
  segs : (u.claims.entries.map (·.seg)).Sublist (s.claims.entries.map (·.seg))
  stamp : u.claims.stamps[m]? = s.claims.stamps[m]?
  out : ∀ n, s.releaseOut n → u.releaseOut n
  ms : u.ms = s.ms

theorem Station.KeepsHeld.refl (m : Nat) (s : Station) : Station.KeepsHeld m s s :=
  ⟨fun _ h _ _ => h, .refl _, rfl, fun _ h => h, rfl⟩

/-- A taken-back CLAIM is no RELEASE. -/
theorem namesRelease_takeBack {q : List QueueItem} {segs : List Nat} {n : Nat} (h : namesRelease q n) :
    namesRelease (takeBack (OutFrame.claims segs) q) n := by
  obtain ⟨x, hx, l, hl, hn⟩ := h
  refine ⟨x, List.mem_filterMap.2 ⟨x, hx, ?_⟩, l, hl, hn⟩
  rw [hl, if_neg (by simp [OutFrame.claims])]

/-- The list with the drop mark on the group of `e` (R68). -/
def Station.markGroup (s : Station) (e : ClaimEntry) : Station :=
  s.setEntries (s.claims.entries.map fun x => if e.groupedWith x then { x with drop := true } else x)

theorem Station.segs_markGroup (s : Station) (e : ClaimEntry) :
    (s.markGroup e).claims.entries.map (·.seg) = s.claims.entries.map (·.seg) := by
  have h : (s.markGroup e).claims.entries = s.claims.entries.map fun x =>
    if e.groupedWith x then { x with drop := true } else x := rfl
  rw [h, List.map_map]
  refine List.map_congr_left fun x _ => ?_
  dsimp only [Function.comp_apply]
  split <;> rfl

/-- A release request for a LISTENING entry marks its group, and takes an unsent one back (R68). -/
theorem Station.releaseRequest_listening {s : Station} {n : Nat} {e : ClaimEntry} (he : s.claims.entry? n = some e)
    (hd : e.purpose ≠ .deck) (hs : e.state = .listening) :
    s.releaseRequest n = if e.windowEnd.isNone then (s.markGroup e).withdrawUnsent n else s.markGroup e := by
  unfold Station.releaseRequest
  rw [he]
  dsimp only
  rw [if_neg hd, hs]
  dsimp only
  rw [Station.tell_released]
  rfl

/-- A release request leaves the HELD entry of another segment (R66, R68). -/
theorem Station.keepsHeld_releaseRequest {s : Station} {m n : Nat} (hmn : m ≠ n ∨ s.claims.lists m = false) :
    Station.KeepsHeld m s (s.releaseRequest n) := by
  cases he : s.claims.entry? n with
  | none =>
    unfold Station.releaseRequest
    rw [he]
    exact .refl m s
  | some e =>
    have hmem := List.mem_of_find?_eq_some he
    have hseg : e.seg = n := by simpa using List.find?_some he
    have hmn : m ≠ n := hmn.elim id fun hl h => ClaimBlock.lists_eq_false.1 hl e hmem (hseg.trans h.symm)
    by_cases hd : e.purpose = .deck
    · unfold Station.releaseRequest
      rw [he]
      dsimp only
      rw [if_pos hd]
      exact .refl m s
    · cases hs : e.state with
      | held =>
        rw [Station.releaseRequest_held he hs, if_neg hd]
        have hc := s.releaseEntry_claims n
        refine ⟨fun x hx hxm _ => ?_, ?_, ?_, fun k hk => Station.releaseOut_releaseEntry (.inl hk),
          Station.ms_of_bare (s.bare_releaseEntry n)⟩
        · rw [hc]
          exact List.mem_filter.2 ⟨hx, by simp [hxm, hmn]⟩
        · rw [hc]
          exact List.filter_sublist.map _
        · rw [hc]
          simp [Ne.symm hmn]
      | yielding =>
        unfold Station.releaseRequest
        rw [he]
        dsimp only
        rw [if_neg hd, hs]
        exact .refl m s
      | listening =>
        have hmark : ∀ x ∈ s.claims.entries, x.seg = m → x.state ≠ .listening → x ∈ (s.markGroup e).claims.entries :=
          fun x hx hxm hxs => List.mem_map.2 ⟨x, hx, if_neg (by
            simp [ClaimEntry.groupedWith, hxm, hseg, hmn, hxs])⟩
        rw [Station.releaseRequest_listening he hd hs]
        split
        · refine ⟨fun x hx hxm hxs => List.mem_filter.2 ⟨hmark x hx hxm hxs, by simp [hxm, hmn]⟩, ?_, rfl, fun k hk => ?_, rfl⟩
          · rw [← s.segs_markGroup e]
            exact List.filter_sublist.map _
          · rw [Station.releaseOut_iff] at hk ⊢
            exact hk.imp id namesRelease_takeBack
        · exact ⟨hmark, by rw [s.segs_markGroup e], rfl, fun k hk => hk, rfl⟩

/-- No release request brings a segment into the list. -/
theorem Station.segs_releaseRequest (s : Station) (n : Nat) :
    ((s.releaseRequest n).claims.entries.map (·.seg)).Sublist (s.claims.entries.map (·.seg)) :=
  (Station.keepsHeld_releaseRequest (m := n + 1) (.inl (by omega))).segs

theorem ClaimBlock.lists_of_sublist {c d : ClaimBlock} {m : Nat}
    (h : (d.entries.map (·.seg)).Sublist (c.entries.map (·.seg))) (hm : c.lists m = false) : d.lists m = false := by
  rw [ClaimBlock.lists_eq_false] at hm ⊢
  intro x hx hxm
  obtain ⟨y, hy, hys⟩ := List.mem_map.1 (h.subset (List.mem_map.2 ⟨x, hx, rfl⟩))
  exact hm y hy (hys.trans hxm)

/-- What is released stays released through further requests. -/
theorem Station.unlisted_releaseAll {s : Station} {m : Nat} (l : List Nat) (hm : s.claims.lists m = false) :
    (s.releaseAll l).claims.lists m = false ∧ (s.releaseAll l).claims.stamps[m]? = s.claims.stamps[m]? ∧
    (s.releaseOut m → (s.releaseAll l).releaseOut m) := by
  induction l generalizing s with
  | nil => exact ⟨hm, rfl, id⟩
  | cons n l ih =>
    have hk := Station.keepsHeld_releaseRequest (n := n) (.inr hm)
    obtain ⟨h1, h2, h3⟩ := ih (s := s.releaseRequest n) (ClaimBlock.lists_of_sublist hk.segs hm)
    exact ⟨h1, h2.trans hk.stamp, fun h => h3 (hk.out m h)⟩

/-- A HELD or YIELDING entry that is not asked back stays, whatever else is. -/
theorem Station.kept_releaseAll {s : Station} {e : ClaimEntry} (l : List Nat) (he : e ∈ s.claims.entries)
    (hs : e.state ≠ .listening) (hl : e.seg ∉ l) : e ∈ (s.releaseAll l).claims.entries := by
  induction l generalizing s with
  | nil => exact he
  | cons n l ih =>
    obtain ⟨hne, hl⟩ := not_or.1 (mt List.mem_cons.2 hl)
    exact ih ((Station.keepsHeld_releaseRequest (.inl hne)).held e he rfl hs) hl

theorem Station.segs_releaseAll (s : Station) (l : List Nat) :
    ((s.releaseAll l).claims.entries.map (·.seg)).Sublist (s.claims.entries.map (·.seg)) := by
  induction l generalizing s with
  | nil => exact .refl _
  | cons n l ih => exact (ih (s.releaseRequest n)).trans (s.segs_releaseRequest n)

/-- A HELD entry among the segments asked back is released, whatever else is among them (R66, R67). -/
theorem Station.released_releaseAll {s : Station} {e : ClaimEntry} (l : List Nat)
    (hn : (s.claims.entries.map (·.seg)).Nodup) (he : e ∈ s.claims.entries) (hs : e.state = .held) (hd : e.purpose ≠ .deck)
    (hl : e.seg ∈ l) : s.released (s.releaseAll l) e.seg := by
  induction l generalizing s with
  | nil => exact absurd hl List.not_mem_nil
  | cons n l ih =>
    by_cases hen : e.seg = n
    · have hreq : s.releaseRequest n = s.releaseEntry n := by
        rw [← hen, Station.releaseRequest_held (ClaimBlock.entry?_eq_some hn he) hs, if_neg hd]
      have hc := s.releaseEntry_claims n
      have hgone : (s.releaseEntry n).claims.lists e.seg = false := by
        rw [ClaimBlock.lists_eq_false, hc, hen]
        intro x hx
        simpa using (List.mem_filter.1 hx).2
      obtain ⟨h1, h2, h3⟩ := Station.unlisted_releaseAll l hgone
      change s.released ((s.releaseRequest n).releaseAll l) e.seg
      rw [hreq]
      refine ⟨h1, fun h128 => ⟨?_, h3 (Station.releaseOut_releaseEntry (.inr ⟨hen, hen ▸ h128⟩))⟩⟩
      rw [h2, hc, ← hen]
      simp [h128]
    · have hk := Station.keepsHeld_releaseRequest (s := s) (m := e.seg) (n := n) (.inl hen)
      have h := ih (s := s.releaseRequest n) (hn.sublist hk.segs) (hk.held e he rfl (by rw [hs]; decide))
        ((List.mem_cons.1 hl).resolve_left hen)
      unfold Station.released at h ⊢
      rw [hk.ms] at h
      exact h

/-! ## RESUME at a carriage (R119) -/

/-- How RESUME takes a HALTED and a STOPPED order (R119). -/
theorem Station.takeResume_spec {s : Station} (hf : s.line.fault = false) :
    (∀ st, s.order.state = .halted → s.order.haltLine = false → s.order.resume = some st →
      s.takeResume.order.state = st ∧ s.takeResume.order.reason = .none ∧ s.takeResume.order.haltOperator = false) ∧
    (s.order.state = .halted → s.order.haltLine = true → s.takeResume.order.state = .halted ∧
      s.takeResume.order.reason = .line ∧ s.takeResume.order.haltOperator = false) ∧
    (s.order.state = .stopped → s.order.resume = some .running ∨ s.order.resume = some .waiting → s.legOnLine = true →
      s.takeResume.order.state = .running ∧ s.takeResume.order.reason = .none) ∧
    (s.order.state = .stopped → s.legOnLine = false → s.takeResume = s.failRoute) := by
  unfold Station.takeResume
  rw [if_neg (by simp [hf])]
  refine ⟨fun st hs hl hr => ?_, fun hs hl => ?_, fun hs hr hl => ?_, fun hs hl => ?_⟩
  · simp only [hs, hl, Station.unhalt]
    simp [hr, Station.returnTo]
  · simp only [hs, hl, Station.unhalt]
    simp
  · have hres : s.resumeStopped = s.returnTo .running := by
      unfold Station.resumeStopped
      obtain hr | hr := hr
      · rw [hr]
      · rw [hr]
    simp only [hs, hl, if_true, hres]
    exact ⟨rfl, rfl⟩
  · simp only [hs, hl, Bool.false_eq_true, if_false]

/-! ## RESUME at a turntable (R166, R167) -/

/-- The deck as it leaves FAULT at arm `a`, its guards asked back (R166). -/
def Station.guardsBack (s : Station) (a : Nat) : Station :=
  (s.withTt { s.tt with aligned := a, reason := .none, target := none, purpose := .none }).releaseGuards

/-- The deck goes on by the table of R166. -/
def Station.byTable (s : Station) (a : Nat) : Station :=
  match s.tt.holder with
  | none => s.deckIdle
  | some h =>
    if s.tt.aboard then
      if a = h.exitArm then s.withTt { s.tt with deck := .awaitExit, exitOwed := .toMake }
      else s.withTt { s.tt with deck := .aboard }
    else if a = h.entryArm then
      s.withTt { s.tt with deck := .awaitEntry, entryTimer := some (s.ms + s.par.entryTimeout * 1000) }
    else s.withTt { s.tt with deck := .fault, reason := .noArm }

theorem Station.leaveFault_eq (s : Station) (a : Nat) : s.leaveFault a = (s.guardsBack a).byTable a := rfl

/-- The table of R166, row by row. -/
theorem Station.byTable_spec (s : Station) (a : Nat) :
    (s.tt.holder = none → s.byTable a = s.deckIdle) ∧
    (∀ x, s.tt.holder = some x →
      (s.tt.aboard = true → a = x.exitArm →
        s.byTable a = s.withTt { s.tt with deck := .awaitExit, exitOwed := .toMake }) ∧
      (s.tt.aboard = true → a ≠ x.exitArm → s.byTable a = s.withTt { s.tt with deck := .aboard }) ∧
      (s.tt.aboard = false → a = x.entryArm → s.byTable a = s.withTt { s.tt with
        deck := .awaitEntry, entryTimer := some (s.ms + s.par.entryTimeout * 1000) }) ∧
      (s.tt.aboard = false → a ≠ x.entryArm → s.byTable a = s.withTt { s.tt with deck := .fault, reason := .noArm })) := by
  unfold Station.byTable
  refine ⟨fun h => by rw [h], fun x hx => ?_⟩
  rw [hx]
  refine ⟨fun ha he => ?_, fun ha he => ?_, fun ha he => ?_, fun ha he => ?_⟩
  · simp only [ha, he, if_true]
  · simp only [ha, he, if_true, if_false]
  · simp only [ha, he, Bool.false_eq_true, if_true, if_false]
  · simp only [ha, he, Bool.false_eq_true, if_false]

/-- The table touches the deck alone, and of it neither arm, rotation, queue nor guard release. -/
theorem Station.byTable_keeps (s : Station) (a : Nat) : s.byTable a = s.withTt (s.byTable a).tt ∧
    (s.byTable a).tt.aligned = s.tt.aligned ∧ (s.byTable a).tt.target = s.tt.target ∧
    (s.byTable a).tt.purpose = s.tt.purpose ∧ (s.byTable a).tt.queue = s.tt.queue ∧
    (s.byTable a).tt.releasePending = s.tt.releasePending ∧ (s.byTable a).tt.holder = s.tt.holder ∧
    (s.byTable a).tt.grantHold = s.tt.grantHold := by
  obtain ⟨hnone, hsome⟩ := s.byTable_spec a
  cases hh : s.tt.holder with
  | none =>
    rw [hnone hh]
    exact ⟨rfl, rfl, rfl, rfl, rfl, rfl, rfl, rfl⟩
  | some x =>
    obtain ⟨h1, h2, h3, h4⟩ := hsome x hh
    have key : ∃ d e r t, s.byTable a = s.withTt { s.tt with deck := d, exitOwed := e, reason := r, entryTimer := t } := by
      cases ha : s.tt.aboard with
      | true =>
        by_cases he : a = x.exitArm
        · exact ⟨_, _, _, _, h1 ha he⟩
        · exact ⟨_, _, _, _, h2 ha he⟩
      | false =>
        by_cases he : a = x.entryArm
        · exact ⟨_, _, _, _, h3 ha he⟩
        · exact ⟨_, _, _, _, h4 ha he⟩
    obtain ⟨d, e, r, t, hk⟩ := key
    rw [hk]
    exact ⟨rfl, rfl, rfl, rfl, rfl, rfl, hh, rfl⟩

/-- What the deck is as its guards are asked back (R159, R166). -/
theorem Station.guardsBack_tt (s : Station) (a : Nat) : ∃ r p, (s.guardsBack a).tt = { s.tt with
    aligned := a, reason := .none, target := none, purpose := .none, retryTime := r, releasePending := p } := by
  obtain ⟨r, p, h⟩ := Station.releaseGuards_tt
    (s.withTt { s.tt with aligned := a, reason := .none, target := none, purpose := .none })
  exact ⟨r, p, h⟩

theorem Station.guardsBack_keeps (s : Station) (a : Nat) :
    (s.guardsBack a).ms = s.ms ∧ (s.guardsBack a).par = s.par := by
  have h : ∀ x : Station, x.releaseGuards.ms = x.ms ∧ x.releaseGuards.par = x.par := fun x => by
    have hb := x.bare_releaseAll ((x.claims.entries.filter fun e => e.purpose = .guard).map (·.seg))
    have hms := Station.ms_of_bare hb
    have hpar := Station.field_of_bare (·.par) (fun _ => rfl) hb
    exact ⟨hms, hpar⟩
  exact h _

theorem Station.releaseGuards_spec {s : Station} {e : ClaimEntry} (hn : (s.claims.entries.map (·.seg)).Nodup)
    (he : e ∈ s.claims.entries) (hs : e.state = .held) (hg : e.purpose = .guard) :
    s.released s.releaseGuards e.seg ∧ (e.seg ∈ s.guards → e.seg < 128 → s.releaseGuards.tt.releasePending = true) := by
  have hrel := Station.released_releaseAll (s := s) ((s.claims.entries.filter fun e => e.purpose = .guard).map (·.seg)) hn he hs
    (by rw [hg]; decide) (List.mem_map.2 ⟨e, List.mem_filter.2 ⟨he, by simp [hg]⟩, rfl⟩)
  refine ⟨hrel, fun hin h128 => ?_⟩
  have hguards : ∀ x : Station, x.bare = s.bare → x.guards = s.guards := fun x hx =>
    Station.field_of_bare (·.guards) (fun _ => rfl) hx
  change Station.guardReleaseOpen (s.releaseAll _) = true
  obtain ⟨-, hout⟩ := hrel
  unfold Station.guardReleaseOpen Station.releaseQueued
  rw [hguards _ (s.bare_releaseAll _)]
  obtain howed | ⟨segs, ⟨x, hx, hf⟩, hin'⟩ := (hout h128).2
  · have : (s.guards.any fun n => ((s.releaseAll ((s.claims.entries.filter fun e => e.purpose = .guard).map
        (·.seg))).claims.owed[n]?).getD false) = true := List.any_eq_true.2 ⟨e.seg, hin, by rw [howed]; rfl⟩
    rw [this]
    rfl
  · have : ((s.releaseAll ((s.claims.entries.filter fun e => e.purpose = .guard).map (·.seg))).line.queue.any
        fun x => match x.frame with
          | .release l => l.any s.guards.contains
          | _ => false) = true := by
      refine List.any_eq_true.2 ⟨x, hx, ?_⟩
      rw [hf]
      exact List.any_eq_true.2 ⟨e.seg, hin', by simpa using hin⟩
    rw [Bool.or_eq_true, Bool.or_eq_true]
    exact .inl (.inr this)

/-- How RESUME takes a turntable (R166, R167). -/
theorem Station.ttResume_spec (s : Station) :
    (s.tt.deck ≠ .fault ∨ s.turning = false ∨ s.inputs.armAligned = none ∨ s.inputs.rotationFault = true →
      s.ttResume = s.withTt { s.tt with grantHold := false }) ∧
    (∀ a, s.tt.deck = .fault → s.turning = true → s.inputs.armAligned = some a → s.inputs.rotationFault = false →
      s.ttResume = (s.withTt { s.tt with grantHold := false }).leaveFault a) := by
  unfold Station.ttResume
  dsimp only [Station.withTt_tt, Station.withTt_inputs]
  have hturn : ∀ x, (s.withTt x).turning = s.turning := fun _ => rfl
  refine ⟨fun h => ?_, fun a hd ht ha hr => ?_⟩
  · cases hd : s.tt.deck with
    | fault =>
      cases ha : s.inputs.armAligned with
      | none => rfl
      | some a =>
        refine if_pos ?_
        rw [hturn]
        obtain h | h | h | h := h
        · exact absurd hd h
        · simp [h]
        · rw [ha] at h
          cases h
        · simp [h]
    | _ => rfl
  · rw [hd, ha]
    refine if_neg ?_
    rw [hturn, ht, hr]
    decide

theorem Station.ttResume_grantHold (s : Station) : s.ttResume.tt.grantHold = false := by
  obtain ⟨hstay, hleave⟩ := s.ttResume_spec
  by_cases h : s.tt.deck ≠ .fault ∨ s.turning = false ∨ s.inputs.armAligned = none ∨ s.inputs.rotationFault = true
  · rw [hstay h, Station.withTt_tt]
  · simp only [not_or, ne_eq, not_not, Bool.not_eq_true, Bool.not_eq_false] at h
    obtain ⟨hd, ht, ha, hr⟩ := h
    obtain ⟨a, ha⟩ := Option.ne_none_iff_exists'.1 ha
    obtain ⟨r, p, htt⟩ := (s.withTt { s.tt with grantHold := false }).guardsBack_tt a
    rw [hleave a hd ht ha hr, Station.leaveFault_eq, (Station.byTable_keeps _ a).2.2.2.2.2.2.2, htt,
      Station.withTt_tt]

/-- Settles O21. -/
theorem resumeReturnsTheOrder : Obligations.ResumeReturnsTheOrder := by
  intro dt o s ho
  have hvt : ((s.old dt).heard o.src .carriage .order).tt = s.station.tt := by simp
  refine ⟨fun hcar hf => ?_, fun hcar hf => ?_, fun hcar => ?_, fun hcar => ?_⟩
  · intro u
    have hex : exec (.orderResume dt o) s = .next (s.settled dt u .ofOrder) := by
      dsimp only [exec, execOrderResume]
      rw [State.takeOrder_any dt _ ho, Station.byRole_carriage (by simpa using hcar)]
    have hleg : ((s.old dt).heard o.src .carriage .order).legOnLine = s.station.legOnLine := by
      unfold Station.legOnLine
      simp
    obtain ⟨h1, h2, h3, h4⟩ := Station.takeResume_spec (s := (s.old dt).heard o.src .carriage .order) (by simpa using hf)
    rw [Station.heard_order, State.old_order] at h1 h2 h3 h4
    rw [hleg] at h3 h4
    refine ⟨_, hex, rfl, h1, h2, h3, fun hs hl => ?_⟩
    exact s.settled_ends dt .ofOrder (by
      rw [show u = _ from h4 hs hl]
      exact Station.ends_endOrder _ _ _) rfl
  · refine ⟨_, ?_, rfl⟩
    dsimp only [exec, execOrderResume]
    rw [State.takeOrder_any dt _ ho, Station.byRole_carriage (by simpa using hcar)]
    unfold Station.takeResume
    rw [if_pos (by simpa using hf)]
  · refine ⟨_, ?_, rfl, ?_⟩
    · dsimp only [exec, execOrderResume]
      rw [State.takeOrder_any dt _ ho, Station.byRole_turntable (by simpa using hcar)]
    · rw [State.settled_tt_grantHold, Station.ttResume_grantHold]
  · intro v u
    have hturn : v.turning = decide (s.station.start.phase = .ready) := by
      have hcar' : v.isCarriage = false := by simpa [v] using hcar
      have hphase : v.start.phase = s.station.start.phase := by simp [v]
      rw [Bool.eq_iff_iff, Station.turning_iff, hphase, decide_eq_true_iff]
      unfold Station.isCarriage at hcar'
      simp at hcar'
      tauto
    obtain ⟨hstay, hleave⟩ := v.ttResume_spec
    rw [hvt, hturn, Station.heard_inputs_armAligned, Station.heard_inputs_rotationFault, State.old_inputs] at hstay hleave
    refine ⟨fun h => ?_, fun a hd hp ha hr => ?_⟩
    · rw [show u = _ from hstay (by simpa using h)]
      exact ⟨rfl, by simp [v]⟩
    · set w := v.withTt { s.station.tt with grantHold := false } with hw
      have hu : u = (w.guardsBack a).byTable a := by
        rw [← Station.leaveFault_eq]
        exact hleave a hd (by simp [hp]) ha hr
      obtain ⟨r, p, htt⟩ := w.guardsBack_tt a
      obtain ⟨hkeep, h1, h2, h3, h4, h5, h6, -⟩ := (w.guardsBack a).byTable_keeps a
      obtain ⟨hnone, hsome⟩ := (w.guardsBack a).byTable_spec a
      obtain ⟨hms, hpar⟩ := w.guardsBack_keeps a
      have hwms : w.ms = (s.old dt).ms := by
        rw [hw, ← Station.heard_ms (s.old dt) o.src .carriage .order]
        rfl
      have hwpar : w.par = s.station.par := by simp [hw, v]
      have hwclaims : w.claims = s.station.claims := by simp [hw, v]
      have hwguards : w.guards = s.station.guards := by
        rw [hw, show v = _ from Station.heard_eq _ _ _ _]
        rfl
      rw [hms, hpar, hwms, hwpar, htt] at hsome
      rw [htt] at h1 h2 h3 h4 h6 hnone
      rw [hu]
      refine ⟨h1, h2, h3, h4, h6, fun hb e he hg hs => ?_, fun hh => ?_, fun x hx => ?_⟩
      · obtain ⟨hrel, hpend⟩ := Station.releaseGuards_spec
          (s := w.withTt { w.tt with aligned := a, reason := .none, target := none, purpose := .none })
          (e := e) (by rw [Station.withTt_claims, hwclaims]; exact hb.2.1) (by rw [Station.withTt_claims, hwclaims]; exact he)
          hs hg
        refine ⟨?_, fun hin h128 => ?_⟩
        · rw [hkeep]
          have hvms : v.ms = w.ms := rfl
          unfold Station.released at hrel ⊢
          rw [hvms]
          exact hrel
        · rw [h5]
          exact hpend (hwguards.symm ▸ hin) h128
      · rw [hnone hh]
        unfold Station.deckIdle
        rw [htt]
        exact ⟨rfl, rfl⟩
      · obtain ⟨t1, t2, t3, t4⟩ := hsome x hx
        refine ⟨fun hb he => ?_, fun hb he => ?_, fun hb he => ?_, fun hb he => ?_⟩
        · rw [t1 hb he]
          exact ⟨rfl, rfl, hb, rfl⟩
        · rw [t2 hb he]
          exact ⟨rfl, hb, rfl⟩
        · rw [t3 hb he]
          exact ⟨rfl, hb, rfl, rfl⟩
        · rw [t4 hb he]
          exact ⟨rfl, rfl⟩

end Sys2Proof.Machine
end

section
/-! PROOFS. The final approach: its hand-over, its check and its attempts (R85, R99, R138, R140, R141). -/

namespace Sys2Proof.Machine

/-! ## The hand-over and the start of an attempt (R85, R138) -/

/-- An attempt as it starts, before its direction is asked for (R99, R138). -/
def Station.attempting (s : Station) : Station :=
  (s.withAppr { s.appr with
    state := .attempt, attempts := s.appr.attempts + 1, docked := false, dockedPad := none }).withEnv
    { s.env with finalStop := some s.appr.stop }

theorem Station.startAttempt_eq (s : Station) : s.startAttempt =
    if s.pos.centre < s.appr.stop then s.attempting.requestDirection .up
    else if s.appr.stop < s.pos.centre then s.attempting.requestDirection .down else s.attempting := rfl

/-- The direction that an attempt at rest takes (R93, R138). -/
theorem Station.startAttempt_dir {s : Station} (h : s.effective = 0) : s.startAttempt.pos.dir =
    if s.pos.centre < s.appr.stop then .up else if s.appr.stop < s.pos.centre then .down else s.pos.dir := by
  have heff : s.attempting.effective = 0 := h
  rw [Station.startAttempt_eq]
  split
  · exact (Station.requestDirection_now (.inr heff)).1
  · split
    · exact (Station.requestDirection_now (.inr heff)).1
    · rfl

theorem Station.startAttempt_handedOn (s : Station) : s.startAttempt.env.handedOn = s.env.handedOn := by
  have hh : s.attempting.env.handedOn = s.env.handedOn := rfl
  rw [Station.startAttempt_eq]
  split
  · rw [Station.handedOn_requestDirection, hh]
  · split
    · rw [Station.handedOn_requestDirection, hh]
    · exact hh

/-- The approach handed on for the stop point `x`, before its first attempt (R85). -/
def Station.handed (s : Station) (x : Chainage) : Station :=
  (s.withEnv { s.env with handedOn := true }).withAppr
    { s.appr with kind := s.approachKind.1, stop := x, tolerance := s.approachKind.2 }

theorem Station.handOn_eq (s : Station) (x : Chainage) : s.handOn x = (s.handed x).startAttempt := rfl

/-- Kind and tolerance of a stop point, by state, leg and target (R138). -/
theorem Station.approachKind_spec (s : Station) :
    (s.order.state = .backing → s.approachKind = (.back, 10)) ∧
    (s.order.state = .running → ∀ l d t e, s.order.leg? = some ⟨l, d, .turntable t e⟩ →
      s.approachKind = (.deck, s.par.centring)) ∧
    (s.order.state = .running → ∀ l d n p, s.order.leg? = some ⟨l, d, .target⟩ → s.order.target = .pad n →
      s.map.pad? n = some p → s.approachKind = (.pad, p.tolerance)) ∧
    (s.order.state = .running → ∀ l d a b, s.order.leg? = some ⟨l, d, .target⟩ → s.order.target = .point a b →
      s.approachKind = (.point, 10)) := by
  unfold Station.approachKind
  refine ⟨fun h => if_pos h, fun h l d t e hg => ?_, fun h l d n p hg ht hp => ?_, fun h l d a b hg ht => ?_⟩
  · rw [if_neg (by simp [h]), hg]
  · rw [if_neg (by simp [h]), hg, ht]
    simp [hp]
  · rw [if_neg (by simp [h]), hg, ht]

theorem Station.handOver_eq {s : Station} {x : Chainage} (hx : s.stopPoint = some x) (hh : s.env.handedOn = false)
    (hf : s.pos.frame ≠ .unknown) : s.handOver = if distance x s.pos.centre ≤ s.d 1 then s.handOn x else s := by
  unfold Station.handOver
  rw [hx]
  simp [hh, hf]

/-! ## The check (R140) -/

theorem Station.appr_endOrder {s : Station} (h : s.appr.state ≠ .attempt) (st : OrderState) (r : Reason) :
    (s.endOrder st r).appr = s.appr := by
  have he : (s.ended st r).appr = s.appr := by
    unfold Station.ended Station.giveUpAttempt
    rw [if_neg (by exact h)]
    rfl
  have hb := Station.field_of_bare (s := (s.ended st r).openPark) (·.appr) (fun _ => rfl) (s.bare_endOrder st r)
  exact hb.trans he

/-- A TARGET leg ends at a check that passed (R109, R144). -/
theorem Station.endTargetLeg_spec {s : Station} (h : s.appr.state ≠ .attempt) : s.endTargetLeg.appr = s.appr ∧
    (s.order.kind = .move → s.endTargetLeg.ends = (.done, .none)) ∧
    (s.order.kind = .fetch → s.endTargetLeg.order.state = .loading ∧ s.endTargetLeg.lift.operation = .fetch ∧
      s.endTargetLeg.lift.travelDir = .up) ∧
    (s.order.kind = .place → s.endTargetLeg.order.state = .loading ∧ s.endTargetLeg.lift.operation = .place ∧
      s.endTargetLeg.lift.travelDir = .down) := by
  unfold Station.endTargetLeg
  dsimp only
  cases hk : s.order.kind with
  | move => exact ⟨Station.appr_endOrder h _ _, fun _ => Station.ends_endOrder _ _ _, fun h => (nomatch h), fun h => (nomatch h)⟩
  | fetch => exact ⟨rfl, fun h => (nomatch h), fun _ => ⟨rfl, rfl, rfl⟩, fun h => (nomatch h)⟩
  | place => exact ⟨rfl, fun h => (nomatch h), fun h => (nomatch h), fun _ => ⟨rfl, rfl, rfl⟩⟩

theorem Station.approachCheck_waits {s : Station} (h : s.appr.state ≠ .checking ∨ s.inputs.confirmed ≠ 0 ∨
    s.index.reading = .settling ∨ s.checkAllowed = false) : s.approachCheck = s := by
  unfold Station.approachCheck
  refine if_neg ?_
  obtain h | h | h | h := h <;> simp [h]

/-- The approach record as it docks at the pad of the order (R140). -/
def Station.dockedAppr (s : Station) : Approach := { s.appr with
  state := .reached, docked := true
  dockedPad := match s.order.target with
    | .pad n => some n
    | .point _ _ => none }

theorem Station.dockedPad_of_target {s : Station} {n : Nat} (h : s.order.target = .pad n) :
    s.dockedAppr.dockedPad = some n := by
  unfold Station.dockedAppr
  rw [h]

/-- The check, where its conditions hold (R140). -/
def Station.checked (s : Station) : Station :=
  match s.appr.kind with
  | .pad =>
    if s.approachError ≤ s.appr.tolerance && s.index.reading = .active then
      (s.withAppr s.dockedAppr).endTargetLeg
    else s.failAttempt
  | .point =>
    if s.approachError ≤ 10 then (s.withAppr { s.appr with state := .reached }).endTargetLeg else s.failAttempt
  | .deck =>
    if s.approachError ≤ s.par.centring then
      (s.withAppr { s.appr with state := .aboardAsked }).sendAboard.enterDeck
    else s.failAttempt
  | .back => (s.withAppr { s.appr with state := .reached }).arriveBacking

theorem Station.approachCheck_made {s : Station} (h : s.appr.state = .checking) (h0 : s.inputs.confirmed = 0)
    (hi : s.index.reading ≠ .settling) (ha : s.checkAllowed = true) : s.approachCheck = s.checked := by
  unfold Station.approachCheck
  exact if_pos (by simp [h, h0, hi, ha])

/-- Where the order state lets the check be made (R140). -/
theorem Station.checkAllowed_spec (s : Station) :
    (s.order.state ≠ .running → s.order.state ≠ .backing → s.checkAllowed = false) ∧
    (s.order.state = .running → s.appr.kind ≠ .back → s.checkAllowed = true) ∧
    (s.order.state = .backing → s.appr.kind = .back → s.checkAllowed = true) := by
  unfold Station.checkAllowed
  refine ⟨fun h1 h2 => ?_, fun h1 h2 => ?_, fun h1 h2 => ?_⟩
  · split <;> simp [h1, h2]
  · rw [if_neg h2]
    simp [h1]
  · rw [if_pos h2]
    simp [h1]

/-- A passed check at a turntable: TURN-ABOARD goes out, and the frame is DECK (R31, R140, R170). -/
theorem Station.aboard_spec {s : Station} (hq : s.line.queue.length < 8) :
    let u := (s.withAppr { s.appr with state := .aboardAsked }).sendAboard.enterDeck
    u.appr.state = .aboardAsked ∧ u.passage.state = .aboardSent ∧ u.pos.frame = .deck ∧
    u.pos.deckTurntable = s.passage.turntable ∧ u.queues (.turnAboard s.passage.turntable) := by
  intro u
  have hu : u = Station.enterDeck _ := congrArg Station.enterDeck
    (Station.sendAboard_room (s := s.withAppr { s.appr with state := .aboardAsked }) hq)
  rw [hu]
  exact ⟨rfl, rfl, rfl, rfl, Station.queues_enqueue _ _ _⟩

/-- Settles O44. -/
theorem inPositionEndsTheAttempt : Obligations.InPositionEndsTheAttempt := by
  refine ⟨fun dt s hon hcar => ?_, fun v x hx hh hf => ?_, fun v => ⟨fun h => ?_, fun hc h0 hi => ?_, fun h => ?_, fun h ha => ?_⟩⟩
  · intro u
    have hex : exec (.inPositionActive dt) s = .next (s.settled dt u { env := true }) := by
      dsimp only [exec, execInPositionActive]
      rw [State.reactWith_eq, if_pos (by simp [Station.carriageOn, hon, hcar])]
      rfl
    have hkeep : u.pos.centre = s.station.pos.centre ∧ u.index = s.station.index := by
      have h : ∀ x : Station, x.envEval.pos.centre = x.pos.centre ∧ x.envEval.index = x.index := fun x =>
        ⟨Station.field_of_steady (·.pos.centre) (fun _ => rfl) x.steady_envEval,
          Station.field_of_steady (·.index) (fun _ => rfl) x.steady_envEval⟩
      simp only [u]
      split
      · exact h _
      · exact ⟨rfl, rfl⟩
    refine ⟨_, hex, rfl, ?_, ?_⟩
    · rw [State.settled_pos_centre, hkeep.1]
    · rw [State.settled_index, hkeep.2]
  · intro u
    have hu : u = _ := Station.handOver_eq hx hh hf
    refine ⟨fun hd => ?_, fun hd => ?_⟩
    · rw [if_pos (show distance x v.pos.centre ≤ v.d 1 from hd), Station.handOn_eq] at hu
      obtain ⟨happr, hfinal, -, -⟩ := (v.handed x).startAttempt_spec
      have hk : u.appr.kind = v.approachKind.1 ∧ u.appr.tolerance = v.approachKind.2 := by
        rw [hu, happr]
        exact ⟨rfl, rfl⟩
      obtain ⟨k1, k2, k3, k4⟩ := v.approachKind_spec
      have hdir : v.effective = 0 → u.pos.dir =
          if v.pos.centre < x then .up else if x < v.pos.centre then .down else v.pos.dir := fun he => by
        rw [hu]
        exact Station.startAttempt_dir (s := v.handed x) he
      rw [hk.1, hk.2]
      rw [hu, Station.startAttempt_handedOn, hfinal, happr]
      refine ⟨rfl, rfl, rfl, rfl, rfl, rfl, fun hs => ?_, fun hs l d t e hg => ?_, fun hs l d n p hg ht hp => ?_,
        fun hs l d a b hg ht => ?_, ?_⟩
      · rw [k1 hs]
      · rw [k2 hs l d t e hg]
        exact ⟨rfl, rfl⟩
      · rw [k3 hs l d n p hg ht hp]
        exact ⟨rfl, rfl⟩
      · rw [k4 hs l d a b hg ht]
        exact ⟨rfl, rfl⟩
      · rw [hu] at hdir
        exact hdir
    · rw [hu, if_neg (show ¬distance x v.pos.centre ≤ v.d 1 from by unfold distance; omega)]
  · exact Station.approachCheck_waits (h.imp id (Or.imp id .inl))
  · intro off u
    obtain ⟨hno, hrun, hback⟩ := v.checkAllowed_spec
    refine ⟨fun h1 h2 => Station.approachCheck_waits (.inr (.inr (.inr (hno h1 h2)))), fun hr => ?_, fun hb hk => ?_⟩
    · have hmade : v.appr.kind ≠ .back → u = v.checked := fun hk => Station.approachCheck_made hc h0 hi (hrun hr hk)
      refine ⟨fun hk hoff hact => ?_, fun hk hbad => ?_, fun hk hoff hkind => ?_, fun hk hoff => ?_, fun hk hoff hq => ?_,
        fun hk hoff => ?_⟩
      all_goals
        have hu := hmade (by rw [hk]; decide)
        unfold Station.checked at hu
        rw [hk] at hu
        dsimp only at hu
      · rw [if_pos (by
          rw [Bool.and_eq_true, decide_eq_true_iff, decide_eq_true_iff]
          exact ⟨hoff, hact⟩)] at hu
        obtain ⟨happr, hmove, hfetch, hplace⟩ := Station.endTargetLeg_spec (s := v.withAppr v.dockedAppr)
          (show ApproachState.reached ≠ .attempt by decide)
        rw [hu]
        refine ⟨congrArg Approach.state happr, congrArg Approach.docked happr, fun n hn => ?_, fun hm => ?_, hfetch, hplace⟩
        · rw [happr]
          exact Station.dockedPad_of_target hn
        · exact ⟨congrArg Prod.fst (hmove hm), congrArg Prod.snd (hmove hm)⟩
      · rw [if_neg] at hu
        · exact hu
        · rw [Bool.and_eq_true, decide_eq_true_iff, decide_eq_true_iff]
          rintro ⟨h1, h2⟩
          obtain h | h := hbad
          · exact absurd h (Nat.not_lt.2 h1)
          · rw [h2] at h
            cases h
      · rw [if_pos (show v.approachError ≤ 10 from hoff)] at hu
        obtain ⟨happr, hmove, -⟩ := Station.endTargetLeg_spec (s := v.withAppr { v.appr with state := .reached })
          (show ApproachState.reached ≠ .attempt by decide)
        rw [hu]
        exact ⟨congrArg Approach.state happr, congrArg Prod.fst (hmove hkind)⟩
      · rwa [if_neg (show ¬v.approachError ≤ 10 from Nat.not_le.2 hoff)] at hu
      · rw [if_pos (show v.approachError ≤ v.par.centring from hoff)] at hu
        rw [hu]
        exact Station.aboard_spec hq
      · rwa [if_neg (show ¬v.approachError ≤ v.par.centring from Nat.not_le.2 hoff)] at hu
    · rw [show u = v.checked from Station.approachCheck_made hc h0 hi (hback hb hk)]
      unfold Station.checked
      rw [hk]
  · exact (v.failAttempt_spec.2.2.1 h)
  · obtain ⟨h1, h2, h3⟩ := v.failAttempt_spec.2.2.2 h
    exact ⟨h1, h2, congrArg Prod.fst (h3 ha), congrArg Prod.snd (h3 ha)⟩

end Sys2Proof.Machine
end

section
/-! PROOFS. The park record: its requests, its writes, and what is read back (R35, R151, R152, R191). -/

namespace Sys2Proof.Machine

/-! ## Runs of bytes in the boot memory (R191) -/

theorem Memory.readAll_write_other (m : Memory) (a : Nat) (w : Byte) (n b : Nat) (h : a < b) :
    (m.write a w).readAll b n = m.readAll b n := by
  induction n generalizing b with
  | zero => rfl
  | succ n ih =>
    unfold Memory.readAll
    rw [Memory.read_write_other _ _ (by omega), ih (b + 1) (by omega)]

/-- A run of bytes written is read back. -/
theorem Memory.readAll_writeAll (l : List Byte) (m : Memory) (a : Nat) : (m.writeAll a l).readAll a l.length = some l := by
  induction l generalizing m a with
  | nil => rfl
  | cons v vs ih =>
    unfold Memory.writeAll
    rw [List.length_cons]
    unfold Memory.readAll
    rw [ih, Memory.read_writeAll_other _ _ _ _ (.inl (by omega)), Memory.read_write_self]
    rfl

/-- A run whose first byte is written again. -/
theorem Memory.readAll_rewritten (l : List Byte) (m : Memory) (a : Nat) (v w : Byte) :
    ((m.writeAll a (v :: l)).write a w).readAll a (l.length + 1) = some (w :: l) := by
  have h := Memory.readAll_writeAll (v :: l) m a
  rw [List.length_cons] at h
  unfold Memory.readAll at h ⊢
  rw [Memory.read_write_self, Memory.readAll_write_other _ _ _ _ _ (by omega)]
  cases h1 : (m.writeAll a (v :: l)).readAll (a + 1) l.length with
  | none =>
    rw [h1] at h
    cases hr : (m.writeAll a (v :: l)).read a <;> simp [hr] at h
  | some vs =>
    rw [h1] at h
    cases hr : (m.writeAll a (v :: l)).read a with
    | none => simp [hr] at h
    | some x =>
      simp only [hr, Option.pure_def, Option.bind_eq_bind, Option.bind_some, Option.some.injEq, List.cons.injEq] at h
      rw [h.2]
      rfl

/-! ## The bytes of a park record (R191) -/

/-- The bytes of a list added up. -/
def byteSum (l : List Byte) : Nat := (l.map (·.toNat)).sum

theorem sumBytes_eq (l : List Byte) : sumBytes l = byteSum l % 65536 := by
  have h : ∀ (l : List Byte) n, l.foldl (fun acc b => acc + b.toNat) n = n + byteSum l := fun l => by
    induction l with
    | nil => exact fun _ => rfl
    | cons b l ih =>
      intro n
      rw [List.foldl_cons, ih]
      simp [byteSum, Nat.add_assoc]
  unfold sumBytes
  rw [h, Nat.zero_add]

theorem byteSum_fields (r : ParkRecord) : byteSum r.fields ≤ 1785 := by
  have h : ∀ b : Byte, b.toNat ≤ 255 := fun b => Nat.le_of_lt_succ b.isLt
  have hle : ∀ l : List Byte, byteSum l ≤ l.length * 255 := fun l => by
    induction l with
    | nil => exact Nat.le_refl 0
    | cons b l ih =>
      have := h b
      simp only [byteSum, List.map_cons, List.sum_cons, List.length_cons] at ih ⊢
      omega
  have hlen : r.fields.length = 7 := rfl
  have := hle r.fields
  omega

theorem number_be16 {n : Nat} (h : n < 65536) : number (be16 n) = n := by
  simp only [number, be16, byteOf, List.foldl_cons, List.foldl_nil, BitVec.toNat_ofNat]
  omega

theorem number_be24 {n : Nat} (h : n < 16777216) : number (be24 n) = n := by
  simp only [number, be24, byteOf, List.foldl_cons, List.foldl_nil, BitVec.toNat_ofNat]
  omega

/-- A chainage of 24 bits is read back from its bytes. -/
theorem signed24_be24Signed {z : Int} (h1 : -8388608 ≤ z) (h2 : z < 8388608) : signed24 (number (be24Signed z)) = z := by
  unfold be24Signed
  rw [number_be24 (by omega)]
  unfold signed24
  split <;> omega

/-- What is read from the bytes of a record whose byte 0 is `v` (R35, R191). -/
theorem acceptedPark_bytes (m : TrackMap) (r : ParkRecord) (v : Byte) (hl : r.line < 256) (h1 : -8388608 ≤ r.centre)
    (h2 : r.centre < 8388608) : acceptedPark m (v :: r.bytes) =
      if v.toNat = 2 ∧ r.valid = true ∧ (m.line? r.line).any (fun x => decide (x.low ≤ r.centre) && decide (r.centre ≤ x.high)) = true
      then some (r.line, r.centre) else none := by
  have hline : byteAt (v :: r.bytes) 2 = r.line := by
    change 0 * 256 + (byteOf r.line).toNat = r.line
    simp only [byteOf, BitVec.toNat_ofNat]
    omega
  have hvalid : byteAt (v :: r.bytes) 1 = 1 ↔ r.valid = true := by
    change 0 * 256 + (byteOf (boolBit r.valid 0)).toNat = 1 ↔ _
    cases r.valid <;> decide
  have hcentre : signed24 (field (v :: r.bytes) 3 3) = r.centre := signed24_be24Signed h1 h2
  have hsum : field (v :: r.bytes) 8 2 = sumBytes (2#8 :: r.fields) := by
    change number (be16 (sumBytes (2#8 :: r.fields))) = _
    refine number_be16 ?_
    rw [sumBytes_eq]
    exact Nat.mod_lt _ (by omega)
  have htake : (v :: r.bytes).take 8 = v :: r.fields := rfl
  have hbyte : sumBytes (v :: r.fields) = sumBytes (2#8 :: r.fields) ↔ v.toNat = 2 := by
    have hs := byteSum_fields r
    have hv := v.isLt
    have h2 : (2#8).toNat = 2 := rfl
    rw [sumBytes_eq, sumBytes_eq]
    simp only [byteSum, List.map_cons, List.sum_cons] at hs ⊢
    rw [h2]
    omega
  unfold acceptedPark
  simp only [hline, hcentre, hsum, htake, Bool.and_eq_true, decide_eq_true_eq, hbyte, hvalid, and_assoc]

/-! ## Writes and requests (R151, R152, R191) -/

theorem Memory.read_writeAll_head (m : Memory) (a : Nat) (v : Byte) (l : List Byte) :
    (m.writeAll a (v :: l)).read a = some v := by
  unfold Memory.writeAll
  rw [Memory.read_writeAll_other _ _ _ _ (.inl (by omega)), Memory.read_write_self]

/-- A record is asked for: its write begins, or it takes the pending place (R152). -/
theorem Station.requestWrite_spec (s : Station) (r : ParkRecord) :
    (s.park.inFlight = none → (s.requestWrite r).park = { s.park with inFlight := some r } ∧
      (s.requestWrite r).bootMem = s.bootMem.writeAll parkBase (1#8 :: r.bytes)) ∧
    (∀ q, s.park.inFlight = some q → (s.requestWrite r).park = { s.park with waiting := some r } ∧
      (s.requestWrite r).bootMem = s.bootMem) ∧
    (s.requestWrite r).appr = s.appr ∧ (s.requestWrite r).park.restOpen = s.park.restOpen ∧
    (s.requestWrite r).park.due = s.park.due ∧ (s.requestWrite r).park.validOut = s.park.validOut := by
  unfold Station.requestWrite
  refine ⟨fun h => ?_, fun q h => ?_, ?_⟩
  · rw [h]
    exact ⟨rfl, rfl⟩
  · rw [h]
    exact ⟨rfl, rfl⟩
  · split <;> exact ⟨rfl, rfl, rfl, rfl⟩

/-- The part with the marks of a raise from step 0 (R142, R152). -/
def Station.leftRest (s : Station) : Station :=
  (s.withAppr { s.appr with docked := false, dockedPad := none }).withPark
    { s.park with restOpen := false, due := false, validOut := false }

theorem Station.movedOff_eq (s : Station) :
    s.movedOff = if s.park.validOut = true then s.leftRest.requestWrite (s.parkRecord false) else s.leftRest := rfl

/-- What a raise from step 0 leaves of the record and of DOCKED (R142, R152). -/
theorem Station.movedOff_marks (s : Station) : s.movedOff.park.restOpen = false ∧ s.movedOff.park.due = false ∧
    s.movedOff.park.validOut = false ∧ s.movedOff.appr.docked = false ∧ s.movedOff.appr.dockedPad = none := by
  rw [Station.movedOff_eq]
  split
  · obtain ⟨-, -, happr, hrest, hdue, hvalid⟩ := s.leftRest.requestWrite_spec (s.parkRecord false)
    rw [happr, hrest, hdue, hvalid]
    exact ⟨rfl, rfl, rfl, rfl, rfl⟩
  · exact ⟨rfl, rfl, rfl, rfl, rfl⟩

theorem Station.parkEval_eq (s : Station) : s.parkEval =
    if s.park.due = true ∧ s.park.restOpen = true ∧ s.order.state.resting = true ∧ s.inputs.confirmed = 0 ∧
        s.pos.frame = .line then
      (s.withPark { s.park with due := false, validOut := true }).requestWrite (s.parkRecord true)
    else s := by
  unfold Station.parkEval
  simp only [Bool.and_eq_true, decide_eq_true_eq, and_assoc]

theorem OrderState.resting_iff (x : OrderState) : x.resting = true ↔ x = .idle ∨ x = .done ∨ x = .failed := by
  cases x <;> decide

/-- A raise from step 0 moves off as the part stands (R91, R152). -/
theorem Station.park_raiseTest {s : Station} (h0 : s.env.commanded = 0) (h : s.raiseTest.env.commanded ≠ 0) :
    s.raiseTest.park = s.movedOff.park := by
  have hoff : ∀ e, (s.withEnv e).movedOff.park = s.movedOff.park := fun e => by
    rw [Station.movedOff_eq, Station.movedOff_eq]
    cases hv : s.park.validOut with
    | false =>
      rw [if_neg (by rw [Station.withEnv_park, hv]; decide), if_neg (by decide)]
      rfl
    | true =>
      rw [if_pos (by rw [Station.withEnv_park, hv]), if_pos rfl]
      cases hf : s.park.inFlight with
      | none =>
        rw [((s.withEnv e).leftRest.requestWrite_spec _).1 hf |>.1, (s.leftRest.requestWrite_spec _).1 hf |>.1]
        rfl
      | some q =>
        rw [(((s.withEnv e).leftRest.requestWrite_spec _).2.1 q hf).1, ((s.leftRest.requestWrite_spec _).2.1 q hf).1]
        rfl
  unfold Station.raiseTest at h ⊢
  split at h
  · next hc =>
    rw [if_pos hc]
    dsimp only
    rw [if_pos h0]
    exact hoff _
  · exact absurd h0 h

/-- Settles O48. -/
theorem parkRecordIsWrittenAndReadBack : Obligations.ParkRecordIsWrittenAndReadBack := by
  refine ⟨fun dt s => ?_, fun r mem m x hl h1 h2 hx => ?_, fun v => ?_⟩
  · intro u
    refine ⟨State.reactWith_eq _ _ _ _, fun r hf hw => ?_, fun r q hf hw => ?_, fun hf => ?_⟩
    · have hu : u = ((s.old dt).withBootMem ((s.old dt).bootMem.write parkBase 2#8)).withPark
          { s.station.park with inFlight := none } := by
        simp only [u]
        unfold Station.writeComplete
        rw [State.old_park, hf]
        dsimp only
        rw [hw]
        simp [hw]
      rw [hu]
      exact ⟨rfl, rfl, Memory.read_write_self _ _ _⟩
    · have hu : u = (((s.old dt).withBootMem ((s.old dt).bootMem.write parkBase 2#8)).withPark
          { s.station.park with inFlight := none, waiting := none }).beginWrite q := by
        simp only [u]
        unfold Station.writeComplete
        rw [State.old_park, hf]
        dsimp only
        rw [hw]
        rfl
      rw [hu]
      exact ⟨rfl, rfl, Memory.read_writeAll_head _ _ _ _⟩
    · simp only [u, Station.writeComplete, State.old_park, hf]
  · intro cut done
    have hten : r.bytes.length + 1 = 10 := rfl
    have hdone : done.readAll parkBase 10 = some (2#8 :: r.bytes) := Memory.readAll_rewritten r.bytes mem parkBase 1#8 2#8
    have hcut : cut.readAll parkBase 10 = some (1#8 :: r.bytes) := Memory.readAll_writeAll (1#8 :: r.bytes) mem parkBase
    rw [hdone, hcut, Option.bind_some, Option.bind_some, acceptedPark_bytes m r _ hl h1 h2, acceptedPark_bytes m r _ hl h1 h2,
      hx]
    refine ⟨?_, if_neg fun h => absurd h.1 (by decide)⟩
    simp
  · intro record asked due
    have hask : ∀ (w : Station) r, w.park.inFlight = v.park.inFlight → w.park.waiting = v.park.waiting →
        w.bootMem = v.bootMem → asked (w.requestWrite r) r := fun w r hf hw hm => by
      obtain ⟨hnone, hsome, -⟩ := w.requestWrite_spec r
      rw [hf] at hnone hsome
      refine ⟨fun h => ?_, fun q h => ?_⟩
      · obtain ⟨hp, hb⟩ := hnone h
        rw [hp, hb, hm]
        exact ⟨rfl, hw, rfl⟩
      · obtain ⟨hp, hb⟩ := hsome q h
        rw [hp, hb, hm]
        exact ⟨hf.trans h, rfl, rfl⟩
    have hdue : due ↔ v.park.due = true ∧ v.park.restOpen = true ∧ v.order.state.resting = true ∧ v.inputs.confirmed = 0 ∧
        v.pos.frame = .line := by
      rw [OrderState.resting_iff]
    obtain ⟨m1, m2, m3, m4, m5⟩ := v.movedOff_marks
    refine ⟨fun hd => ?_, fun hd => ?_, ⟨m1, m2, m3, m4, m5, fun hv => ?_, fun hv => ?_⟩, Station.park_raiseTest, fun st r => ?_,
      fun b hb => ?_, fun hr h0 => ?_, fun h => ?_⟩
    · rw [Station.parkEval_eq, if_pos (hdue.1 hd)]
      obtain ⟨-, -, -, -, hdue', hvalid⟩ :=
        (v.withPark { v.park with due := false, validOut := true }).requestWrite_spec (v.parkRecord true)
      exact ⟨hask _ _ rfl rfl rfl, hdue', hvalid⟩
    · rw [Station.parkEval_eq, if_neg fun h => hd (hdue.2 h)]
    · rw [Station.movedOff_eq, if_pos hv]
      exact hask _ _ rfl rfl rfl
    · rw [Station.movedOff_eq, if_neg (by simp [hv])]
      exact ⟨rfl, rfl, rfl⟩
    · have hpos := Station.pos_endOrder v st r
      have hpark : (v.endOrder st r).park.restOpen = true ∧
          (v.endOrder st r).park.due = decide ((v.endOrder st r).pos.frame = .line) := ⟨rfl, rfl⟩
      rw [hpos] at hpark
      exact hpark
    · unfold Station.leaveBacking
      dsimp only
      rw [if_pos hb]
      exact ⟨rfl, rfl⟩
    · unfold Station.touchPark
      rw [if_pos (by simp [hr, h0])]
      rfl
    · unfold Station.touchPark
      refine if_neg ?_
      obtain h | h := h <;> simp [h]

end Sys2Proof.Machine
end

section
/-! PROOFS. A frame that goes out, and the echo that judges it (R58, R63, R102, R179, R180, R182, R183, R185, R187). -/

namespace Sys2Proof.Machine

/-! ## The held list of a beacon (R69) -/

theorem sortBy_eq_insertionSort {α : Type} (le : α → α → Bool) (l : List α) :
    sortBy le l = l.insertionSort fun a b => le a b := by
  have hins : ∀ x (l : List α), insertBy le x l = l.orderedInsert (fun a b => le a b) x := fun x l => by
    induction l with
    | nil => rfl
    | cons y ys ih =>
      rw [List.orderedInsert_cons]
      unfold insertBy
      rw [ih]
  induction l with
  | nil => rfl
  | cons x xs ih =>
    rw [List.insertionSort_cons, ← ih, ← hins]
    rfl

theorem ClaimBlock.heldList_spec (c : ClaimBlock) :
    c.heldList.Pairwise (fun g h => g.seg ≤ h.seg) ∧
    c.heldList.Perm ((c.entries.filter fun e => e.state = .held || e.state = .yielding).map fun e =>
      ⟨e.seg, decide (e.state = .yielding)⟩) := by
  refine ⟨?_, sortBy_perm _ _⟩
  have htotal : Std.Total fun a b : HeldItem => (decide (a.seg ≤ b.seg)) = true :=
    ⟨fun a b => by simpa using Nat.le_total a.seg b.seg⟩
  have htrans : IsTrans HeldItem fun a b => (decide (a.seg ≤ b.seg)) = true :=
    ⟨fun a b c h1 h2 => by simp at h1 h2 ⊢; omega⟩
  unfold ClaimBlock.heldList
  rw [sortBy_eq_insertionSort]
  exact (List.pairwise_insertionSort _ _).imp fun h => by simpa using h

/-! ## The head frame goes out (R179, R180, R183) -/

/-- The line interface as the head frame is counted, before its bytes are made (R180, R185). -/
def Station.headCounted (s : Station) (x : QueueItem) (rest : List QueueItem) : Station :=
  s.withLine { s.line with
    queue := { x with sends := x.sends + 1, inFlight := true } :: rest
    courtesy := s.nextCourtesy x
    resendCount := if 0 < x.sends then bump 255 s.line.resendCount else s.line.resendCount }

/-- The order record that a beacon leaves: its answer slot is empty (R102). -/
def OrderUnit.shown (o : OrderUnit) (f : OutFrame) : OrderUnit := if f = .beacon then { o with answer := none } else o

theorem Station.sendHead_eq {s : Station} {x : QueueItem} {rest : List QueueItem} (hq : s.line.queue = x :: rest) :
    s.sendHead = if s.atSendPoint x = true then
      (((s.withLine { (s.headCounted x rest).line with
        sending := some ((s.headCounted x rest).bytesOf x.frame)
        sentRecovered := x.isBeacon && s.line.recovered }).withOrder (s.order.shown x.frame)).withInputs
          { s.inputs with quietSince := none })
      else s := by
  unfold Station.sendHead
  rw [hq]
  dsimp only
  split
  · unfold OrderUnit.shown QueueItem.isBeacon
    by_cases hb : x.frame = .beacon
    · rw [if_pos hb, if_pos (by simpa using hb)]
      rfl
    · rw [if_neg hb, if_neg (by simpa using hb)]
      rfl
  · rfl

/-- What sending the head leaves of the line interface, the inputs and the order record. -/
theorem Station.sendHead_fields {s : Station} {x : QueueItem} {rest : List QueueItem} (hq : s.line.queue = x :: rest)
    (hp : s.atSendPoint x = true) :
    s.sendHead.line = { (s.headCounted x rest).line with
      sending := some ((s.headCounted x rest).bytesOf x.frame), sentRecovered := x.isBeacon && s.line.recovered } ∧
    s.sendHead.inputs = { s.inputs with quietSince := none } ∧ s.sendHead.order = s.order.shown x.frame := by
  rw [Station.sendHead_eq hq, if_pos hp]
  exact ⟨rfl, rfl, rfl⟩

theorem Station.line_headCounted (s : Station) (x : QueueItem) (rest : List QueueItem) :
    (s.headCounted x rest).line = { s.line with
      queue := { x with sends := x.sends + 1, inFlight := true } :: rest
      courtesy := s.nextCourtesy x
      resendCount := if 0 < x.sends then bump 255 s.line.resendCount else s.line.resendCount } := rfl

theorem Station.bytesOf_headCounted {s : Station} {x : QueueItem} (rest : List QueueItem) {f : OutFrame} (h : f ≠ .beacon) :
    (s.headCounted x rest).bytesOf f = s.bytesOf f := by
  cases f with
  | beacon => exact absurd rfl h
  | _ => rfl

theorem bump_eq (k n : Nat) : bump k n = min k (n + 1) := by
  unfold bump
  split <;> omega

/-- Where a carriage beacon shows its sender, by frame (R19). -/
theorem Station.shownPlace_spec (s : Station) :
    (s.pos.frame = .line → s.carriageBeacon.line = s.pos.line ∧ s.carriageBeacon.centre = s.pos.centre) ∧
    (s.pos.frame = .unknown → s.carriageBeacon.line = 254 ∧ s.carriageBeacon.centre = 0 ∧ s.carriageBeacon.home = 255) ∧
    (∀ k, s.pos.frame = .deck → s.map.deck? s.pos.deckTurntable s.pos.entryArm = some k →
      s.carriageBeacon.line = 255 ∧ s.carriageBeacon.deckTurntable = s.pos.deckTurntable ∧
      s.carriageBeacon.centre = s.pos.centre - k.centre) := by
  have hline : s.carriageBeacon.line = s.shownPlace.1 := rfl
  have hdeck : s.carriageBeacon.deckTurntable = s.shownPlace.2.1 := rfl
  have hcentre : s.carriageBeacon.centre = s.shownPlace.2.2 := rfl
  have hhome : s.carriageBeacon.home = s.home.getD 255 := rfl
  rw [hline, hdeck, hcentre, hhome]
  unfold Station.shownPlace Station.home Station.axisFrame
  refine ⟨fun h => ?_, fun h => ?_, fun k h hk => ?_⟩
  · rw [h]
    exact ⟨rfl, rfl⟩
  · rw [h]
    exact ⟨rfl, rfl, rfl⟩
  · rw [h, hk]
    exact ⟨rfl, rfl, rfl⟩

/-- What a carriage beacon shows of the order: the answer slot, the retry mark, or the record (R102, R193). -/
theorem Station.shownOrder_spec (s : Station) :
    (∀ a, s.order.answer = some a → s.carriageBeacon.orderNumber = a.number ∧ s.carriageBeacon.orderCode = a.state.code ∧
      s.carriageBeacon.reason = a.reason.code ∧ s.carriageBeacon.cursor = a.leg) ∧
    (s.order.answer = none → s.start.retryMark = true → s.carriageBeacon.orderNumber = 0 ∧
      s.carriageBeacon.orderCode = OrderState.waiting.code ∧ s.carriageBeacon.reason = Reason.none.code) ∧
    (s.order.answer = none → s.start.retryMark = false →
      s.carriageBeacon.orderNumber = s.order.number ∧ s.carriageBeacon.reason = s.order.reason.code ∧
      s.carriageBeacon.cursor = s.order.cursor ∧
      s.carriageBeacon.orderCode = (if s.order.state = .waiting ∧ s.order.blocked = true then blockedCode
        else s.order.state.code)) := by
  have hcode : s.carriageBeacon.orderCode = s.shownOrder.1 := rfl
  have hreason : s.carriageBeacon.reason = s.shownOrder.2.1 := rfl
  have hnumber : s.carriageBeacon.orderNumber = s.shownOrder.2.2.1 := rfl
  have hcursor : s.carriageBeacon.cursor = s.shownOrder.2.2.2 := rfl
  rw [hcode, hreason, hnumber, hcursor]
  unfold Station.shownOrder
  refine ⟨fun a ha => ?_, fun ha hm => ?_, fun ha hm => ?_⟩
  · rw [ha]
    exact ⟨rfl, rfl, rfl, rfl⟩
  · rw [ha]
    dsimp only
    rw [if_pos hm]
    exact ⟨rfl, rfl, rfl⟩
  · rw [ha]
    dsimp only
    rw [if_neg (by simp [hm])]
    refine ⟨rfl, rfl, rfl, ?_⟩
    unfold OrderUnit.shownState
    simp only [Bool.and_eq_true, decide_eq_true_eq]

/-- Settles O29. -/
theorem sendPointSendsTheHead : Obligations.SendPointSendsTheHead := by
  intro dt x rest s hon hq
  have hsend := Station.sendHead_eq (s := s.old dt) hq
  have hex : exec (.sendPointReached dt) s = .next (s.settled dt (s.old dt).sendHead {}) := by
    dsimp only [exec, execSendPointReached]
    rw [State.reactWith_eq, if_pos (by exact hon)]
  refine ⟨fun hp => ?_, fun hp => ?_⟩
  · clear hsend
    obtain ⟨hline, hinputs, horder⟩ := Station.sendHead_fields (s := s.old dt) hq hp
    have hcount := (s.old dt).line_headCounted x rest
    have hbytes : x.frame ≠ .beacon → ((s.old dt).headCounted x rest).bytesOf x.frame = (s.old dt).bytesOf x.frame :=
      fun hf => Station.bytesOf_headCounted rest hf
    have hcar : ((s.old dt).headCounted x rest).isCarriage = s.station.isCarriage := rfl
    set w := (s.old dt).headCounted x rest with hw
    have hresend : (s.settled dt (s.old dt).sendHead {}).station.line.resendCount = w.line.resendCount := by
      rw [State.settled_line_resendCount, hline]
    refine ⟨_, hex, rfl, ?_, ?_, fun hf => ?_, ?_, ?_, ?_, ?_, ?_, fun hf hc => ⟨w.carriageBeacon, ?_⟩,
      fun hf hc => ⟨w.turntableBeacon, ?_⟩⟩
    · rw [hline, hcount]
    · rw [State.settled_line_sending, hline]
      rfl
    · rw [State.settled_line_sending, hline, ← hbytes hf]
    · rw [State.settled_inputs, hinputs]
    · rw [State.settled_line_courtesy, hline, hcount]
      rfl
    · rw [hresend, hcount, bump_eq]
      rfl
    · rw [State.settled_order_answer, horder]
      unfold OrderUnit.shown
      split <;> rfl
    · rw [State.settled_line_sentRecovered, hline]
      rfl
    · have hsending : (s.settled dt (s.old dt).sendHead {}).station.line.sending =
          some (WireFrame.encode ⟨s.station.par.station, Role.code s.station.par.role, .carriageBeacon w.carriageBeacon⟩) := by
        rw [State.settled_line_sending, hline, hf]
        unfold Station.bytesOf Station.contentOf
        rw [hcar, if_pos hc]
        rfl
      obtain ⟨p1, p2, p3⟩ := w.shownPlace_spec
      obtain ⟨o1, o2, o3⟩ := w.shownOrder_spec
      obtain ⟨h1, h2⟩ := w.claims.heldList_spec
      exact ⟨hsending, rfl, rfl, rfl, rfl, rfl, rfl, p1, p2, p3, rfl, rfl, rfl, rfl, rfl, rfl, rfl, o1, o2, o3, h1, h2, rfl,
        hresend.symm⟩
    · have hsending : (s.settled dt (s.old dt).sendHead {}).station.line.sending =
          some (WireFrame.encode ⟨s.station.par.station, Role.code s.station.par.role, .turntableBeacon w.turntableBeacon⟩) := by
        rw [State.settled_line_sending, hline, hf]
        unfold Station.bytesOf Station.contentOf
        rw [hcar, if_neg (by simp [hc])]
        rfl
      obtain ⟨h1, h2⟩ := w.claims.heldList_spec
      have hholder : w.turntableBeacon.holder = (s.station.tt.holder.map (·.station)).getD 0 := rfl
      refine ⟨hsending, rfl, rfl, rfl, rfl, rfl, fun hn => ?_, fun y hy => ?_, rfl, rfl, rfl, rfl, h1, h2, rfl, hresend.symm⟩
      · rw [hholder, hn]
        rfl
      · rw [hholder, hy]
        rfl
  · rw [hex, hsend, if_neg (by simp [hp])]

end Sys2Proof.Machine
end

section
/-! PROOFS. The echo that judges a frame in flight (R58, R63, R168, R170, R182, R185, R187). -/

namespace Sys2Proof.Machine

theorem takeBack_of_waiting (p : OutFrame → Bool) {q : List QueueItem} (h : ∀ x ∈ q, x.inFlight = false) :
    takeBack p q = q.filter fun x => !p x.frame := by
  unfold takeBack
  induction q with
  | nil => rfl
  | cons x xs ih =>
    rw [List.filterMap_cons, List.filter_cons, ih fun y hy => h y (.tail _ hy), h x (.head _)]
    cases p x.frame <;> rfl

theorem waiting_withoutInFlight (q : List QueueItem) : ∀ x ∈ withoutInFlight q, x.inFlight = false := fun x hx => by
  simpa using (List.mem_filter.1 hx).2

theorem Station.line_tell (s : Station) (a : Asker) (n : Nat) (t : Told) : (s.tell a n t).line = s.line := by
  unfold Station.tell Station.retryBodyClaim Station.markPopped
  split <;> (try split) <;> (try split) <;> rfl

/-! ## A good echo (R185, R187) -/

/-- The line interface after a good echo, before the maker of the frame is told (R185, R187). -/
def Station.echoed (s : Station) : Station :=
  ((s.withLine { s.line with
    queue := withoutInFlight s.line.queue, sending := none
    recovered := s.line.recovered && !s.line.sentRecovered, sentRecovered := false }).withInputs
      { s.inputs with quietSince := some s.now }).heardSelf

theorem Station.goodEcho_eq (s : Station) (x : QueueItem) : s.goodEcho x = s.echoed.reportSent x := rfl

theorem Station.heardSelf_eq (s : Station) : s.heardSelf = s.withLine s.heardSelf.line := by
  unfold Station.heardSelf
  split
  · exact s.restartSilence_eq
  · rfl
  · rfl

theorem Station.heardSelf_line (s : Station) :
    s.heardSelf.line = match s.line.state with
      | .heard => { s.line with
          silenceTimer := if s.isCarriage then some (s.ms + 3 * s.line.period) else s.line.silenceTimer }
      | .silent => { s.line with state := .recovering, recoveryTimer := some (s.ms + s.par.beacon) }
      | .recovering => s.line := by
  unfold Station.heardSelf Station.restartSilence
  cases s.line.state with
  | heard => dsimp only; split <;> rfl
  | silent => rfl
  | recovering => rfl

theorem Station.echoed_keeps (s : Station) :
    s.echoed.claims = s.claims ∧ s.echoed.passage = s.passage ∧ s.echoed.inputs = { s.inputs with quietSince := some s.now } ∧
    s.echoed.ms = s.ms ∧ s.echoed.par = s.par := by
  unfold Station.echoed
  rw [Station.heardSelf_eq]
  exact ⟨rfl, rfl, rfl, rfl, rfl⟩

/-- The line state machine under a good echo (R187). -/
theorem Station.echoed_line (s : Station) :
    s.echoed.line.queue = withoutInFlight s.line.queue ∧ s.echoed.line.sending = none ∧
    s.echoed.line.badCount = s.line.badCount ∧ s.echoed.line.sentRecovered = false ∧
    s.echoed.line.recovered = (s.line.recovered && !s.line.sentRecovered) ∧
    (s.line.state = .silent → s.echoed.line.state = .recovering ∧
      s.echoed.line.recoveryTimer = some (s.ms + s.par.beacon)) ∧
    (s.line.state = .heard → s.echoed.line.state = .heard ∧
      s.echoed.line.silenceTimer = if s.isCarriage then some (s.ms + 3 * s.line.period) else s.line.silenceTimer) ∧
    (s.line.state = .recovering → s.echoed.line.state = .recovering ∧
      s.echoed.line.recoveryTimer = s.line.recoveryTimer) := by
  unfold Station.echoed
  rw [Station.heardSelf_line]
  dsimp only [Station.withLine, Station.withInputs]
  cases s.line.state with
  | heard => exact ⟨rfl, rfl, rfl, rfl, rfl, fun h => (nomatch h), fun _ => ⟨rfl, rfl⟩, fun h => (nomatch h)⟩
  | silent => exact ⟨rfl, rfl, rfl, rfl, rfl, fun _ => ⟨rfl, rfl⟩, fun h => (nomatch h), fun h => (nomatch h)⟩
  | recovering => exact ⟨rfl, rfl, rfl, rfl, rfl, fun h => (nomatch h), fun h => (nomatch h), fun _ => ⟨rfl, rfl⟩⟩

theorem Station.openWindow_entries (s : Station) (seg : Nat) :
    (s.openWindow seg).claims.entries = s.claims.entries.map fun e =>
      if e.seg = seg ∧ e.state = .listening ∧ e.windowEnd = none then
        { e with windowEnd := some (s.ms + s.par.window) }
      else e := by
  have h : (s.openWindow seg).claims.entries = s.claims.entries.map fun e => if e.seg = seg then
      (if e.state = .listening && e.windowEnd.isNone then { e with windowEnd := some (s.ms + s.par.window) } else e)
      else e := rfl
  rw [h]
  refine List.map_congr_left fun e _ => ?_
  by_cases hs : e.seg = seg <;> simp [hs, Option.isNone_iff_eq_none]

/-- What the maker of a sent frame does (R58, R168, R170). -/
theorem Station.reportSent_spec (s : Station) (x : QueueItem) :
    (s.reportSent x).line = s.line ∧ (s.reportSent x).inputs = s.inputs ∧
    (∀ seg tag r, x.frame = .claim seg tag r → x.orphan = false →
      (s.reportSent x).claims.entries = (s.openWindow seg).claims.entries) ∧
    ((∀ seg tag r, x.frame ≠ .claim seg tag r) → (s.reportSent x).claims = s.claims) ∧
    (s.reportSent x).passage = { s.passage with
      askTime := if x.frame.kind = .turnAsk then some s.ms else s.passage.askTime
      aboardTime := if x.frame.kind = .turnAboard then some s.ms else s.passage.aboardTime } := by
  unfold Station.reportSent
  cases x.frame with
  | claim seg tag r =>
    dsimp only
    split
    case isTrue ho => exact ⟨rfl, rfl, fun _ _ _ _ h => (nomatch ho.symm.trans h), fun h => absurd rfl (h _ _ _), rfl⟩
    case isFalse => exact ⟨rfl, rfl, fun _ _ _ h _ => by cases h; rfl, fun h => absurd rfl (h _ _ _), rfl⟩
  | _ => exact ⟨rfl, rfl, fun _ _ _ h _ => (nomatch h), fun _ => rfl, rfl⟩

/-! ## A failed echo (R182, R185, R187) -/

/-- The line interface after a failed echo, but for the queue (R185, R187). -/
def Station.unheard (s : Station) : Station :=
  (s.withLine (if s.line.state = .recovering then
      { s.line with sending := none, sentRecovered := false, state := .silent, recoveryTimer := none }
    else { s.line with sending := none, sentRecovered := false })).withInputs { s.inputs with quietSince := some s.now }

/-- The part as a frame leaves the queue without a good echo. -/
def Station.unsent (s : Station) : Station := s.unheard.setQueue (withoutInFlight s.line.queue)

theorem Station.unheard_line (s : Station) :
    s.unheard.line.queue = s.line.queue ∧ s.unheard.line.sending = none ∧ s.unheard.line.recovered = s.line.recovered ∧
    s.unheard.line.badCount = s.line.badCount ∧ s.unheard.line.fault = s.line.fault ∧
    (s.line.state = .recovering → s.unheard.line.state = .silent ∧ s.unheard.line.recoveryTimer = none) := by
  unfold Station.unheard
  dsimp only [Station.withLine, Station.withInputs]
  split
  · exact ⟨rfl, rfl, rfl, rfl, rfl, fun _ => ⟨rfl, rfl⟩⟩
  · next hr => exact ⟨rfl, rfl, rfl, rfl, rfl, fun h => absurd h hr⟩

/-- A fourth sending drops the frame; before it the frame waits for its resend (R185). -/
theorem Station.failedEcho_eq (s : Station) (x : QueueItem) :
    s.failedEcho x = if x.sends < 4 then
        s.unheard.setQueue (s.line.queue.map fun y => if y.inFlight then { y with inFlight := false } else y)
      else s.unsent.reportDropped x := by
  have hq := s.unheard_line.1
  have h : s.failedEcho x = if x.sends < 4 then
        s.unheard.setQueue (s.unheard.line.queue.map fun y => if y.inFlight then { y with inFlight := false } else y)
      else (s.unheard.setQueue (withoutInFlight s.unheard.line.queue)).reportDropped x := by
    unfold Station.failedEcho Station.unheard
    rfl
  rw [h, hq]
  rfl

theorem Station.claimNotSent_eq {s : Station} {seg : Nat} {e : ClaimEntry} (he : s.claims.entry? seg = some e)
    (hl : e.state = .listening) (hw : e.windowEnd = none) :
    s.claimNotSent seg = (s.removeGroup e).tell e.asker e.seg .notNow := by
  unfold Station.claimNotSent
  rw [he]
  dsimp only
  rw [if_pos (by simp [hl, hw])]

theorem Station.steady_reportDropped (s : Station) (x : QueueItem) : (s.reportDropped x).steady = s.steady := by
  unfold Station.reportDropped
  split
  · split
    · rfl
    · exact s.steady_claimNotSent _
  · split <;> rfl
  · split <;> rfl
  · exact s.steady_oweClear _
  · rfl

/-- A dropped frame other than a CLAIM leaves the claims and the queue (R182). -/
theorem Station.reportDropped_line {s : Station} {x : QueueItem} (h : ∀ seg tag r, x.frame ≠ .claim seg tag r) :
    (s.reportDropped x).line = s.line := by
  unfold Station.reportDropped
  split
  · next hf => exact absurd hf (h _ _ _)
  · split <;> rfl
  · split <;> rfl
  · unfold Station.oweClear
    split <;> rfl
  · rfl

theorem Station.mem_oweClear (s : Station) (n : Nat) : n ∈ (s.oweClear n).passage.clearsOwed := by
  unfold Station.oweClear
  split
  · next h => simpa using h
  · exact List.mem_append_right _ (List.mem_singleton_self n)

/-- A CLAIM not sent takes its entry with the group, without a loss (R58, R63). -/
theorem Station.removeGroup_told {s : Station} {seg : Nat} {e : ClaimEntry} (hs : e.seg = seg) :
    let group (y : ClaimEntry) : Bool := y.seg = seg || (e.tag ≠ 0 && y.tag = e.tag && y.state = .listening)
    let u := (s.removeGroup e).tell e.asker e.seg .notNow
    u.claims.entries = s.claims.entries.filter (fun y => !group y) ∧ u.claims.waitCount = s.claims.waitCount ∧
    u.line.queue = takeBack (OutFrame.claims ((s.claims.entries.filter group).map (·.seg))) s.line.queue ∧
    (e.asker = .startup → s.start.phase = .bodyClaim → s.line.fault = false →
      u.start.retryMark = true ∧ u.start.retryAt = some (s.ms + s.par.beacon)) := by
  subst hs
  intro group u
  have hc : u.claims = (s.removeGroup e).claims := Station.claims_tell _ _ _ _
  refine ⟨by rw [hc]; rfl, by rw [hc]; rfl, congrArg LineIf.queue (Station.line_tell _ _ _ _), fun ha hp hf => ?_⟩
  have hu : u = (s.removeGroup e).retryBodyClaim := by
    dsimp only [u]
    rw [ha]
    exact if_pos hp
  have hf' : (s.removeGroup e).line.fault = false := hf
  have hr : (s.removeGroup e).retryBodyClaim = (s.removeGroup e).withStart
      { s.start with retryMark := true, retryAt := some (s.ms + s.par.beacon), asking := false } :=
    if_neg (by rw [hf']; decide)
  rw [hu, hr]
  exact ⟨rfl, rfl⟩

/-- Settles O30. -/
theorem echoesAreJudged : Obligations.EchoesAreJudged := by
  intro dt x b s hon hsend hfl
  have hjudge : ∀ f : Station → QueueItem → Station, (s.old dt).judgeEcho f = f (s.old dt) x := fun f => by
    unfold Station.judgeEcho
    rw [State.old_line, hsend, hfl]
  have hgood : exec (.echoGood dt) s = .next (s.settled dt ((s.old dt).goodEcho x) {}) := by
    dsimp only [exec, execEchoGood]
    rw [State.reactWith_eq, if_pos (by exact hon), hjudge]
  have hfail : exec (.echoFailed dt) s = .next (s.settled dt ((s.old dt).failedEcho x) {}) := by
    dsimp only [exec, execEchoFailed]
    rw [State.reactWith_eq, if_pos (by exact hon), hjudge]
  constructor
  · obtain ⟨hclaims, hpassage, hinputs, hms, hpar⟩ := (s.old dt).echoed_keeps
    obtain ⟨hqueue, hnone, hbad, hsr, hrec, hsilent, hheard, hrecovering⟩ := (s.old dt).echoed_line
    obtain ⟨hline, hin, hwin, hkeep, hpass⟩ := (s.old dt).echoed.reportSent_spec x
    rw [← Station.goodEcho_eq] at hline hin hwin hkeep hpass
    refine ⟨_, hgood, rfl, ?_, ?_, ?_, ?_, fun h => ?_, fun seg tag r hf ho => ?_, fun h => ?_, ?_, ?_, ?_, fun h => ?_,
      fun h => ?_⟩
    · rw [hline, hqueue, State.old_line]
    · rw [State.settled_line_sending, hline, hnone]
    · rw [State.settled_inputs, hin, hinputs]
    · rw [State.settled_line_badCount, hline, hbad, State.old_line]
    · rw [State.settled_line_state, State.settled_line_recoveryTimer, hline]
      exact hsilent h
    · rw [hwin seg tag r hf ho, Station.openWindow_entries, hclaims, hms, hpar, State.old_claims, State.old_par]
    · rw [hkeep h, hclaims, State.old_claims]
    · rw [hpass, hpassage, hms, State.old_passage]
    · rw [State.settled_line_recovered, hline, hrec, State.old_line]
    · rw [State.settled_line_sentRecovered, hline, hsr]
    · rw [State.settled_line_state, State.settled_line_silenceTimer, hline]
      exact hheard h
    · rw [State.settled_line_state, State.settled_line_recoveryTimer, hline]
      exact hrecovering h
  · obtain ⟨hqueue, hnone, hrec, hbad, hfault, hstate⟩ := (s.old dt).unheard_line
    have heq := (s.old dt).failedEcho_eq x
    have hsteady : ((s.old dt).failedEcho x).steady = (s.old dt).unheard.steady := by
      rw [heq]
      split
      · rfl
      · rw [Station.steady_reportDropped]
        rfl
    have hdropped : 4 ≤ x.sends → (s.old dt).failedEcho x = (s.old dt).unsent.reportDropped x := fun h => by
      rw [heq, if_neg (by omega)]
    have hwait : ∀ y ∈ (s.old dt).unsent.line.queue, y.inFlight = false := waiting_withoutInFlight s.station.line.queue
    refine ⟨_, hfail, rfl, fun h => ?_, fun h hf => ?_, fun seg tag r e h hf ho he hl hw => ?_, fun n h hf => ?_,
      fun h => ?_, ?_, ?_, ?_, ?_, fun h => ?_⟩
    · rw [heq, if_pos h]
      rfl
    · rw [hdropped h, Station.reportDropped_line hf]
      rfl
    · intro group u
      have hu : u = ((s.old dt).unsent.removeGroup e).tell e.asker e.seg .notNow := by
        dsimp only [u]
        rw [hdropped h, ← Station.claimNotSent_eq (s := (s.old dt).unsent) he hl hw]
        unfold Station.reportDropped
        rw [hf]
        dsimp only
        rw [if_neg (by simp [ho])]
      have hseg : e.seg = seg := by simpa using List.find?_some he
      rw [hu]
      obtain ⟨h1, h2, h3, h4⟩ := Station.removeGroup_told (s := (s.old dt).unsent) hseg
      exact ⟨h1, h2, h3.trans (takeBack_of_waiting _ hwait), fun ha hp hff => h4 ha hp (hfault.trans hff)⟩
    · rw [hdropped h]
      unfold Station.reportDropped
      rw [hf]
      exact Station.mem_oweClear _ n
    · rw [heq, if_pos h]
      rfl
    · rw [State.settled_line_recovered, Station.field_of_steady (·.line.recovered) (fun _ => rfl) hsteady, hrec,
        State.old_line]
    · rw [State.settled_line_sending, Station.field_of_steady (·.line.sending) (fun _ => rfl) hsteady, hnone]
    · rw [State.settled_inputs, Station.field_of_steady (·.inputs) (fun _ => rfl) hsteady]
      rfl
    · rw [State.settled_line_badCount, Station.field_of_steady (·.line.badCount) (fun _ => rfl) hsteady, hbad,
        State.old_line]
    · rw [State.settled_line_state, State.settled_line_recoveryTimer,
        Station.field_of_steady (·.line.state) (fun _ => rfl) hsteady,
        Station.field_of_steady (·.line.recoveryTimer) (fun _ => rfl) hsteady]
      exact hstate h

end Sys2Proof.Machine
end

section
/-! PROOFS. The times of the order unit, and the passage side at its evaluations (R107, R114, R121, R168–R172). -/

namespace Sys2Proof.Machine

/-! ## The body claim of SET-POSITION asked again (R121) -/

theorem Station.steady_askBody (s : Station) : s.askBody.steady = s.steady := by
  unfold Station.askBody
  split
  · rfl
  · exact Station.steady_claimGroup _ _ _ _

theorem Station.evalTimer_retryBody (s : Station) :
    s.retryBody.order.evalTimer = s.order.evalTimer ∧ s.retryBody.order.number = s.order.number := by
  have h : s.retryBody.steady = s.steady := Station.steady_askBody _
  exact ⟨Station.field_of_steady (·.order.evalTimer) (fun _ => rfl) h,
    Station.field_of_steady (·.order.number) (fun _ => rfl) h⟩

/-! ## TURN-ASK sent again (R169) -/

theorem Station.askAgain_room {s : Station} (h : s.line.queue.length < 8) :
    s.askAgain = (s.withPassage { s.passage with askTime := none, retryDue := none, askOwed := false }).setQueue
      (enqueue s.line.queue (.turnAsk s.passage.turntable s.passage.entryArm s.passage.exitArm)) := by
  unfold Station.askAgain
  dsimp only
  rw [Station.offer_room]
  · rfl
  · exact h

/-! ## The passage side at an evaluation (R168, R169, R171, R172) -/

theorem Station.passageEval_eq {s : Station} (h : s.passage.clearsOwed = []) : s.passageEval = s.passageRule := by
  have hs : s.withPassage { s.passage with clearsOwed := [] } = s := by
    rw [← h]
    rfl
  unfold Station.passageEval Station.offerClears
  rw [h, List.foldl_nil, hs]

/-- The passage is given up with TURN-CLEAR, its DECK entry taken out (R171, R172). -/
theorem Station.clearPassage_room {s : Station} (hc : s.passage.clearsOwed = []) (h : s.line.queue.length < 8) :
    s.clearPassage.passage = {} ∧ s.clearPassage.claims.deckReserve = false ∧
    s.clearPassage.queues (.turnClear s.passage.turntable) ∧
    ∀ n, s.map.deckSegment s.passage.turntable = some n → ∀ e ∈ s.clearPassage.claims.entries,
      ¬(e.seg = n ∧ e.purpose = .deck) := by
  have hu : s.clearPassage = (((s.setQueue (enqueue s.line.queue (.turnClear s.passage.turntable))).removeDeckEntry
      s.passage.turntable).setReserve false).endPassage := by
    unfold Station.clearPassage Station.sendClear
    rw [Station.offer_room _ h]
  rw [hu]
  refine ⟨?_, rfl, s.queues_enqueue _ _, fun n hn e he => ?_⟩
  · have hp : ∀ w : Station, w.passage = s.passage → w.endPassage.passage = {} := fun w hw => by
      unfold Station.endPassage
      rw [hw, hc]
      rfl
    exact hp _ rfl
  · rintro ⟨rfl, hd⟩
    have he := (List.mem_filter.1 he).2
    simp [hd] at he
    exact he hn

/-- When the present leg, a TURNTABLE leg, calls for a first TURN-ASK (R168). -/
theorem Station.askWanted_leg {s : Station} {l : Nat} {d : Dir} {t e k a : Nat} {x : LineSlot} (hn : s.passage.state = .none)
    (hg : s.order.leg? = some ⟨l, d, .turntable t e⟩) (hx : s.map.line? l = some x)
    (ha : s.map.arm? l d.atHigh = some (k, a)) :
    s.askWanted = if (s.order.state = .running ∨ s.order.state = .waiting) ∧ s.pos.frame = .line ∧
        (if d = .up then x.high ≤ s.guardedFront + (s.d 7 + s.par.margin : Nat)
          else s.guardedFront - (s.d 7 + s.par.margin : Nat) ≤ x.low)
      then some (t, a, e) else none := by
  have hnear : s.nearLineEnd ⟨l, d, .turntable t e⟩ = true ↔
      if d = .up then x.high ≤ s.guardedFront + (s.d 7 + s.par.margin : Nat)
        else s.guardedFront - (s.d 7 + s.par.margin : Nat) ≤ x.low := by
    unfold Station.nearLineEnd
    dsimp only
    rw [hx, Option.any_some]
    cases d <;> simp
  unfold Station.askWanted
  rw [hg]
  dsimp only
  rw [ha]
  simp only [Bool.and_eq_true, Bool.or_eq_true, decide_eq_true_eq, hnear, hn, true_and, and_assoc, Option.map_some]

theorem Station.askWanted_elsewhere {s : Station} (h : ∀ l d t e, s.order.leg? ≠ some ⟨l, d, .turntable t e⟩) :
    s.askWanted = none := by
  unfold Station.askWanted
  split
  · next hg => exact absurd hg (h _ _ _ _)
  · rfl

theorem Station.firstAsk_none {s : Station} (h : s.askWanted = none) : s.firstAsk = s := by
  unfold Station.firstAsk
  rw [h]

theorem Station.firstAsk_room {s : Station} {t a e : Nat} (h : s.askWanted = some (t, a, e))
    (hc : s.passage.clearsOwed = []) (hq : s.line.queue.length < 8) :
    s.firstAsk.passage = { state := .asked, turntable := t, entryArm := a, exitArm := e } ∧
    s.firstAsk.claims.deckReserve = true ∧ s.firstAsk.queues (.turnAsk t a e) := by
  have hu : s.firstAsk = ((s.setQueue (enqueue s.line.queue (.turnAsk t a e))).withPassage
      { state := .asked, turntable := t, entryArm := a, exitArm := e, clearsOwed := s.passage.clearsOwed }).setReserve
        true := by
    unfold Station.firstAsk
    rw [h]
    dsimp only
    rw [Station.offer_room _ hq]
    rfl
  rw [hu, hc]
  exact ⟨rfl, rfl, s.queues_enqueue _ _⟩

/-- Settles O36, with the passage record's own rule read by its state. -/
theorem orderTimersAndPassageAct : Obligations.OrderTimersAndPassageAct := by
  intro dt s hon hcar
  refine ⟨fun hdue => ?_, fun w hw hs hend => ?_, fun hasked hdue hq => ?_, fun v hc => ?_⟩
  · intro v
    obtain ⟨htimer, hnumber⟩ := v.evalTimer_retryBody
    refine ⟨s.settled dt v.retryBody { order := true }, ?_, rfl, ?_, ?_⟩
    · dsimp only [exec, execOrderEvaluationTimer]
      rw [State.onTimer_due _ _ _ _ _ hon hdue, if_pos (by exact hcar)]
      rfl
    · rw [State.settled_order_evalTimer, htimer]
      rfl
    · rw [State.settled_order_number, hnumber]
      rfl
  · intro u
    have hdue : dueAt (s.old dt).blockEnd (s.old dt).ms = true := by
      unfold Station.blockEnd
      rw [State.old_order, if_pos hw, hs]
      simpa [dueAt] using hend
    refine ⟨s.settled dt u { order := true }, ?_, rfl, ?_, ?_⟩
    · dsimp only [exec, execBlockTimeExpiry]
      rw [State.onTimer_due _ _ _ _ _ hon hdue]
      rfl
    · unfold OrderUnit.shownState
      rw [if_pos (by simp [u, hw])]
      rfl
    · rw [State.settled_order_number]
      rfl
  · intro u
    have hu := Station.askAgain_room (s := s.old dt) hq
    refine ⟨s.settled dt u {}, ?_, rfl, ?_, ?_, ?_, ?_⟩
    · dsimp only [exec, execPassageRetryDue]
      rw [State.onTimer_due _ _ _ _ _ hon hdue, if_pos (by simp [hcar, hasked])]
    · dsimp only [u]
      rw [hu]
      exact (s.old dt).queues_enqueue _ _
    · dsimp only [u]
      rw [hu]
      rfl
    · dsimp only [u]
      rw [hu]
      exact hasked
    · dsimp only [u]
      rw [State.settled_peers, hu]
      rfl
  · intro u givenUp keeps
    have hu : u = v.passageRule := Station.passageEval_eq hc
    have hkeeps : v.legKeepsPassage = true ↔ keeps := v.legKeepsPassage_iff
    have hgiven : v.line.queue.length < 8 → u = v.clearPassage → givenUp := fun hq h => by
      dsimp only [givenUp]
      rw [h]
      exact Station.clearPassage_room hc hq
    clear_value u givenUp keeps
    have hrule : ∀ x, v.passage.state = x → u = match x with
        | .none => v.firstAsk
        | .asked =>
          if v.pos.frame ≠ .deck && !v.legKeepsPassage then v.clearPassage
          else if v.passage.askOwed ||
            ((v.servingStation v.passage.turntable).isNone && v.sinceAsk v.par.beacon) then v.askAgain
          else v
        | .granted => if !v.legKeepsPassage && !v.onPassageDeck then v.clearPassage else v
        | .leaving => if v.pos.frame = .line && !v.onPassageDeck then v.clearPassage else v
        | _ => v := fun x hx => by
      rw [hu, ← hx]
      rfl
    refine ⟨fun l d t e x k a hn hg hx ha => ?_, fun hn hg => ?_, fun hs hd hk hq => ?_, fun hs hd ho hserve => ?_,
      fun hs hk hd hq => ?_, fun hs hk => ?_, fun hs hf hd hq => ?_, fun hs hk => ?_, fun hs => ?_⟩
    · have hwant := Station.askWanted_leg hn hg hx ha
      intro far wanted
      rw [hrule _ hn]
      exact ⟨fun hw hq => Station.firstAsk_room (hwant.trans (if_pos hw)) hc hq,
        fun hw => Station.firstAsk_none (hwant.trans (if_neg hw))⟩
    · rw [hrule _ hn]
      exact Station.firstAsk_none (Station.askWanted_elsewhere hg)
    · refine hgiven hq ((hrule _ hs).trans (if_pos ?_))
      simp [hd, mt hkeeps.1 hk]
    · refine (hrule _ hs).trans ?_
      dsimp only
      rw [if_neg, if_neg]
      · simp [ho, Option.isNone_iff_eq_none, hserve]
      · rw [← hkeeps] at hd
        rcases hd with hd | hd <;> simp [hd]
    · refine hgiven hq ((hrule _ hs).trans (if_pos ?_))
      simp [hd, mt hkeeps.1 hk]
    · refine (hrule _ hs).trans (if_neg ?_)
      rw [← hkeeps] at hk
      rcases hk with hk | hk <;> simp [hk]
    · refine hgiven hq ((hrule _ hs).trans (if_pos ?_))
      simp [hf, hd]
    · refine (hrule _ hs).trans (if_neg ?_)
      rcases hk with hk | hk <;> simp [hk]
    · rcases hs with hs | hs <;> exact hrule _ hs

end Sys2Proof.Machine
end

section
/-! PROOFS. Objections to the own claims, double holds, and the order of ranks (R54, R61, R62, R65, R73–R75, R165). -/

namespace Sys2Proof.Machine

/-! ## Ranks (R54) -/

/-- Of the ranks of two stations exactly one outranks the other (R54). -/
theorem outranks_antisymm (a b : Rank) {na nb : Nat} (h : na ≠ nb) : outranks a na b nb = !outranks b nb a na := by
  obtain ⟨wa, ca⟩ := a
  obtain ⟨wb, cb⟩ := b
  unfold outranks
  by_cases hc : ca = cb
  · by_cases hw : wa = wb
    · simp only [hc, hw]
      simp only [bne_self_eq_false, ne_eq, not_true_eq_false, if_false, Bool.false_eq_true]
      rw [← decide_not, decide_eq_decide]
      omega
    · simp only [hc, bne_self_eq_false, Bool.false_eq_true, if_false, ne_eq, hw, Ne.symm hw, not_false_eq_true, if_true]
      rw [← decide_not, decide_eq_decide]
      omega
  · cases ca <;> cases cb <;> simp_all

theorem outranks_trans {a b c : Rank} {na nb nc : Nat} (hab : outranks a na b nb = true) (hbc : outranks b nb c nc = true) :
    outranks a na c nc = true := by
  have hiff : ∀ (r t : Rank) (n m : Nat), outranks r n t m = true ↔
      (r.courtesy = false ∧ t.courtesy = true) ∨
      (r.courtesy = t.courtesy ∧ (t.wait < r.wait ∨ (r.wait = t.wait ∧ n < m))) := fun r t n m => by
    obtain ⟨wr, cr⟩ := r
    obtain ⟨wt, ct⟩ := t
    unfold outranks
    by_cases hw : wr = wt
    · cases cr <;> cases ct <;> simp [hw]
    · cases cr <;> cases ct <;> simp [hw]
  rw [hiff] at hab hbc ⊢
  obtain ⟨ha, hb⟩ | ⟨hc, hab⟩ := hab
  · obtain ⟨hb', -⟩ | ⟨hc', -⟩ := hbc
    · exact absurd (hb.symm.trans hb') (by decide)
    · exact .inl ⟨ha, hc'.symm.trans hb⟩
  · obtain ⟨hb', hc'⟩ | ⟨hc', hbc⟩ := hbc
    · exact .inl ⟨hc.trans hb', hc'⟩
    · exact .inr ⟨hc.trans hc', by omega⟩

/-! ## Objections (R61) -/

theorem Station.peerObject_eq (s : Station) (p seg : Nat) (k : Objection) (r : Rank) (c : Nat) :
    s.peerObject p seg k r c = s.withPeers (s.peerObject p seg k r c).peers := by
  unfold Station.peerObject
  dsimp only
  split
  · rw [Station.mapPeer_eq, Station.mapPeer_eq]
    rfl
  · exact Station.mapPeer_eq _ _ _

/-- How an OBJECT for a segment of the own list is taken (R61, R73). -/
theorem Station.takeObject_eq {s : Station} {p seg : Nat} {k : Objection} {c : Nat} {e : ClaimEntry}
    (hv : s.validSeg seg = true) (he : s.claims.entry? seg = some e) :
    s.takeObject p seg k c =
      if c = s.par.station then
        (if e.state = .listening then s.abandon e else if k = .occupied then s else s.doubleHold p seg)
      else if k = .holds then s.doubleHold p seg else s := by
  unfold Station.takeObject
  rw [hv, he]
  rfl

theorem Station.retryTime_abandon {s : Station} {e : ClaimEntry} (hd : e.drop = false) (ha : e.asker = .turntable) :
    (s.abandon e).tt.retryTime = some (s.ms + s.par.window) := by
  unfold Station.abandon
  rw [if_neg (by simp [hd]), ha]
  rfl

/-! ## Double holds (R73–R75) -/

theorem Station.any_held {s : Station} {seg : Nat} {e : ClaimEntry} (hn : (s.claims.entries.map (·.seg)).Nodup)
    (he : s.claims.entry? seg = some e) (p : ClaimEntry → Bool) :
    (s.claims.entries.any fun x => x.seg = seg && p x) = p e := by
  have hmem := List.mem_of_find?_eq_some he
  have hseg : e.seg = seg := by simpa using List.find?_some he
  cases hp : p e with
  | true => exact List.any_eq_true.2 ⟨e, hmem, by simp [hseg, hp]⟩
  | false =>
    refine List.any_eq_false.2 fun x hx hxp => ?_
    simp only [Bool.and_eq_true, decide_eq_true_eq] at hxp
    obtain rfl := List.inj_on_of_nodup_map hn hx hmem (hxp.1.trans hseg.symm)
    exact absurd (hp.symm.trans hxp.2) (by decide)

/-- A double hold is looked at for a segment HELD or YIELDING here, other than a DECK (R73). -/
theorem Station.doubleHold_eq {s : Station} {seg : Nat} {e : ClaimEntry} (hn : (s.claims.entries.map (·.seg)).Nodup)
    (he : s.claims.entry? seg = some e) (p : Nat) :
    s.doubleHold p seg = if e.holding = true ∧ e.purpose ≠ .deck then s.resolveDouble p seg else s := by
  have hany := Station.any_held hn he fun x => x.holding && decide (x.purpose ≠ .deck)
  simp only [← Bool.and_assoc] at hany
  unfold Station.doubleHold
  rw [hany]
  simp only [Bool.and_eq_true, decide_eq_true_eq]

theorem Station.giveUp_spec {s : Station} {seg : Nat} {e : ClaimEntry} (hn : (s.claims.entries.map (·.seg)).Nodup)
    (he : s.claims.entry? seg = some e) (hd : e.purpose ≠ .deck) :
    (e.state = .yielding → s.giveUp seg = s) ∧
    (e.state = .held → seg < 128 → (s.giveUp seg).claims.entries = s.claims.entries.filter (·.seg ≠ seg) ∧
      (s.giveUp seg).claims.stamps[seg]? = some (some s.ms) ∧
      (s.giveUp seg).claims.waitCount = bump 15 s.claims.waitCount ∧ (s.giveUp seg).releaseOut seg) := by
  have hheld : s.claims.isHeld seg = decide (e.state = .held) := Station.any_held hn he fun x => x.state = .held
  refine ⟨fun hs => ?_, fun hs h128 => ?_⟩
  · unfold Station.giveUp
    rw [hheld, hs]
    rfl
  · have hu : s.giveUp seg = (s.releaseEntry seg).loseClaim := by
      unfold Station.giveUp
      rw [hheld, if_pos (by simpa using hs), Station.releaseRequest_held he hs, if_neg hd]
    have hc := s.releaseEntry_claims seg
    have hout : (s.releaseEntry seg).releaseOut seg := Station.releaseOut_releaseEntry (.inr ⟨rfl, h128⟩)
    have hent : (s.giveUp seg).claims.entries = (s.releaseEntry seg).claims.entries := by rw [hu]; rfl
    have hst : (s.giveUp seg).claims.stamps = (s.releaseEntry seg).claims.stamps := by rw [hu]; rfl
    have hwait : (s.giveUp seg).claims.waitCount = bump 15 (s.releaseEntry seg).claims.waitCount := by rw [hu]; rfl
    refine ⟨?_, ?_, ?_, by rw [hu]; exact hout⟩
    · rw [hent, hc]
    · rw [hst, hc]
      simp [h128]
    · rw [hwait, hc]

/-- Both occupy: a carriage stops at once, and a rotating deck is in FAULT (R75, R165). -/
theorem Station.bothOccupy_spec (s : Station) :
    s.bothOccupy.claims = s.claims ∧
    (s.isCarriage = true → s.bothOccupy.env.commanded = 0 ∧ s.bothOccupy.env.latch = true ∧
      (s.order.state.active = true → s.bothOccupy.order.state = .stopped) ∧
      (s.order.state.active = true → s.order.state ≠ .stopped ∨ s.order.reason = .emergency →
        s.bothOccupy.order.reason = .conflict) ∧
      (s.order.state.active = false → s.bothOccupy.order = s.order)) ∧
    (s.isCarriage = false → s.bothOccupy = if s.tt.deck = .rotating then s.deckFault .conflict else s) := by
  unfold Station.isCarriage Station.bothOccupy
  cases hr : s.par.role with
  | carriage =>
    dsimp only
    have heq := s.raiseEmergency.stopOrder_eq .conflict
    have hends := s.raiseEmergency.stopOrder_ends .conflict
    have hstate : s.raiseEmergency.order = s.order := rfl
    rw [hstate] at hends
    refine ⟨by rw [heq]; rfl, fun _ => ⟨by rw [heq]; rfl, by rw [heq]; rfl, fun ha => ?_, fun ha hs => ?_, fun ha => ?_⟩,
      fun h => absurd h (by decide)⟩
    · rw [if_neg (by simp [ha])] at hends
      split at hends <;> exact congrArg Prod.fst hends
    · rw [if_neg (by simp [ha])] at hends
      split at hends
      · next hst =>
        refine (congrArg Prod.snd hends).trans (if_pos ?_)
        rw [hs.resolve_left fun h => h hst]
        rfl
      · exact congrArg Prod.snd hends
    · unfold Station.stopOrder
      rw [hstate, ha]
      rfl
  | turntable =>
    dsimp only
    refine ⟨?_, fun h => absurd h (by decide), fun _ => rfl⟩
    split <;> rfl

/-- Who keeps a segment held twice (R74, R75). -/
theorem Station.resolveDouble_eq (s : Station) (p seg : Nat) :
    s.resolveDouble p seg =
      if s.ownOccupies seg = true then (if (s.peer p).occupies s.map seg = true then s.bothOccupy else s)
      else if (s.peer p).occupies s.map seg = true then s.giveUp seg
      else if outranks s.plainRank s.par.station ⟨(s.peer p).rank.wait, false⟩ p = true then s
      else s.giveUp seg := rfl

/-- Settles O15. -/
theorem objectionsAndDoubleHoldsAreResolved : Obligations.ObjectionsAndDoubleHoldsAreResolved := by
  refine ⟨fun dt seg c k rank h e s hs hv he => ?object, fun v p seg e hb he => ?double,
    fun a b na nb h => outranks_antisymm a b h, fun a b c na nb nc h1 h2 => outranks_trans h1 h2⟩
  case object =>
    intro v u
    have hveq : v = ((s.old dt).heard h.src h.role .object).withPeers v.peers := Station.peerObject_eq ..
    have hclaims : v.claims = s.station.claims := by rw [hveq]; simp
    have hmap : v.map = s.station.map := by rw [hveq]; simp
    have hpar : v.par = s.station.par := by rw [hveq]; simp
    have hms : v.ms = (s.old dt).ms := by
      rw [hveq]
      exact Station.heard_ms _ _ _ _
    have hu : u = _ := Station.takeObject_eq (s := v) (p := h.src) (k := k) (c := c)
      (by unfold Station.validSeg; rw [hmap]; exact hv) (by rw [hclaims]; exact he)
    rw [hpar] at hu
    refine ⟨?_, fun hc hl => ?_, fun hc hl => ?_, fun hc => ?_⟩
    · dsimp only [exec, execObjectReceived]
      rw [State.reactWith_eq, (State.receive_peer dt h.role (by decide) _ hs).1]
    · rw [if_pos hc, if_pos hl] at hu
      have hcl : u.claims = _ := (congrArg Station.claims hu).trans (Station.claims_abandon v e)
      rw [hclaims] at hcl
      refine ⟨by rw [hcl], fun hd => ⟨by rw [hcl, hd]; rfl, fun ha => ?_⟩, fun hd => by rw [hcl, hd]; rfl⟩
      rw [hu, Station.retryTime_abandon hd ha, hms, hpar]
    · rw [if_pos hc, if_neg hl] at hu
      exact hu
    · rw [if_neg hc] at hu
      exact hu
  case double =>
    intro u theirs
    obtain ⟨-, hn, -⟩ := hb
    have hu : u = _ := Station.doubleHold_eq hn he p
    rw [Station.resolveDouble_eq] at hu
    obtain ⟨hbc, hbcar, hbtt⟩ := v.bothOccupy_spec
    refine ⟨fun hh => ?_, fun hh hd => ?_⟩
    · rw [if_neg (by rintro ⟨h1, h2⟩; rcases hh with hh | hh <;> simp_all)] at hu
      exact hu
    · obtain ⟨hyield, hheld⟩ := Station.giveUp_spec hn he hd
      rw [if_pos ⟨hh, hd⟩] at hu
      refine ⟨fun ho ht => ?_, fun ho ht => ?_, fun ho ht hr => ?_, fun ho hor => ?_⟩
      · rwa [if_pos ho, if_neg (by simp [show (v.peer p).occupies v.map seg = false from ht])] at hu
      · rw [if_pos ho, if_pos ht] at hu
        rw [hu]
        exact ⟨hbc, hbcar, hbtt⟩
      · rwa [if_neg (by simp [ho]), if_neg (by simp [show (v.peer p).occupies v.map seg = false from ht]), if_pos hr] at hu
      · have hgive : u = v.giveUp seg := by
          rw [if_neg (by simp [ho])] at hu
          split at hu
          · exact hu
          · next ht => rwa [if_neg (by simp [hor.resolve_left ht])] at hu
        rw [hgive]
        exact ⟨hyield, hheld⟩

end Sys2Proof.Machine
end

section
/-! PROOFS. Claim and group requests (R57, R63), and the body claim at start-up (R193). -/

namespace Sys2Proof.Machine

/-! ## Fresh group tags (R63) -/

theorem iterate_stepTag (t k : Nat) (hk : k ≤ 9) :
    stepTag^[k] t = if t + k ≤ 255 then t + k else if t ≤ 255 then t + k - 255 else if k = 0 then t else k := by
  induction k with
  | zero =>
    rw [Function.iterate_zero, id]
    split
    · rfl
    · split
      · omega
      · rfl
  | succ k ih =>
    rw [Function.iterate_succ_apply', ih (by omega)]
    unfold stepTag
    by_cases h1 : t + k ≤ 255
    · rw [if_pos h1]
      split_ifs <;> omega
    · by_cases h2 : t ≤ 255
      · simp only [if_neg h1, if_pos h2]
        split_ifs <;> omega
      · by_cases h3 : k = 0
        · simp only [if_neg h1, if_neg h2, if_pos h3, Nat.succ_ne_zero, if_false]
          rw [if_neg (by omega), if_neg (by omega), h3]
        · simp only [if_neg h1, if_neg h2, if_neg h3, Nat.succ_ne_zero, if_false]
          rw [if_pos (by omega), if_neg (by omega)]

/-- A tag that is found in the list stands after as many tags that are found there too. -/
theorem freshTag_found {l : List ClaimEntry} {n t : Nat} (h : (l.any (·.tag = freshTag l n t)) = true) :
    ∀ k < n, (l.any (·.tag = stepTag^[k] t)) = true := by
  induction n generalizing t with
  | zero => exact fun k hk => absurd hk (Nat.not_lt_zero k)
  | succ n ih =>
    unfold freshTag at h
    split at h
    · next ht =>
      rintro (_ | k) hk
      · exact ht
      · exact ih h k (by omega)
    · next ht => exact absurd h ht

/-- Nine tries are enough for a list of at most 8 (R63). -/
theorem freshTag_fresh {l : List ClaimEntry} (t : Nat) (hl : l.length ≤ 8) : ∀ e ∈ l, e.tag ≠ freshTag l 9 t := by
  by_contra hc
  have hall := freshTag_found (n := 9) (t := t) (l := l) (by simpa using hc)
  have hcard : (Finset.range 9).card ≤ (l.map (·.tag)).toFinset.card := by
    refine Finset.card_le_card_of_injOn (fun k => stepTag^[k] t) (fun k hk => ?_) fun i hi j hj hij => ?_
    · simpa using hall k (by simpa using hk)
    · have hi : i < 9 := by simpa using hi
      have hj : j < 9 := by simpa using hj
      simp only at hij
      rw [iterate_stepTag t i (by omega), iterate_stepTag t j (by omega)] at hij
      split_ifs at hij <;> omega
  have := (l.map (·.tag)).toFinset_card_le
  simp only [Finset.card_range, List.length_map] at hcard this
  omega

theorem freshTag_pos {l : List ClaimEntry} {t : Nat} (n : Nat) (ht : 1 ≤ t) : 1 ≤ freshTag l n t := by
  induction n generalizing t with
  | zero => exact ht
  | succ n ih =>
    unfold freshTag
    split
    · refine ih ?_
      unfold stepTag
      split <;> omega
    · exact ht

/-! ## One claim (R57, R58) -/

/-- The entry that a claim for `n` makes (R57). -/
def Station.newEntry (s : Station) (p : Purpose) (a : Asker) (tag n : Nat) : ClaimEntry :=
  { seg := n, purpose := p, asker := a, tag := tag, courtesy := s.wouldBeCourteous n }

/-- The CLAIM that a claim for `n` offers (R57). -/
def Station.newClaim (s : Station) (tag n : Nat) : QueueItem :=
  { frame := .claim n tag ⟨s.claims.waitCount, s.wouldBeCourteous n⟩ }

/-- The claim for `n`, its CLAIM taken by the queue. -/
def Station.claimMade (s : Station) (p : Purpose) (a : Asker) (tag n : Nat) : Station :=
  (s.setEntries (s.claims.entries ++ [s.newEntry p a tag n])).setQueue (s.line.queue ++ [s.newClaim tag n])

theorem Station.makeClaim_eq (s : Station) (n : Nat) (p : Purpose) (a : Asker) (tag : Nat) :
    s.makeClaim n p a tag = if s.line.queue.length < 8 then (s.claimMade p a tag n, true)
      else ((s.setEntries (s.claims.entries ++ [s.newEntry p a tag n])).removeGroup (s.newEntry p a tag n), false) := by
  have ho : (s.setEntries (s.claims.entries ++ [s.newEntry p a tag n])).offer (s.newClaim tag n).frame =
      if s.line.queue.length < 8 then (s.claimMade p a tag n, true)
      else (s.setEntries (s.claims.entries ++ [s.newEntry p a tag n]), false) := Station.offer_routine _ rfl
  have hm : s.makeClaim n p a tag = match (s.setEntries (s.claims.entries ++ [s.newEntry p a tag n])).offer
      (s.newClaim tag n).frame with
    | (u, true) => (u, true)
    | (u, false) => (u.removeGroup (s.newEntry p a tag n), false) := rfl
  rw [hm, ho]
  by_cases hq : s.line.queue.length < 8
  · simp only [if_pos hq]
  · simp only [if_neg hq]

/-- From `s` to `u` claims and queue change alone. -/
def Station.ClaimsOnly (s u : Station) : Prop := ∃ c q, u = (s.withClaims c).setQueue q

theorem Station.ClaimsOnly.trans {s t u : Station} (h : s.ClaimsOnly t) (k : t.ClaimsOnly u) : s.ClaimsOnly u := by
  obtain ⟨c, q, rfl⟩ := h
  obtain ⟨d, r, rfl⟩ := k
  exact ⟨d, r, rfl⟩

theorem Station.claimsOnly_makeClaim (s : Station) (n : Nat) (p : Purpose) (a : Asker) (tag : Nat) :
    s.ClaimsOnly (s.makeClaim n p a tag).1 := by
  rw [Station.makeClaim_eq]
  split
  · exact ⟨_, _, rfl⟩
  · exact ⟨_, _, rfl⟩

theorem Station.claimsOnly_makeGroup (s : Station) (p : Purpose) (a : Asker) (tag : Nat) (l : List Nat) :
    s.ClaimsOnly (s.makeGroup p a tag l).1 := by
  induction l generalizing s with
  | nil => exact ⟨_, _, rfl⟩
  | cons n l ih =>
    have h := s.claimsOnly_makeClaim n p a tag
    unfold Station.makeGroup
    split
    · next s1 hm =>
      rw [hm] at h
      exact h.trans (ih s1)
    · next s1 hm =>
      rw [hm] at h
      exact h

theorem Station.claimsOnly_claim (s : Station) (n : Nat) (p : Purpose) (a : Asker) : s.ClaimsOnly (s.claim n p a).1 := by
  unfold Station.claim
  split
  · exact ⟨_, _, rfl⟩
  · have h := s.claimsOnly_makeClaim n p a 0
    split <;> next hm =>
      rw [hm] at h
      exact h

/-! ## A group request, or a single one (R63) -/

/-- The tag of a request for the segments `l`: none for a single claim (R63). -/
def Station.requestTag (s : Station) (l : List Nat) : Nat :=
  if l.length = 1 then 0 else freshTag s.claims.entries 9 s.claims.nextTag

/-- The state that the members of a request are made from: the tag of a group is used up (R63). -/
def Station.tagTaken (s : Station) (l : List Nat) : Station :=
  if l.length = 1 then s else s.withClaims { s.claims with nextTag := stepTag (s.requestTag l) }

/-- A request as one list of members: each test of R57, then member by member (R57, R63). -/
theorem Station.claimGroup_eq (s : Station) {l : List Nat} (hl : l ≠ []) (p : Purpose) (a : Asker) :
    s.claimGroup l p a =
      match (sortBy (fun a b => decide (a ≤ b)) l).findSome? fun n => s.claimTest n l.length with
      | some x => (s, x)
      | none => match (s.tagTaken l).makeGroup p a (s.requestTag l) (sortBy (fun a b => decide (a ≤ b)) l) with
        | (u, true) => (u, .sent)
        | (u, false) => (u, .notNow) := by
  have hlen : (sortBy (fun a b => decide (a ≤ b)) l).length = l.length := (sortBy_perm _ _).length_eq
  unfold Station.claimGroup
  match hm : sortBy (fun a b => decide (a ≤ b)) l with
  | [] =>
    rw [hm] at hlen
    exact absurd (List.length_eq_zero_iff.1 hlen.symm) hl
  | [n] =>
    rw [hm, List.length_singleton] at hlen
    unfold Station.claim Station.requestTag Station.tagTaken
    rw [← hlen]
    simp only [List.findSome?_cons, List.findSome?_nil, if_true]
    cases s.claimTest n 1 with
    | some x => rfl
    | none =>
      simp only [Station.makeGroup]
      split
      · next h1 => rfl
      · next h1 => rfl
  | x :: y :: rest =>
    rw [hm] at hlen
    have h1 : l.length ≠ 1 := by
      rw [← hlen]
      simp
    unfold Station.tagTaken Station.requestTag
    rw [if_neg h1, if_neg h1, ← hlen] <;> rfl

theorem Station.claimsOnly_claimGroup (s : Station) (l : List Nat) (p : Purpose) (a : Asker) :
    s.ClaimsOnly (s.claimGroup l p a).1 := by
  by_cases hl : l = []
  · subst hl
    exact ⟨_, _, rfl⟩
  · rw [Station.claimGroup_eq s hl]
    have htag : s.ClaimsOnly (s.tagTaken l) := by
      unfold Station.tagTaken
      split
      · exact ⟨_, _, rfl⟩
      · exact ⟨{ s.claims with nextTag := stepTag (s.requestTag l) }, s.line.queue, rfl⟩
    have hmade := (s.tagTaken l).claimsOnly_makeGroup p a (s.requestTag l) (sortBy (fun a b => decide (a ≤ b)) l)
    split
    · exact ⟨_, _, rfl⟩
    · split <;> next h =>
        rw [h] at hmade
        exact htag.trans hmade

/-! ### Taken (R57, R58) -/

/-- Every claim of the list made, their CLAIMs taken by the queue. -/
def Station.allMade (s : Station) (p : Purpose) (a : Asker) (tag : Nat) (l : List Nat) : Station :=
  (s.setEntries (s.claims.entries ++ l.map (s.newEntry p a tag))).setQueue (s.line.queue ++ l.map (s.newClaim tag))

theorem Station.allMade_cons (s : Station) (p : Purpose) (a : Asker) (tag n : Nat) (l : List Nat) :
    s.allMade p a tag (n :: l) = (s.claimMade p a tag n).allMade p a tag l := by
  have hent : (s.claimMade p a tag n).allMade p a tag l =
      (s.setEntries ((s.claims.entries ++ [s.newEntry p a tag n]) ++ l.map (s.newEntry p a tag))).setQueue
        ((s.line.queue ++ [s.newClaim tag n]) ++ l.map (s.newClaim tag)) := rfl
  rw [hent, List.append_assoc, List.append_assoc]
  rfl

theorem Station.makeGroup_room {s : Station} (p : Purpose) (a : Asker) (tag : Nat) {l : List Nat}
    (h : s.line.queue.length + l.length ≤ 8) : s.makeGroup p a tag l = (s.allMade p a tag l, true) := by
  induction l generalizing s with
  | nil =>
    unfold Station.allMade
    rw [List.map_nil, List.map_nil, List.append_nil, List.append_nil]
    rfl
  | cons n l ih =>
    rw [List.length_cons] at h
    have hmake := s.makeClaim_eq n p a tag
    rw [if_pos (by omega)] at hmake
    unfold Station.makeGroup
    rw [hmake]
    dsimp only
    rw [ih (by
      unfold Station.claimMade Station.setQueue
      rw [Station.withLine_line, List.length_append, List.length_singleton]
      omega), Station.allMade_cons]

/-! ### Refused by the queue (R63) -/

/-- A claim that finds no room in the queue takes the members made before it along (R63). -/
theorem Station.makeGroup_full {s : Station} (p : Purpose) (a : Asker) {tag : Nat} {l : List Nat} (ht : tag ≠ 0)
    {base extra : List ClaimEntry} (he : s.claims.entries = base ++ extra)
    (hextra : ∀ e ∈ extra, e.tag = tag ∧ e.state = .listening) (hbase : ∀ e ∈ base, e.tag ≠ tag ∧ e.seg ∉ l) (hl : l ≠ [])
    (hq : 8 < s.line.queue.length + l.length) :
    ∃ u, s.makeGroup p a tag l = (u, false) ∧ u.claims.entries = base := by
  induction l generalizing s extra with
  | nil => exact absurd rfl hl
  | cons n l ih =>
    have hmake := s.makeClaim_eq n p a tag
    rw [List.length_cons] at hq
    by_cases hroom : s.line.queue.length < 8
    · rw [if_pos hroom] at hmake
      unfold Station.makeGroup
      rw [hmake]
      refine ih (extra := extra ++ [s.newEntry p a tag n]) ?_ (fun e hmem => ?_) (fun e hmem => ?_) ?_ ?_
      · rw [← List.append_assoc, ← he]
        rfl
      · rcases List.mem_append.1 hmem with hmem | hmem
        · exact hextra e hmem
        · rw [List.mem_singleton.1 hmem]
          exact ⟨rfl, rfl⟩
      · exact ⟨(hbase e hmem).1, fun h => (hbase e hmem).2 (List.mem_cons_of_mem _ h)⟩
      · rintro rfl
        simp only [List.length_nil] at hq
        omega
      · unfold Station.claimMade Station.setQueue
        rw [Station.withLine_line, List.length_append, List.length_singleton]
        omega
    · rw [if_neg hroom] at hmake
      unfold Station.makeGroup
      rw [hmake]
      refine ⟨_, rfl, ?_⟩
      have hent : ((s.setEntries (s.claims.entries ++ [s.newEntry p a tag n])).removeGroup
          (s.newEntry p a tag n)).claims.entries =
          (s.claims.entries ++ [s.newEntry p a tag n]).filter fun x => !(s.newEntry p a tag n).groupedWith x := rfl
      rw [hent, he, List.append_assoc, List.filter_append]
      have hkeep : base.filter (fun x => !(s.newEntry p a tag n).groupedWith x) = base := by
        refine List.filter_eq_self.2 fun e hmem => ?_
        obtain ⟨h1, h2⟩ := hbase e hmem
        have h3 : e.seg ≠ n := fun h => h2 (h ▸ List.mem_cons_self)
        simp [ClaimEntry.groupedWith, Station.newEntry, h1, h3]
      have hgo : (extra ++ [s.newEntry p a tag n]).filter (fun x => !(s.newEntry p a tag n).groupedWith x) = [] := by
        refine List.filter_eq_nil_iff.2 fun e hmem => ?_
        have h : e.tag = tag ∧ e.state = .listening := by
          rcases List.mem_append.1 hmem with hmem | hmem
          · exact hextra e hmem
          · rw [List.mem_singleton.1 hmem]
            exact ⟨rfl, rfl⟩
        simp [ClaimEntry.groupedWith, Station.newEntry, h.1, h.2, ht]
      rw [hkeep, hgo, List.append_nil]

/-- A single claim that finds no room in the queue leaves the list as it was. -/
theorem Station.makeGroup_single {s : Station} (p : Purpose) (a : Asker) {n : Nat} (hnew : s.claims.lists n = false)
    (hq : 8 ≤ s.line.queue.length) : ∃ u, s.makeGroup p a 0 [n] = (u, false) ∧ u.claims.entries = s.claims.entries := by
  have hmake := s.makeClaim_eq n p a 0
  rw [if_neg (by omega)] at hmake
  unfold Station.makeGroup
  rw [hmake]
  refine ⟨_, rfl, ?_⟩
  have hent : ((s.setEntries (s.claims.entries ++ [s.newEntry p a 0 n])).removeGroup (s.newEntry p a 0 n)).claims.entries =
      (s.claims.entries ++ [s.newEntry p a 0 n]).filter fun x => !(s.newEntry p a 0 n).groupedWith x := rfl
  rw [hent, List.filter_append, List.filter_eq_self.2 fun e he => ?_]
  · simp [ClaimEntry.groupedWith]
  · have := ClaimBlock.lists_eq_false.1 hnew e he
    simp [ClaimEntry.groupedWith, Station.newEntry, this]

/-! ### What becomes of a request -/

theorem Station.claimTest_ne_sent (s : Station) (n k : Nat) : s.claimTest n k ≠ some .sent := by
  unfold Station.claimTest
  split_ifs
  · simp
  · simp
  · simp
  · simp
  · simp
  · split <;> simp

theorem Station.mem_requestOrder {l : List Nat} {n : Nat} : n ∈ sortBy (fun a b => decide (a ≤ b)) l ↔ n ∈ l :=
  (sortBy_perm _ _).mem_iff

/-- A request that a test of R57 refuses changes nothing. -/
theorem Station.claimGroup_failed {s : Station} {l : List Nat} (p : Purpose) (a : Asker)
    (h : ∃ n ∈ l, s.claimTest n l.length ≠ none) : ∃ x, x ≠ .sent ∧ s.claimGroup l p a = (s, x) := by
  obtain ⟨n, hn, ht⟩ := h
  rw [Station.claimGroup_eq s (List.ne_nil_of_mem hn)]
  cases hf : (sortBy (fun a b => decide (a ≤ b)) l).findSome? fun n => s.claimTest n l.length with
  | none => exact absurd (List.findSome?_eq_none_iff.1 hf n (Station.mem_requestOrder.2 hn)) ht
  | some x =>
    obtain ⟨m, -, hm⟩ := List.exists_of_findSome?_eq_some hf
    exact ⟨x, fun hx => s.claimTest_ne_sent m l.length (hx ▸ hm), rfl⟩

theorem Station.claimGroup_tested {s : Station} {l : List Nat} (hl : l ≠ []) (p : Purpose) (a : Asker)
    (h : ∀ n ∈ l, s.claimTest n l.length = none) :
    s.claimGroup l p a = match (s.tagTaken l).makeGroup p a (s.requestTag l) (sortBy (fun a b => decide (a ≤ b)) l) with
      | (u, true) => (u, .sent)
      | (u, false) => (u, .notNow) := by
  rw [Station.claimGroup_eq s hl, List.findSome?_eq_none_iff.2 fun n hn => h n (Station.mem_requestOrder.1 hn)]

/-- A request that passes every test, and finds room in the queue for each CLAIM (R57, R63). -/
theorem Station.claimGroup_made {s : Station} {l : List Nat} (hl : l ≠ []) (p : Purpose) (a : Asker)
    (h : ∀ n ∈ l, s.claimTest n l.length = none) (hq : s.line.queue.length + l.length ≤ 8) :
    s.claimGroup l p a =
      ((s.tagTaken l).allMade p a (s.requestTag l) (sortBy (fun a b => decide (a ≤ b)) l), .sent) := by
  have hline : (s.tagTaken l).line = s.line := by
    unfold Station.tagTaken
    split <;> rfl
  rw [Station.claimGroup_tested hl p a h, Station.makeGroup_room]
  rw [hline, (sortBy_perm _ _).length_eq]
  exact hq

theorem Station.tagTaken_keeps (s : Station) (l : List Nat) :
    (s.tagTaken l).claims.entries = s.claims.entries ∧ (s.tagTaken l).claims.waitCount = s.claims.waitCount ∧
    (s.tagTaken l).line = s.line ∧ ∀ n, (s.tagTaken l).wouldBeCourteous n = s.wouldBeCourteous n := by
  unfold Station.tagTaken
  split
  · exact ⟨rfl, rfl, rfl, fun _ => rfl⟩
  · exact ⟨rfl, rfl, rfl, fun _ => rfl⟩

/-- Each segment of a request that is made is LISTENING with its CLAIM queued, under one tag, none for a single claim. -/
theorem Station.claimGroup_lists {s : Station} {l : List Nat} (hl : l ≠ []) (p : Purpose) (a : Asker)
    (ht : 1 ≤ s.claims.nextTag) (h : ∀ n ∈ l, s.claimTest n l.length = none) (hq : s.line.queue.length + l.length ≤ 8) :
    let u := (s.claimGroup l p a).1
    u.claims.entries.length = s.claims.entries.length + l.length ∧ (∀ e ∈ s.claims.entries, e ∈ u.claims.entries) ∧
    ∃ tag, (tag = 0 ↔ l.length = 1) ∧ ∀ n ∈ l,
      let r : Rank := ⟨s.claims.waitCount, s.wouldBeCourteous n⟩
      u.queues (.claim n tag r) ∧
      { seg := n, purpose := p, asker := a, tag := tag, courtesy := r.courtesy } ∈ u.claims.entries := by
  intro u
  obtain ⟨hent, hwait, hline, hcourt⟩ := s.tagTaken_keeps l
  have hu : u = (s.tagTaken l).allMade p a (s.requestTag l) (sortBy (fun a b => decide (a ≤ b)) l) :=
    congrArg Prod.fst (Station.claimGroup_made hl p a h hq)
  have hentries : u.claims.entries = s.claims.entries ++
      (sortBy (fun a b => decide (a ≤ b)) l).map ((s.tagTaken l).newEntry p a (s.requestTag l)) := by
    rw [hu, ← hent]
    rfl
  have hqueue : u.line.queue = s.line.queue ++
      (sortBy (fun a b => decide (a ≤ b)) l).map ((s.tagTaken l).newClaim (s.requestTag l)) := by
    rw [hu, ← hline]
    rfl
  refine ⟨?_, fun e he => ?_, s.requestTag l, ?_, fun n hn => ?_⟩
  · rw [hentries, List.length_append, List.length_map, (sortBy_perm _ _).length_eq]
  · rw [hentries]
    exact List.mem_append_left _ he
  · unfold Station.requestTag
    split
    · next h1 => simp [h1]
    · next h1 =>
      have := freshTag_pos (l := s.claims.entries) 9 ht
      simp only [h1, iff_false]
      omega
  · have hmem := Station.mem_requestOrder.2 hn
    refine ⟨⟨(s.tagTaken l).newClaim (s.requestTag l) n, ?_, ?_⟩, ?_⟩
    · rw [hqueue]
      exact List.mem_append_right _ (List.mem_map_of_mem hmem)
    · unfold Station.newClaim
      rw [hwait, hcourt]
    · rw [hentries, ← hcourt n]
      exact List.mem_append_right _ (List.mem_map_of_mem hmem)

/-- A request that the queue has no room for leaves the list as it was (R63). -/
theorem Station.claimGroup_full {s : Station} {l : List Nat} (p : Purpose) (a : Asker)
    (hb : s.claims.entries.length ≤ 8) (ht : 1 ≤ s.claims.nextTag) (hq : 8 < s.line.queue.length + l.length) :
    (s.claimGroup l p a).1.claims.entries = s.claims.entries := by
  by_cases hl : l = []
  · subst hl
    rfl
  · by_cases htest : ∀ n ∈ l, s.claimTest n l.length = none
    · obtain ⟨hent, -, hline, -⟩ := s.tagTaken_keeps l
      have hlen : (sortBy (fun a b => decide (a ≤ b)) l).length = l.length := (sortBy_perm _ _).length_eq
      have hfull : ∃ u, (s.tagTaken l).makeGroup p a (s.requestTag l) (sortBy (fun a b => decide (a ≤ b)) l) = (u, false) ∧
          u.claims.entries = s.claims.entries := by
        by_cases h1 : l.length = 1
        · obtain ⟨n, hn⟩ := List.length_eq_one_iff.1 (hlen.trans h1)
          have hmem : n ∈ l := Station.mem_requestOrder.1 (hn ▸ List.mem_singleton_self n)
          have htag : s.tagTaken l = s ∧ s.requestTag l = 0 := by
            unfold Station.tagTaken Station.requestTag
            rw [if_pos h1, if_pos h1]
            exact ⟨rfl, rfl⟩
          rw [hn, htag.1, htag.2]
          exact Station.makeGroup_single p a (Station.claimTest_none (htest n hmem)).1 (by omega)
        · have htag : s.requestTag l = freshTag s.claims.entries 9 s.claims.nextTag := if_neg h1
          refine Station.makeGroup_full p a (extra := []) ?_ (by rw [hent, List.append_nil]) (fun e he => nomatch he)
            (fun e he => ⟨?_, fun hm => ?_⟩) (fun hnil => ?_) ?_
          · have := freshTag_pos (l := s.claims.entries) 9 ht
            rw [htag]
            omega
          · rw [htag]
            exact freshTag_fresh _ hb e he
          · have := (Station.claimTest_none (htest e.seg (Station.mem_requestOrder.1 hm))).1
            exact ClaimBlock.lists_eq_false.1 this e he rfl
          · rw [hnil] at hlen
            exact hl (List.length_eq_zero_iff.1 hlen.symm)
          · rw [hline, hlen]
            exact hq
      obtain ⟨u, hu, hkeep⟩ := hfull
      rw [Station.claimGroup_tested hl p a htest, hu]
      exact hkeep
    · obtain ⟨x, -, hx⟩ := Station.claimGroup_failed (s := s) p a (l := l) (by simpa using htest)
      rw [hx]

end Sys2Proof.Machine
end

section
/-! PROOFS. The end of LISTEN-IN and the body claim (R57, R63, R95, R143, R192, R193). -/

namespace Sys2Proof.Machine

/-! ## The body claim (R193) -/

theorem Station.askStart_eq (s : Station) : s.askStart =
    if s.startWanted = [] then s.enterReady
    else if (s.claimGroup s.startWanted .body .startup).2 = .sent then
      (s.claimGroup s.startWanted .body .startup).1.withStart
        { (s.claimGroup s.startWanted .body .startup).1.start with asking := true }
    else (s.claimGroup s.startWanted .body .startup).1.retryBodyClaim := by
  unfold Station.askStart
  by_cases hw : s.startWanted = []
  · rw [if_pos (by simpa using hw), if_pos hw]
  · rw [if_neg (by simpa using hw), if_neg hw]
    generalize s.claimGroup s.startWanted .body .startup = r
    obtain ⟨u, a⟩ := r
    cases a with
    | sent => exact (if_pos rfl).symm
    | _ => exact (if_neg nofun).symm

theorem Station.retryBodyClaim_eq {s : Station} (h : s.line.fault = false) : s.retryBodyClaim =
    s.withStart { s.start with retryMark := true, retryAt := some (s.ms + s.par.beacon), asking := false } :=
  if_neg (by simpa using h)

/-- Asking for the body changes start-up, claims and queue alone. -/
theorem Station.askStart_only (s : Station) : ∃ x c q, s.askStart = ((s.withStart x).withClaims c).setQueue q := by
  obtain ⟨c, q, hc⟩ := s.claimsOnly_claimGroup s.startWanted .body .startup
  rw [Station.askStart_eq, hc]
  split
  · exact ⟨{ s.start with phase := .ready, retryMark := false, retryAt := none, asking := false }, s.claims, s.line.queue,
      rfl⟩
  · split
    · exact ⟨_, c, q, rfl⟩
    · unfold Station.retryBodyClaim
      split
      · exact ⟨{ s.start with phase := .ready, retryMark := false, retryAt := none, asking := false }, c, q, rfl⟩
      · exact ⟨_, c, q, rfl⟩

/-- The phase that asking for the body leaves (R193). -/
theorem Station.askStart_phase {s : Station} (hp : s.start.phase = .bodyClaim) (hf : s.line.fault = false) :
    s.askStart.start.phase = if s.startWanted = [] then .ready else .bodyClaim := by
  obtain ⟨c, q, hc⟩ := s.claimsOnly_claimGroup s.startWanted .body .startup
  rw [Station.askStart_eq, hc]
  split
  · rfl
  · split
    · exact hp
    · rw [Station.retryBodyClaim_eq (by exact hf)]
      exact hp

theorem Station.claimTest_heldBy {s : Station} {n p k : Nat}
    (h : s.holders n = [p]) : s.claimTest n k ≠ none := by
  unfold Station.claimTest Station.seenHeld
  rw [h]
  split_ifs <;> simp

/-- Settles O9. -/
theorem bodyClaimRetryAsksAgain : Obligations.BodyClaimRetryAsksAgain := by
  intro dt s hp hdue u
  set w : Station := (s.old dt).withStart { s.station.start with retryAt := none } with hw
  have hon : s.station.onLine = true := by
    unfold Station.onLine
    rw [hp]
    rfl
  have hwanted : w.startWanted = s.station.startWanted := rfl
  obtain ⟨x, c, q, honly⟩ := w.askStart_only
  have heq := w.askStart_eq
  rw [hwanted] at heq
  refine ⟨s.settled dt u {}, ?_, rfl, ?_, ?_, ?_, fun hnone => ?_, fun seg p hone hh _ _ hf _ _ => ?_,
    fun hne ht hq htest => ?_⟩
  · dsimp only [exec, execBodyClaimRetry]
    rw [State.onTimer_due _ _ _ _ _ hon hdue, if_pos (by exact hp)]
    rfl
  · rw [State.settled_peers, show u = w.askStart from rfl, honly]
    rfl
  · rw [State.settled_map, show u = w.askStart from rfl, honly]
    rfl
  · rw [State.settled_par, show u = w.askStart from rfl, honly]
    rfl
  · have hu : u = w.enterReady := heq.trans (if_pos hnone)
    rw [hu]
    exact ⟨rfl, rfl, rfl⟩
  · obtain ⟨y, hy, hfail⟩ := Station.claimGroup_failed (s := w) (l := s.station.startWanted) .body .startup
      ⟨seg, by rw [hone]; exact List.mem_singleton_self seg, Station.claimTest_heldBy (s := w) hh⟩
    have hu : u = w.retryBodyClaim := by
      rw [hfail, if_neg (by rw [hone]; simp), if_neg hy] at heq
      exact heq
    rw [Station.retryBodyClaim_eq (by exact hf)] at hu
    rw [hu]
    exact ⟨hp, rfl, rfl, rfl⟩
  · have hmade := Station.claimGroup_made (s := w) hne .body .startup htest hq
    obtain ⟨hlen, hold, htag⟩ := Station.claimGroup_lists (s := w) hne .body .startup ht htest hq
    obtain ⟨c', q', hc⟩ := w.claimsOnly_claimGroup s.station.startWanted .body .startup
    have hu : u = (w.claimGroup s.station.startWanted .body .startup).1.withStart
        { (w.claimGroup s.station.startWanted .body .startup).1.start with asking := true } := by
      rw [if_neg hne, if_pos (by rw [hmade])] at heq
      exact heq
    have hstart : (w.claimGroup s.station.startWanted .body .startup).1.start = w.start := by
      rw [hc]
      rfl
    rw [hu]
    refine ⟨?_, rfl, ?_, hlen, hold, htag⟩
    · rw [Station.withStart_start, hstart]
      exact hp
    · rw [Station.withStart_start, hstart]
      rfl

/-! ## The emergency latch through the evaluations after a command (R95) -/

theorem Station.Calm.and {P Q : Station → Prop} (h : Station.Calm P) (k : Station.Calm Q) :
    Station.Calm fun s => P s ∧ Q s where
  passage x hs := ⟨h.passage x hs.1, k.passage x hs.2⟩
  appr x hs := ⟨h.appr x hs.1, k.appr x hs.2⟩
  backing x hs := ⟨h.backing x hs.1, k.backing x hs.2⟩
  park x hs := ⟨h.park x hs.1, k.park x hs.2⟩
  write r hs := ⟨h.write r hs.1, k.write r hs.2⟩
  lift x hx hs := ⟨h.lift x hx hs.1, k.lift x hx hs.2⟩
  trail l hl hs := ⟨h.trail l hl hs.1, k.trail l hl hs.2⟩
  order x hx hs := ⟨h.order x hx hs.1, k.order x hx hs.2⟩
  claims x hx hs := ⟨h.claims x hx hs.1, k.claims x hx hs.2⟩
  queue q hq hs := ⟨h.queue q hq hs.1, k.queue q hq hs.2⟩
  schedule a b c hs := ⟨h.schedule a b c hs.1, k.schedule a b c hs.2⟩
  start x hc hx hs := ⟨h.start x hc hx hs.1, k.start x hc hx hs.2⟩
  tt x hb hr hs := ⟨h.tt x hb hr hs.1, k.tt x hb hr hs.2⟩
  env x hc hl he hd ht hs := ⟨h.env x hc hl he hd ht hs.1, k.env x hc hl he hd ht hs.2⟩
  raise hm hs := ⟨h.raise hm hs.1, k.raise hm hs.2⟩
  dir d he hs := ⟨h.dir d he hs.1, k.dir d he hs.2⟩
  deck hs := ⟨h.deck hs.1, k.deck hs.2⟩

/-- The reported step and the latch, which outside the envelope no block changes. -/
theorem Station.latch_calm (c : Nat) (b : Bool) : Station.Calm fun s => s.inputs.confirmed = c ∧ s.env.latch = b where
  passage _ h := h
  appr _ h := h
  backing _ h := h
  park _ h := h
  write _ h := h
  lift _ _ h := h
  trail _ _ h := h
  order _ _ h := h
  claims _ _ h := h
  queue _ _ h := h
  schedule _ _ _ h := h
  start _ _ _ h := h
  tt _ _ _ h := h
  env _ _ _ _ _ hl h := ⟨h.1, hl.trans h.2⟩
  raise _ h := h
  dir _ _ h := h
  deck h := h

/-- A carriage whose envelope evaluates, with the reported step `c` and the latch as `b` says. -/
def Station.Latched (c : Nat) (b : Bool) (s : Station) : Prop :=
  s.driving = true ∧ s.inputs.confirmed = c ∧ s.env.latch = b

theorem Station.latched_calm (c : Nat) (b : Bool) : Station.Calm (Station.Latched c b) :=
  Station.driving_stable.toCalm.and (Station.latch_calm c b)

theorem Station.latched_ttEval {c : Nat} {b : Bool} {s : Station} (h : s.Latched c b) : s.ttEval.Latched c b := by
  have hcar : s.turning = false := by
    obtain ⟨hrole, -⟩ := s.driving_iff.1 h.1
    simp [Station.turning, Station.isCarriage, hrole]
  unfold Station.ttEval
  rw [if_neg (by simp [hcar])]
  exact h

/-- With the drive at step 0 an evaluation of the envelope leaves the latch clear; with the drive moving it keeps the latch. -/
theorem Station.latched_envEval {c : Nat} {b : Bool} {s : Station} (h : s.Latched c b) :
    (c = 0 → s.envEval.Latched c false) ∧ (c ≠ 0 → b = true → s.envEval.Latched c true) := by
  obtain ⟨hd, rfl, rfl⟩ := h
  obtain ⟨hdrive, hin, hbrake, hfree⟩ := Station.envEval_spec hd
  refine ⟨fun hc => ⟨hdrive, by rw [hin], ?_⟩, fun hc hb => ⟨hdrive, by rw [hin], ((hbrake (.inr hb)).2.1 hc).1⟩⟩
  by_cases hb : s.applyPending.handOver.mustBrake = true ∨ s.env.latch = true
  · exact ((hbrake hb).2.2 hc).1
  · simp only [not_or, Bool.not_eq_true] at hb
    exact (hfree hb.1 hb.2).1

/-- One round: what the envelope makes of the latch, the other blocks keep. -/
theorem Station.latched_round {c : Nat} {b b' : Bool} {s : Station} (old : Station) (ev : Events)
    (henv : ∀ v : Station, v.Latched c b → (Station.envRound old v ev).Latched c b') (h : s.Latched c b) :
    (Station.round old s ev).Latched c b' := by
  unfold Station.round
  extract_lets s1 s2 s3 s4 s5
  have hP := Station.latched_calm c b
  have hQ := Station.latched_calm c b'
  have h1 : s1.Latched c b := by
    simp only [s1]
    split
    · refine hP.liftEval (hP.approachCheck ?_)
      unfold Station.extentEval
      split
      · exact h
      · exact hP.aheadToBody h
    · exact h
  have h3 : s3.Latched c b' := by
    simp only [s3, Station.orderRound]
    split
    · exact hQ.orderEval (henv s1 h1)
    · exact henv s1 h1
  have h4 : s4.Latched c b' := by
    simp only [s4, Station.ttRound]
    split
    · exact Station.latched_ttEval h3
    · exact h3
  have h5 : s5.Latched c b' := hQ.offerReleases h4
  split
  · exact hQ.lineEval (hQ.parkEval h5)
  · exact hQ.lineEval h5

theorem Station.latched_rounds {c : Nat} {b : Bool} (n : Nat) {s : Station} (old : Station) (ev : Events)
    (henv : ∀ v : Station, v.Latched c b → v.envEval.Latched c b) (h : s.Latched c b) :
    (Station.rounds n old s ev).Latched c b := by
  have hround : ∀ (old s : Station) (ev : Events), s.Latched c b → (Station.round old s ev).Latched c b :=
    fun old s ev hs => Station.latched_round old ev (fun v hv => by
      unfold Station.envRound
      split
      · exact henv v hv
      · exact hv) hs
  induction n generalizing old s ev with
  | zero => exact h
  | succ n ih =>
    unfold Station.rounds
    dsimp only
    split
    · exact hround _ _ _ h
    · exact ih _ _ (hround _ _ _ h)

/-- A command whose evaluations begin with one of the envelope: the latch it leaves (R95). -/
theorem State.settled_latch (s : State) (dt : Nat) {u : Station} {ev : Events} {c : Nat} (hev : ev.env = true)
    (h : u.Latched c true) : (s.settled dt u ev).station.Latched c (decide (c ≠ 0)) := by
  have henv : ∀ b, (c ≠ 0 → b = true) → ∀ v : Station, v.Latched c b → v.envEval.Latched c (decide (c ≠ 0)) :=
      fun b hb v hv => by
    by_cases hc : c = 0
    · simpa [hc] using (Station.latched_envEval hv).1 hc
    · simpa [hc] using (Station.latched_envEval hv).2 hc (hb hc)
  have hdone : ∀ v : Station, v.Latched c (decide (c ≠ 0)) → v.finalDrop.Latched c (decide (c ≠ 0)) := fun v hv => by
    unfold Station.finalDrop
    rw [if_pos hv.1]
    exact (Station.latched_calm c _).dropStep hv
  have hon : u.onLine = true := by
    obtain ⟨-, hp⟩ := u.driving_iff.1 h.1
    rcases hp with hp | hp <;> simp [Station.onLine, hp]
  have hfirst : (Station.round (s.old dt) u ev).Latched c (decide (c ≠ 0)) :=
    Station.latched_round _ _ (fun v hv => by
      unfold Station.envRound
      rw [if_pos (by simp [hev])]
      exact henv true (fun _ => rfl) v hv) h
  change (Station.settle (s.old dt) u ev).Latched c _
  unfold Station.settle
  rw [if_pos hon]
  refine hdone _ ?_
  unfold roundLimit Station.rounds
  dsimp only
  split
  · exact hfirst
  · exact Station.latched_rounds 7 _ _ (henv _ fun hc => by simpa using hc) hfirst

/-! ## The end of LISTEN-IN (R192) -/

theorem Station.endListen_carriage {s : Station} (hc : s.isCarriage = true) :
    s.endListen = if s.pos.frame = .line ∧ s.line.fault = false then
        (s.withStart { s.start with listenEnd := none, phase := .bodyClaim }).askStart
      else (s.withStart { s.start with listenEnd := none }).enterReady := by
  unfold Station.endListen
  dsimp only
  rw [if_pos (by exact hc)]
  by_cases h : s.pos.frame = .line ∧ s.line.fault = false
  · rw [if_pos h, if_pos (by simp [h.1, h.2])]
    rfl
  · rw [if_neg h]
    exact if_neg (show ¬(decide (s.pos.frame = .line) && !s.line.fault) = true by simpa using h)

theorem Station.endListen_turntable {s : Station} (hc : s.isCarriage = false) :
    s.endListen = (s.withStart { s.start with listenEnd := none }).readArm.enterReady := by
  unfold Station.endListen
  exact if_neg (fun h => by cases hc.symm.trans h)

theorem Station.listenEnd_askStart {s : Station} : s.askStart.start.listenEnd = s.start.listenEnd := by
  obtain ⟨c, q, hc⟩ := s.claimsOnly_claimGroup s.startWanted .body .startup
  rw [Station.askStart_eq, hc]
  split
  · rfl
  · split
    · rfl
    · unfold Station.retryBodyClaim
      split <;> rfl

/-- What the end of LISTEN-IN leaves at a carriage: the phase, and all but start-up, claims and queue. -/
theorem Station.endListen_keeps {s : Station} (hc : s.isCarriage = true) :
    s.endListen.start.listenEnd = none ∧ (∃ x c q, s.endListen = ((s.withStart x).withClaims c).setQueue q) ∧
    (s.pos.frame = .line → s.line.fault = false →
      s.endListen.start.phase = if s.startWanted = [] then .ready else .bodyClaim) ∧
    (s.pos.frame ≠ .line ∨ s.line.fault = true → s.endListen.start.phase = .ready ∧ s.endListen.claims = s.claims) := by
  rw [Station.endListen_carriage hc]
  by_cases h : s.pos.frame = .line ∧ s.line.fault = false
  · rw [if_pos h]
    obtain ⟨x, c, q, hx⟩ := (s.withStart { s.start with listenEnd := none, phase := .bodyClaim }).askStart_only
    refine ⟨Station.listenEnd_askStart, ⟨x, c, q, hx⟩, fun _ hf => Station.askStart_phase rfl hf, fun hn => ?_⟩
    rcases hn with hn | hn
    · exact absurd h.1 hn
    · exact absurd (h.2.symm.trans hn) (by decide)
  · rw [if_neg h]
    exact ⟨rfl, ⟨(s.withStart { s.start with listenEnd := none }).enterReady.start, s.claims, s.line.queue, rfl⟩, fun h1 h2 => absurd ⟨h1, h2⟩ h, fun _ => ⟨rfl, rfl⟩⟩

/-- Settles O8. -/
theorem listenInEndOpensNextPhase : Obligations.ListenInEndOpensNextPhase := by
  intro dt s hp hdue u
  have hon : s.station.onLine = true := by
    unfold Station.onLine
    rw [hp]
    rfl
  have hex : exec (.listenInEnd dt) s = .next (s.settled dt u { order := true, env := true, tt := true }) := by
    dsimp only [exec, execListenInEnd]
    rw [State.onTimer_due _ _ _ _ _ hon hdue, if_pos (by exact hp)]
  cases hcar : s.station.isCarriage with
  | true =>
    obtain ⟨hend, ⟨x, c, q, hu⟩, hline, helse⟩ := Station.endListen_keeps (s := s.old dt) hcar
    have hdrive : u.driving = true := by
      refine u.driving_iff.2 ⟨?_, ?_⟩
      · rw [show u = (s.old dt).endListen from rfl, hu]
        exact of_decide_eq_true hcar
      · by_cases h : s.station.pos.frame = .line ∧ s.station.line.fault = false
        · have := hline h.1 h.2
          change u.start.phase = _ at this
          rw [this]
          split <;> simp
        · refine .inr (helse ?_).1
          by_cases hf : s.station.pos.frame = .line
          · exact .inr (by simpa [hf] using h)
          · exact .inl hf
    have hlatched : s.station.env.latch = true → u.Latched s.station.inputs.confirmed true := fun hl =>
      ⟨hdrive, by rw [show u = (s.old dt).endListen from rfl, hu]; rfl,
        by rw [show u = (s.old dt).endListen from rfl, hu]; exact hl⟩
    have hends : u.ends = s.station.ends := by
      rw [show u = (s.old dt).endListen from rfl, hu]
      rfl
    refine ⟨_, hex, rfl, ?_, ?_, fun _ => ⟨fun hl h0 => ?_, fun hl h0 => ?_, fun hi => ?_, ?_⟩, fun _ => hline, fun _ => helse,
      fun h => (nomatch h)⟩
    · rw [State.settled_listenEnd]
      exact hend
    · rw [State.settled_peers, show u = (s.old dt).endListen from rfl, hu]
      rfl
    · have := (s.settled_latch dt (ev := { order := true, env := true, tt := true }) rfl (hlatched hl)).2.2
      rw [this]
      simpa using h0
    · have hl' : (s.settled dt u { order := true, env := true, tt := true }).station.env.latch = true := by
        rw [(s.settled_latch dt (ev := { order := true, env := true, tt := true }) rfl (hlatched hl)).2.2]
        simpa using h0
      refine ⟨hl', Nat.eq_zero_of_not_pos fun hpos => ?_⟩
      obtain ⟨-, hnot, -⟩ := State.settled_moveSafe s dt u { order := true, env := true, tt := true } hpos
      exact absurd (hl'.symm.trans hnot) (by decide)
    · exact (s.settled_ends dt _ (hends.trans (Prod.ext hi rfl)) rfl).1
    · have : (s.settled dt u { order := true, env := true, tt := true }).station.driving = true :=
        Station.driving_stable.settle _ _ hdrive
      exact if_pos this
  | false =>
    have hu : u = _ := Station.endListen_turntable (s := s.old dt) hcar
    have hkeep : u.peers = s.station.peers ∧ u.start.phase = .ready ∧ u.start.listenEnd = none ∧
        u.claims = s.station.claims ∧
        u.tt.deck = if s.station.inputs.armAligned = none then s.station.tt.deck else .idle := by
      rw [hu]
      unfold Station.readArm
      cases harm : s.station.inputs.armAligned with
      | none =>
        simp only [Station.withStart_inputs, State.old_inputs, harm]
        exact ⟨rfl, rfl, rfl, rfl, rfl⟩
      | some a =>
        simp only [Station.withStart_inputs, State.old_inputs, harm]
        exact ⟨rfl, rfl, rfl, rfl, rfl⟩
    obtain ⟨hpeers, hphase, hend, hclaims, hdeck⟩ := hkeep
    refine ⟨_, hex, rfl, ?_, ?_, fun h => (nomatch h), fun h => (nomatch h), fun h => (nomatch h),
      fun _ => ⟨hphase, hclaims, hdeck⟩⟩
    · rw [State.settled_listenEnd, hend]
    · rw [State.settled_peers, hpeers]

end Sys2Proof.Machine
end

section
/-! PROOFS. The transmit queue (R181–R184): what an offer does with a full queue, the beacon that falls due, the RELEASE that
takes in what is owed. -/

namespace Sys2Proof.Machine

/-! ## A PROMPT frame at a full queue (R182) -/

theorem dropLastRoutine_eq_none {q : List QueueItem} (h : ∀ y ∈ q, y.yields = false) : dropLastRoutine q = none := by
  cases hd : dropLastRoutine q with
  | none => rfl
  | some p =>
    obtain ⟨x, rest⟩ := p
    obtain ⟨a, b, hq, -, hx, -⟩ := dropLastRoutine_some hd
    exact absurd ((h x (by simp [hq])).symm.trans hx) (by decide)

theorem dropLastRoutine_append {a b : List QueueItem} {x : QueueItem} (hx : x.yields = true)
    (hb : ∀ y ∈ b, y.yields = false) : dropLastRoutine (a ++ x :: b) = some (x, a ++ b) := by
  induction a with
  | nil =>
    unfold QueueItem.yields at hx
    simp [dropLastRoutine, dropLastRoutine_eq_none hb, hx]
  | cons y a ih => simp [dropLastRoutine, ih]

theorem QueueItem.yields_eq_false {x : QueueItem} : x.yields = false ↔ x.prompt = true ∨ x.inFlight = true := by
  unfold QueueItem.yields
  cases x.prompt <;> cases x.inFlight <;> simp

theorem Station.offer_full {s : Station} {f : OutFrame} (hq : 8 ≤ s.line.queue.length)
    (h : f.prompt = false ∨ ∀ y ∈ s.line.queue, y.prompt = true ∨ y.inFlight = true) : s.offer f = (s, false) := by
  unfold Station.offer
  rw [if_neg (by simpa [Config.places] using hq)]
  cases hf : f.prompt with
  | false => rfl
  | true =>
    rw [if_pos rfl, dropLastRoutine_eq_none fun y hy =>
      QueueItem.yields_eq_false.2 (h.resolve_left (by simp [hf]) y hy)]

theorem Station.offer_displaces {s : Station} {f : OutFrame} {a b : List QueueItem} {x : QueueItem}
    (hq : 8 ≤ s.line.queue.length) (hf : f.prompt = true) (hs : s.line.queue = a ++ x :: b) (hx : x.prompt = false)
    (hxf : x.inFlight = false) (hb : ∀ y ∈ b, y.prompt = true ∨ y.inFlight = true) :
    s.offer f = ((s.setQueue (enqueue (a ++ b) f)).displaced x, true) := by
  unfold Station.offer
  rw [if_neg (by simpa [Config.places] using hq), if_pos hf, hs, dropLastRoutine_append (by simp [QueueItem.yields, hx, hxf])
    fun y hy => QueueItem.yields_eq_false.2 (hb y hy)]

theorem enqueue_eq (q : List QueueItem) (f : OutFrame) : enqueue q f =
    if f.prompt then q.filter (·.prompt) ++ { frame := f } :: q.filter (fun y => !y.prompt) else q ++ [{ frame := f }] := by
  unfold enqueue
  rw [List.append_assoc]
  rfl

/-- What a displaced frame's maker does (R58, R182, logs 15 and 17). -/
theorem Station.displaced_spec (s : Station) (x : QueueItem) :
    (∀ seg tag r e, x.frame = .claim seg tag r → x.orphan = false → s.claims.entry? seg = some e → e.state = .listening →
      e.windowEnd = none → s.displaced x = (s.removeGroup e).tell e.asker e.seg .notNow) ∧
    (∀ seg tag r, x.frame = .claim seg tag r → x.orphan = true → s.displaced x = s) ∧
    (∀ segs, x.frame = .release segs → s.displaced x = s.setOwed segs true) ∧
    (∀ seg h c, x.frame = .yieldAsk seg h c →
      s.displaced x = s.withOrder { s.order with askTimes := s.order.askTimes.setIfInBounds seg none }) ∧
    (∀ t c d, x.frame = .turnAsk t c d → s.displaced x = s.withPassage { s.passage with askOwed := true }) ∧
    (∀ t, x.frame = .turnClear t → s.displaced x = s.oweClear t) ∧
    (∀ t, x.frame = .turnAboard t → s.displaced x = s) := by
  unfold Station.displaced
  refine ⟨fun seg tag r e hf ho he hl hw => ?_, fun seg tag r hf ho => ?_, fun segs hf => ?_, fun seg h c hf => ?_,
    fun t c d hf => ?_, fun t hf => ?_, fun t hf => ?_⟩
  · rw [hf]
    dsimp only
    rw [if_neg (by simp [ho]), Station.claimNotSent_eq he hl hw]
  · rw [hf]
    dsimp only
    rw [if_pos ho]
  all_goals rw [hf]

theorem Station.line_oweClear (s : Station) (t : Nat) : (s.oweClear t).line = s.line := by
  unfold Station.oweClear
  split <;> rfl

/-! ## A beacon that falls due (R183) -/

theorem find?_beacon_none {q : List QueueItem} (h : ∀ y ∈ q, y.frame ≠ .beacon) : q.find? (·.isBeacon) = none :=
  List.find?_eq_none.2 fun y hy => by simpa [QueueItem.isBeacon] using h y hy

/-- With no beacon queued, the beacon is offered, and waits where the queue refuses it (R183). -/
theorem Station.beaconFallsDue_offers {s : Station} (h : ∀ y ∈ s.line.queue, y.frame ≠ .beacon) :
    s.beaconFallsDue = (s.offer .beacon).1.withLine
      { (s.offer .beacon).1.line with beaconDue := !(s.offer .beacon).2 } := by
  unfold Station.beaconFallsDue
  rw [find?_beacon_none h]
  generalize s.offer .beacon = r
  obtain ⟨u, b⟩ := r
  cases b <;> rfl

theorem Station.beaconFallsDue_replaces {s : Station} {a b : List QueueItem} {x : QueueItem}
    (hq : s.line.queue = a ++ x :: b) (hx : x.frame = .beacon) (h : ∀ y ∈ a ++ b, y.frame ≠ .beacon) :
    s.beaconFallsDue = s.withLine (if x.inFlight then { s.line with beaconDue := true }
      else { s.line with beaconDue := false, queue := a ++ { x with sends := 0 } :: b }) := by
  have hxb : x.isBeacon = true := by simp [QueueItem.isBeacon, hx]
  have hnot : ∀ y ∈ a ++ b, y.isBeacon = false := fun y hy => by simpa [QueueItem.isBeacon] using h y hy
  have hfind : s.line.queue.find? (·.isBeacon) = some x := by
    rw [hq, List.find?_append, find?_beacon_none fun y hy => h y (List.mem_append_left _ hy), List.find?_cons_of_pos hxb]
    rfl
  have hkeep : ∀ l : List QueueItem, (∀ y ∈ l, y.isBeacon = false) →
      (l.map fun y => if y.isBeacon then { y with sends := 0 } else y) = l := fun l hl => by
    refine (List.map_congr_left fun y hy => ?_).trans (List.map_id l)
    rw [hl y hy]
    rfl
  have hmap : (s.line.queue.map fun y => if y.isBeacon then { y with sends := 0 } else y) =
      a ++ { x with sends := 0 } :: b := by
    rw [hq, List.map_append, List.map_cons, hkeep a fun y hy => hnot y (List.mem_append_left _ hy),
      hkeep b fun y hy => hnot y (List.mem_append_right _ hy), if_pos hxb]
  unfold Station.beaconFallsDue
  rw [hfind]
  dsimp only
  split
  · rfl
  · rw [hmap]

/-- A queued frame that is no CLAIM stays queued as another is displaced. -/
theorem Station.queues_displaced {s : Station} {x : QueueItem} {f : OutFrame} (hf : ∀ l, OutFrame.claims l f = false)
    (h : s.queues f) : (s.displaced x).queues f := by
  have hline : ∀ t : Station, t.line = s.line → t.queues f := fun t ht => by
    unfold Station.queues
    rw [ht]
    exact h
  have hclaim : ∀ n, (s.claimNotSent n).queues f := fun n => by
    unfold Station.claimNotSent
    split
    · next e _ =>
      split
      · unfold Station.queues
        rw [Station.line_tell]
        obtain ⟨y, hy, hy'⟩ := h
        exact ⟨y, List.mem_filterMap.2 ⟨y, hy, by rw [hy', hf]; rfl⟩, hy'⟩
      · exact h
    · exact h
  unfold Station.displaced
  split
  · split
    · exact h
    · exact hclaim _
  · exact h
  · exact h
  · exact h
  · exact hline _ (s.line_oweClear _)
  · exact h

/-- A beacon that fell due is queued, or due (R183). -/
theorem Station.beaconFallsDue_queued (s : Station) :
    s.beaconFallsDue.line.beaconDue = true ∨ s.beaconFallsDue.queues .beacon := by
  by_cases hnone : ∀ y ∈ s.line.queue, y.frame ≠ .beacon
  · rw [Station.beaconFallsDue_offers hnone]
    have hoffer : (s.offer .beacon).2 = true → (s.offer .beacon).1.queues .beacon := by
      unfold Station.offer
      split
      · exact fun _ => s.queues_enqueue _ _
      · rw [if_pos (show OutFrame.beacon.prompt = true from rfl)]
        split
        · exact fun _ => Station.queues_displaced (fun _ => rfl) (s.queues_enqueue _ _)
        · exact fun h => nomatch h
    cases ho : (s.offer .beacon).2 with
    | false => exact .inl rfl
    | true => exact .inr (hoffer ho)
  · unfold Station.beaconFallsDue
    split
    · next x hx =>
      split
      · exact .inl rfl
      · have hmem := List.mem_of_find?_eq_some hx
        have hb : x.isBeacon = true := by simpa using List.find?_some hx
        refine .inr ⟨{ x with sends := 0 }, List.mem_map.2 ⟨x, hmem, if_pos hb⟩, ?_⟩
        simpa [QueueItem.isBeacon] using hb
    · next hx =>
      refine absurd (fun y hy => ?_) hnone
      simpa [QueueItem.isBeacon] using List.find?_eq_none.1 hx y hy

/-! ## The RELEASE that takes in what is owed (R67, R184) -/

theorem zipIdx_filter_fst (l : List Bool) :
    (l.zipIdx.filter (·.1)).map (·.2) = (List.range l.length).filter fun n => l[n]? = some true := by
  induction l using List.reverseRecOn with
  | nil => rfl
  | append_singleton l b ih =>
    rw [List.zipIdx_append, List.filter_append, List.map_append, ih, List.length_append, List.length_singleton,
      List.range_succ, List.filter_append]
    congr 1
    · refine List.filter_congr fun n hn => ?_
      rw [List.getElem?_append_left (List.mem_range.1 hn)]
    · cases b <;> simp

/-- The segments whose release is owed, counted up (R67). -/
theorem ClaimBlock.owedSegs_eq (c : ClaimBlock) :
    c.owedSegs = (List.range 128).filter fun n => c.owed[n]? = some true := by
  have h := zipIdx_filter_fst c.owed.toList
  rw [Vector.length_toList] at h
  unfold ClaimBlock.owedSegs
  rw [h]
  simp only [Vector.getElem?_toList]

/-- A RELEASE queued, not yet sent and with room (R184). -/
def QueueItem.takesRelease (x : QueueItem) : Prop :=
  x.sends = 0 ∧ x.inFlight = false ∧ ∃ l, x.frame = .release l ∧ l.length < 8

theorem mergeRelease_skip (new : List Nat) {x : QueueItem} (q : List QueueItem) (h : ¬x.takesRelease) :
    mergeRelease new (x :: q) = (x :: (mergeRelease new q).1, (mergeRelease new q).2) := by
  conv_lhs => unfold mergeRelease
  split
  · next segs hx =>
    refine if_neg fun hc => ?_
    simp only [Bool.and_eq_true, decide_eq_true_eq, Bool.not_eq_true', Config.places] at hc
    exact h ⟨hc.1.1, hc.1.2, segs, hx, hc.2⟩
  · rfl

theorem mergeRelease_none (new : List Nat) {q : List QueueItem} (h : ∀ y ∈ q, ¬y.takesRelease) :
    mergeRelease new q = (q, new) := by
  induction q with
  | nil => rfl
  | cons x q ih => rw [mergeRelease_skip new q (h x List.mem_cons_self), ih fun y hy => h y (List.mem_cons_of_mem _ hy)]

/-- The first RELEASE with room takes what it can; the rest is left over (R184). -/
theorem mergeRelease_first (new : List Nat) {a b : List QueueItem} {x : QueueItem} {segs : List Nat}
    (ha : ∀ y ∈ a, ¬y.takesRelease) (hx : x.takesRelease) (hf : x.frame = .release segs) :
    mergeRelease new (a ++ x :: b) =
      (a ++ { x with frame := .release (sortBy (fun m n => decide (m ≤ n))
        (segs ++ (new.filter fun n => !segs.contains n).take (8 - segs.length))) } :: b,
       (new.filter fun n => !segs.contains n).drop (8 - segs.length)) := by
  induction a with
  | nil =>
    obtain ⟨hs, hfl, l, hl, hlen⟩ := hx
    obtain rfl : l = segs := OutFrame.release.inj (hl.symm.trans hf)
    rw [List.nil_append]
    unfold mergeRelease
    rw [hf]
    dsimp only
    rw [if_pos (by simp [hs, hfl, hlen, Config.places])]
    rfl
  | cons y a ih =>
    rw [List.cons_append, mergeRelease_skip new _ (ha y List.mem_cons_self),
      ih fun z hz => ha z (List.mem_cons_of_mem _ hz)]
    rfl

theorem sortBy_le_pairwise (l : List Nat) : (sortBy (fun m n => decide (m ≤ n)) l).Pairwise (· ≤ ·) := by
  have htotal : Std.Total fun m n : Nat => (decide (m ≤ n)) = true := ⟨fun m n => by simpa using Nat.le_total m n⟩
  have htrans : IsTrans Nat fun m n => (decide (m ≤ n)) = true := ⟨fun a b c h1 h2 => by simp at h1 h2 ⊢; omega⟩
  rw [sortBy_eq_insertionSort]
  exact (List.pairwise_insertionSort _ _).imp fun h => by simpa using h

/-- One offer of the releases owed: merged into `q`, the rest in a RELEASE of its own where the queue has a place (R184). -/
theorem Station.offerReleases_eq {s : Station} {q : List QueueItem} {rest : List Nat}
    (hnew : s.claims.owedSegs.take 8 ≠ []) (hm : mergeRelease (s.claims.owedSegs.take 8) s.line.queue = (q, rest)) :
    s.offerReleases =
      if rest = [] then (s.setQueue q).setOwed (s.claims.owedSegs.take 8) false
      else if q.length < 8 then
        ((s.setQueue q).setQueue (q ++ [{ frame := .release rest }])).setOwed (s.claims.owedSegs.take 8) false
      else (s.setQueue q).setOwed ((s.claims.owedSegs.take 8).filter fun n => !rest.contains n) false := by
  have hoffer : (s.setQueue q).offer (.release rest) = if q.length < 8 then
      ((s.setQueue q).setQueue (q ++ [{ frame := .release rest }]), true) else (s.setQueue q, false) :=
    Station.offer_routine _ rfl
  unfold Station.offerReleases
  extract_lets new
  change new ≠ [] at hnew
  rw [if_neg (by simpa using hnew)]
  change mergeRelease new s.line.queue = (q, rest) at hm
  rw [hm]
  dsimp only
  by_cases hr : rest = []
  · rw [if_pos hr, if_pos (by simpa using hr)]
  · rw [if_neg hr, if_neg (by simpa using hr), hoffer]
    by_cases hq : q.length < 8
    · rw [if_pos hq, if_pos hq]
    · rw [if_neg hq, if_neg hq]

end Sys2Proof.Machine
end

section
/-! PROOFS. The beacon, silence and recovery timers, the announced period, and the line interface after every command
(R118, R181–R187). -/

namespace Sys2Proof.Machine

/-! ## Silence and recovery (R118, R187) -/

theorem Station.haltForLine_eq (s : Station) :
    s.haltForLine = (s.withOrder s.haltForLine.order).withLift s.haltForLine.lift := by
  unfold Station.haltForLine Station.haltWith
  split
  · rfl
  · rw [Station.stopLift_eq]; rfl
  · rw [Station.stopLift_eq]; rfl
  · rw [Station.stopLift_eq]; rfl
  · rw [Station.stopLift_eq]; rfl
  · rfl

theorem Station.haltForLine_order {s : Station} (h : s.order.state = .running ∨ s.order.state = .waiting ∨
    s.order.state = .loading ∨ s.order.state = .backing) :
    s.haltForLine.order.state = .halted ∧ s.haltForLine.order.haltLine = true ∧ s.haltForLine.order.reason = .line ∧
    s.haltForLine.order.resume = some s.order.state := by
  unfold Station.haltForLine Station.haltWith
  rcases h with h | h | h | h
  all_goals
    rw [h, Station.stopLift_eq]
    exact ⟨rfl, rfl, rfl, rfl⟩

theorem Station.lineRecovered_eq (s : Station) : s.lineRecovered = s.withOrder s.lineRecovered.order := by
  unfold Station.lineRecovered Station.unhalt
  split
  · split <;> rfl
  · rfl

theorem Station.unhalt_held {s : Station} (ho : s.order.haltOperator = true) : s.unhalt = s :=
  if_neg (by simp [ho])

theorem Station.unhalt_free {s : Station} (h : s.order.state = .halted) (ho : s.order.haltOperator = false)
    (hl : s.order.haltLine = false) : s.unhalt = s.returnTo (s.order.resume.getD .running) :=
  if_pos (by simp [h, ho, hl])

/-- The order that the line had halted goes on, unless the operator holds it too (R118). -/
theorem Station.lineRecovered_order {s : Station} {st : OrderState} (h : s.order.state = .halted)
    (hl : s.order.haltLine = true) (hr : s.order.resume = some st) :
    if s.order.haltOperator then s.lineRecovered.order.state = .halted ∧ s.lineRecovered.order.reason = .none
    else s.lineRecovered.order.state = st ∧ s.lineRecovered.order.reason = .none := by
  have hrec : s.lineRecovered = (s.withOrder { s.order with haltLine := false, reason := .none }).unhalt :=
    if_pos (by simp [h, hl])
  rw [hrec]
  cases ho : s.order.haltOperator with
  | true =>
    rw [if_pos rfl, Station.unhalt_held (by exact ho)]
    exact ⟨h, rfl⟩
  | false =>
    rw [if_neg (by decide), Station.unhalt_free (by exact h) (by exact ho) rfl]
    refine ⟨?_, rfl⟩
    change s.order.resume.getD .running = st
    rw [hr]
    rfl

/-- A carriage does not move while its line is silent (R88, R90). -/
theorem State.settled_silent (s : State) (dt : Nat) {u : Station} (ev : Events) (h : u.line.state = .silent) :
    (s.settled dt u ev).station.env.commanded = 0 := by
  refine Nat.eq_zero_of_not_pos fun hpos => ?_
  obtain ⟨-, -, -, hle⟩ := s.settled_moveSafe dt u ev hpos
  have hcap : (s.settled dt u ev).station.env.commanded ≤ (s.settled dt u ev).station.pCap := by
    unfold Station.permitted at hle
    split at hle <;> omega
  obtain ⟨-, -, -, -, hsilent, -⟩ := Station.of_le_pCap hpos hcap
  simp [Station.silent, h] at hsilent

/-! ## The announced period (R186) -/

theorem Station.periodEval_eq (s : Station) : s.periodEval =
    if s.periodNow = s.line.period then s
    else if s.periodNow < s.line.period ∧ s.beaconFar = true then
      (s.withLine { s.line with period := s.periodNow, beaconTimer := some (s.ms + s.par.beacon) }).beaconFallsDue
    else s.withLine { s.line with period := s.periodNow } := by
  unfold Station.periodEval
  dsimp only
  by_cases h : s.periodNow = s.line.period
  · rw [if_pos h, if_pos h]
  · rw [if_neg h, if_neg h]
    by_cases hf : s.periodNow < s.line.period ∧ s.beaconFar = true
    · rw [if_pos hf, if_pos (by simpa using hf)]
      rfl
    · rw [if_neg hf, if_neg (by simpa using hf)]

theorem Station.beaconFar_iff (s : Station) :
    s.beaconFar = true ↔ ∃ e, s.line.beaconTimer = some e ∧ s.ms + s.par.beacon < e := by
  unfold Station.beaconFar
  cases s.line.beaconTimer <;> simp

/-- The period that the line interface leaves at its evaluation (R186). -/
theorem Station.period_lineEval (s : Station) : s.lineEval.line.period = s.periodNow := by
  have hbeacon : ∀ x : Station, x.beaconFallsDue.line.period = x.line.period := fun x =>
    Station.field_of_bare (·.line.period) (fun _ => rfl) x.bare_beaconFallsDue
  have hdue : s.lineEval.line.period = s.periodEval.line.period := by
    unfold Station.lineEval Station.queueDueBeacon
    split
    · exact hbeacon _
    · rfl
  rw [hdue, Station.periodEval_eq]
  split
  · next h => exact h.symm
  · split
    · exact hbeacon _
    · rfl

/-- A beacon left due stands behind one in the queue, or behind a queue that has no place for it (R183). -/
theorem Station.due_lineEval (s : Station) (h : s.lineEval.line.beaconDue = true) :
    (∃ y ∈ s.lineEval.line.queue, y.frame = .beacon) ∨
    (8 ≤ s.lineEval.line.queue.length ∧ ∀ y ∈ s.lineEval.line.queue, y.prompt = true ∨ y.inFlight = true) := by
  unfold Station.lineEval Station.queueDueBeacon at h ⊢
  set p := s.periodEval
  by_cases hnone : ∀ y ∈ p.line.queue, y.frame ≠ .beacon
  · have hany : p.line.queue.any (·.isBeacon) = false :=
      List.any_eq_false.2 fun y hy => by simpa [QueueItem.isBeacon] using hnone y hy
    have hdue : p.line.beaconDue = true := by
      by_contra hc
      rw [if_neg (by simp [hc])] at h
      exact hc h
    rw [if_pos (by simp [hdue, hany]), Station.beaconFallsDue_offers hnone] at h ⊢
    have hrefused : (p.offer .beacon).2 = false := by simpa using h
    unfold Station.offer at hrefused
    split at hrefused
    · exact nomatch hrefused
    · next hfull =>
      rw [if_pos (show OutFrame.beacon.prompt = true from rfl)] at hrefused
      split at hrefused
      · exact nomatch hrefused
      · next hd =>
        have hq : 8 ≤ p.line.queue.length := by simpa [Config.places] using hfull
        have hall : ∀ y ∈ p.line.queue, y.prompt = true ∨ y.inFlight = true := fun y hy =>
          QueueItem.yields_eq_false.1 (dropLastRoutine_none hd y hy)
        rw [Station.offer_full hq (.inr hall)]
        exact .inr ⟨hq, hall⟩
  · have hex : ∃ y ∈ p.line.queue, y.frame = .beacon := by simpa using hnone
    have hany : p.line.queue.any (·.isBeacon) = true := by
      obtain ⟨y, hy, hf⟩ := hex
      exact List.any_eq_true.2 ⟨y, hy, by simp [QueueItem.isBeacon, hf]⟩
    rw [if_neg (by simp [hany])]
    exact .inl hex

/-! ## After every command -/

theorem Station.rounds_lineEval {P : Station → Prop} {s : Station} (h : Station.EvalStable P) (n : Nat) (old : Station)
    (ev : Events) (hs : P s) : ∃ x, P x ∧ Station.rounds (n + 1) old s ev = x.lineEval := by
  induction n generalizing old s ev with
  | zero =>
    obtain ⟨x, hx, hr⟩ := h.round_lineEval old ev hs
    refine ⟨x, hx, ?_⟩
    unfold Station.rounds
    dsimp only
    split
    · exact hr
    · exact hr
  | succ n ih =>
    unfold Station.rounds
    dsimp only
    split
    · exact h.round_lineEval old ev hs
    · exact ih _ _ (h.round old ev hs)

/-- A station on the line stands after a command as the line interface leaves it, but for the final drop. -/
theorem State.settled_lineEval {P : Station → Prop} (h : Station.EvalStable P) (s : State) (dt : Nat) {u : Station} (ev : Events)
    (hu : P u) (hon : (s.settled dt u ev).station.onLine = true) :
    ∃ x, P x ∧ (s.settled dt u ev).station = x.lineEval.finalDrop := by
  have hu' : u.onLine = true := by
    by_contra hoff
    have hs : (s.settled dt u ev).station = _ := Station.settle_of_offLine (s.old dt) ev (by simpa using hoff)
    rw [hs] at hon
    exact hoff hon
  obtain ⟨x, hx, hr⟩ := Station.rounds_lineEval h 7 (s.old dt) ev hu
  refine ⟨x, hx, ?_⟩
  change Station.settle (s.old dt) u ev = _
  unfold Station.settle
  rw [if_pos hu']
  exact congrArg Station.finalDrop hr

theorem Station.dropStep_eq (s : Station) : s.dropStep = s.withEnv s.dropStep.env := by
  unfold Station.dropStep
  extract_lets top
  split <;> rfl

theorem Station.finalDrop_eq (s : Station) : s.finalDrop = s.withEnv s.finalDrop.env := by
  unfold Station.finalDrop
  split
  · exact s.dropStep_eq
  · rfl

/-- The evaluation of the line interface leaves alone what neither a displaced frame's maker nor the line has a part in. -/
theorem Station.field_lineEval {α : Type} (g : Station → α) (hg : ∀ x : Station, g x.bare = g x)
    (hl : ∀ (x : Station) l, g (x.withLine l) = g x) (s : Station) : g s.lineEval = g s := by
  have hbeacon : ∀ x : Station, g x.beaconFallsDue = g x := fun x => Station.field_of_bare g hg x.bare_beaconFallsDue
  have hdue : ∀ x : Station, g x.queueDueBeacon = g x := fun x => by
    unfold Station.queueDueBeacon
    split
    · exact hbeacon x
    · rfl
  unfold Station.lineEval
  rw [hdue, Station.periodEval_eq]
  split
  · rfl
  · split
    · rw [hbeacon, hl]
    · exact hl _ _

/-- Start-up is not READY, and FAULT is clear. -/
def Station.Starting (s : Station) : Prop := s.start.phase ≠ .ready ∧ s.line.fault = false

theorem Station.starting_claimNotSent {s : Station} (h : s.Starting) (n : Nat) : (s.claimNotSent n).Starting := by
  have htell : ∀ (x : Station) a n, x.Starting → (x.tell a n .notNow).Starting := fun x a n hx => by
    cases a with
    | startup =>
      change Station.Starting (if x.start.phase = .bodyClaim then x.retryBodyClaim else x)
      split
      · rw [Station.retryBodyClaim_eq hx.2]
        exact hx
      · exact hx
    | backing =>
      change Station.Starting (x.markPopped n _)
      unfold Station.markPopped
      split
      · exact hx
      · exact hx
    | _ => exact hx
  unfold Station.claimNotSent
  split
  · split
    · exact htell _ _ _ h
    · exact h
  · exact h

theorem Station.starting_beaconFallsDue {s : Station} (h : s.Starting) : s.beaconFallsDue.Starting := by
  have hdisplaced : ∀ (x : Station) y, x.Starting → (x.displaced y).Starting := fun x y hx => by
    unfold Station.displaced
    split
    · split
      · exact hx
      · exact Station.starting_claimNotSent hx _
    · exact hx
    · exact hx
    · exact hx
    · unfold Station.oweClear
      split
      · exact hx
      · exact hx
    · exact hx
  have hoffer : (s.offer .beacon).1.Starting := by
    unfold Station.offer
    split
    · exact h
    · rw [if_pos (show OutFrame.beacon.prompt = true from rfl)]
      split
      · exact hdisplaced _ _ h
      · exact h
  by_cases hnone : ∀ y ∈ s.line.queue, y.frame ≠ .beacon
  · rw [Station.beaconFallsDue_offers hnone]
    exact hoffer
  · unfold Station.beaconFallsDue
    split
    · split
      · exact h
      · exact h
    · next hx => exact absurd (fun y hy => by simpa [QueueItem.isBeacon] using List.find?_eq_none.1 hx y hy) hnone

/-- Without FAULT the line interface does not end start-up. -/
theorem Station.starting_lineEval {s : Station} (h : s.Starting) : s.lineEval.Starting := by
  have hperiod : s.periodEval.Starting := by
    rw [Station.periodEval_eq]
    split
    · exact h
    · split
      · exact Station.starting_beaconFallsDue h
      · exact h
  unfold Station.lineEval Station.queueDueBeacon
  split
  · exact Station.starting_beaconFallsDue hperiod
  · exact hperiod

/-- Every command but a reset keeps READY. -/
theorem Station.ready_commands {c : Instr} (hc : ¬c.resets) : Station.CommandStable c fun s => s.start.phase = .ready where
  toStable := Station.ready_stable
  inputs _ _ h := h
  peers n f _ h := by rw [Station.mapPeer_eq]; exact h
  index _ h := h
  line _ _ _ _ h := h
  phase _ _ _ hx h := hx h
  pos _ _ _ _ h := h
  place _ _ _ _ _ _ h := h
  exit _ _ _ _ _ h := h
  load _ _ _ h := h
  mem h := h
  reset h := absurd h hc
  boot _ _ _ hp h := nomatch hp.symm.trans h

theorem Station.ready_evals : Station.EvalStable fun s => s.start.phase = .ready where
  toStable := Station.ready_stable
  rotate _ _ _ h := h

theorem Station.any_evals : Station.EvalStable fun _ => True where
  passage _ h := h
  appr _ h := h
  backing _ h := h
  park _ h := h
  write _ h := h
  lift _ _ h := h
  trail _ _ h := h
  order _ _ h := h
  claims _ _ h := h
  queue _ _ h := h
  schedule _ _ _ h := h
  start _ _ _ h := h
  tt _ _ _ h := h
  env _ _ _ _ _ _ h := h
  latch _ h := h
  raise _ h := h
  dir _ _ h := h
  deck h := h
  rotate _ _ _ h := h

/-- Every command leaves a station on the line as the line interface leaves it, READY before that where it was READY. -/
theorem exec_lineEval {c : Instr} {s t : State} (he : exec c s = .next t) (hon : t.station.onLine = true) :
    ∃ x : Station, t.station = x.lineEval.finalDrop ∧ (s.station.start.phase = .ready → x.start.phase = .ready) := by
  have hreset : ¬c.resets := fun hc => by
    cases c <;> try exact hc
    cases he
    cases hon
  by_cases hp : s.station.start.phase = .ready
  · obtain ⟨dt, u, ev, hu, rfl⟩ := exec_acts (Station.ready_commands hreset) (fun _ => hp) he
    obtain ⟨x, hx, ht⟩ := State.settled_lineEval Station.ready_evals s dt ev hu hon
    exact ⟨x, ht, fun _ => hx⟩
  · obtain ⟨dt, u, ev, rfl⟩ : ∃ dt u ev, t = s.settled dt u ev := by
      cases c <;> (cases he; exact ⟨_, _, _, rfl⟩)
    obtain ⟨x, -, ht⟩ := State.settled_lineEval Station.any_evals s dt ev trivial hon
    exact ⟨x, ht, fun h => absurd h hp⟩

theorem Station.parked_iff (s : Station) : s.parked = true ↔ s.start.phase = .ready ∧
    if s.isCarriage then s.order.state.resting = true ∧ s.inputs.confirmed = 0
      else s.tt.deck = .idle ∧ s.tt.holder = none ∧ s.tt.queue = [] := by
  unfold Station.parked
  cases s.isCarriage <;> simp [and_assoc]

/-- The announced period after every command (R186). -/
theorem exec_period {c : Instr} {s t : State} (he : exec c s = .next t) (hon : t.station.onLine = true) :
    (t.station.start.phase ≠ .ready → t.station.line.period = t.station.par.beacon) ∧
    (s.station.start.phase = .ready ∨ t.station.line.fault = false → t.station.start.phase = .ready →
      t.station.line.period =
        if (if t.station.isCarriage then t.station.order.state.resting = true ∧ t.station.inputs.confirmed = 0
          else t.station.tt.deck = .idle ∧ t.station.tt.holder = none ∧ t.station.tt.queue = []) then
          4 * t.station.par.beacon
        else t.station.par.beacon) := by
  obtain ⟨x, ht, hready⟩ := exec_lineEval he hon
  rw [Station.finalDrop_eq] at ht
  have hfield : ∀ {α : Type} (g : Station → α), (∀ y : Station, g y.bare = g y) → (∀ (y : Station) l, g (y.withLine l) = g y) →
      (∀ (y : Station) e, g (y.withEnv e) = g y) → g t.station = g x := fun g h1 h2 h3 => by
    rw [ht, h3]
    exact Station.field_lineEval g h1 h2 x
  have hpark : x.parked = true ↔ x.start.phase = .ready ∧
      if t.station.isCarriage then t.station.order.state.resting = true ∧ t.station.inputs.confirmed = 0
        else t.station.tt.deck = .idle ∧ t.station.tt.holder = none ∧ t.station.tt.queue = [] := by
    rw [hfield Station.isCarriage (fun _ => rfl) (fun _ _ => rfl) (fun _ _ => rfl),
      hfield (·.order.state) (fun _ => rfl) (fun _ _ => rfl) (fun _ _ => rfl),
      hfield (·.inputs) (fun _ => rfl) (fun _ _ => rfl) (fun _ _ => rfl),
      hfield (·.tt.deck) (fun _ => rfl) (fun _ _ => rfl) (fun _ _ => rfl),
      hfield (·.tt.holder) (fun _ => rfl) (fun _ _ => rfl) (fun _ _ => rfl),
      hfield (·.tt.queue) (fun _ => rfl) (fun _ _ => rfl) (fun _ _ => rfl)]
    exact x.parked_iff
  have hpar : t.station.par = x.par := hfield (·.par) (fun _ => rfl) (fun _ _ => rfl) (fun _ _ => rfl)
  have hperiod : t.station.line.period = if x.parked then 4 * t.station.par.beacon else t.station.par.beacon := by
    rw [hpar, ht]
    exact x.period_lineEval
  have hphase : t.station.start.phase = x.lineEval.start.phase := by rw [ht]; rfl
  have hline : t.station.line.fault = x.lineEval.line.fault := by rw [ht]; rfl
  rw [hperiod, hphase, hline]
  refine ⟨fun hn => ?_, fun hor hp => ?_⟩
  · exact if_neg fun hc => hn (Station.ready_stable.lineEval (hpark.1 hc).1)
  · have hx : x.start.phase = .ready := by
      by_contra hne
      have hfault : x.line.fault = false := by
        have hf := hor.resolve_left fun h => hne (hready h)
        have : x.lineEval.line.fault = x.line.fault :=
          Station.field_of_steady (·.line.fault) (fun _ => rfl) x.steady_lineEval
        exact this.symm.trans hf
      exact (Station.starting_lineEval ⟨hne, hfault⟩).1 hp
    by_cases hk : x.parked = true
    · rw [if_pos hk]
      exact (if_pos (hpark.1 hk).2).symm
    · rw [if_neg hk]
      exact (if_neg fun h => hk (hpark.2 ⟨hx, h⟩)).symm

/-! ## The clauses of the obligation -/

/-- An offer to the transmit queue (R181, R182). -/
theorem Station.offer_spec (v : Station) (f : OutFrame) :
    let q := v.line.queue
    let u := (v.offer f).1
    let placed (l : List QueueItem) : List QueueItem :=
      if f.prompt then l.filter (·.prompt) ++ { frame := f } :: l.filter (fun y => !y.prompt) else l ++ [{ frame := f }]
    (q.length < 8 → v.offer f = (v.withLine { v.line with queue := placed q }, true)) ∧
    (8 ≤ q.length → f.prompt = false ∨ (∀ y ∈ q, y.prompt = true ∨ y.inFlight = true) → v.offer f = (v, false)) ∧
    ∀ a x b, 8 ≤ q.length → f.prompt = true → q = a ++ x :: b → x.prompt = false → x.inFlight = false →
      (∀ y ∈ b, y.prompt = true ∨ y.inFlight = true) →
      let w := v.withLine { v.line with queue := placed (a ++ b) }
      (v.offer f).2 = true ∧ u = w.displaced x := by
  intro q u placed
  have hplaced : ∀ l, enqueue l f = placed l := fun l => enqueue_eq l f
  refine ⟨fun hq => ?_, fun hq h => Station.offer_full hq h, fun a x b hq hf hs hx hxf hb => ?_⟩
  · rw [Station.offer_room f hq, hplaced]
    rfl
  · have ho := Station.offer_displaces hq hf hs hx hxf hb
    intro w
    have hw : v.setQueue (enqueue (a ++ b) f) = w := by
      rw [hplaced]
      rfl
    dsimp only [u]
    rw [ho, hw]
    exact ⟨rfl, rfl⟩

/-- One RELEASE for what is owed (R67, R184). -/
theorem Station.offerReleases_spec (v : Station) :
    let q := v.line.queue
    let u := v.offerReleases
    let new := v.claims.owedSegs.take 8
    (new = [] → u = v) ∧
    (new ≠ [] → (∀ y ∈ q, ¬y.takesRelease) →
      (q.length < 8 → u.line = { v.line with queue := q ++ [{ frame := .release new }] } ∧
        u.claims.entries = v.claims.entries ∧
        ∀ n, n < 128 → u.claims.owed[n]? = if n ∈ new then some false else v.claims.owed[n]?) ∧
      (8 ≤ q.length → u = v)) ∧
    ∀ a x b segs, new ≠ [] → q = a ++ x :: b → (∀ y ∈ a, ¬y.takesRelease) → x.takesRelease → x.frame = .release segs →
      let fresh := new.filter fun n => !segs.contains n
      let rest := fresh.drop (8 - segs.length)
      ∃ l, l.Perm (segs ++ fresh.take (8 - segs.length)) ∧ l.Pairwise (· ≤ ·) ∧
        let merged := a ++ { x with frame := .release l } :: b
        u.claims.entries = v.claims.entries ∧
        (rest = [] → u.line = { v.line with queue := merged }) ∧
        (rest ≠ [] → u.line = { v.line with
          queue := if q.length < 8 then merged ++ [{ frame := .release rest }] else merged }) ∧
        ∀ n, n < 128 → u.claims.owed[n]? =
          if n ∈ new ∧ (q.length < 8 ∨ n ∉ rest) then some false else v.claims.owed[n]? := by
  intro q u new
  refine ⟨fun hnew => ?_, fun hnew hq => ?_, fun a x b segs hnew hq ha hx hf => ?_⟩
  · dsimp only [u]
    unfold Station.offerReleases
    extract_lets new'
    exact if_pos (by simpa using hnew)
  · have hu : u = _ := Station.offerReleases_eq hnew (mergeRelease_none _ hq)
    rw [if_neg hnew] at hu
    refine ⟨fun hroom => ?_, fun hfull => ?_⟩
    · rw [if_pos (by exact hroom)] at hu
      rw [hu]
      refine ⟨rfl, rfl, fun n hn => ?_⟩
      rw [Station.owed_setOwed]
      simp only [hn, and_true]
      rfl
    · rw [if_neg (by exact Nat.not_lt.2 hfull)] at hu
      have hnone : (new.filter fun n => !new.contains n) = [] := by simp
      rw [hu, hnone]
      rfl
  · intro fresh rest
    have hm := mergeRelease_first new (b := b) ha hx hf
    rw [← hq] at hm
    have hu : u = _ := Station.offerReleases_eq hnew hm
    refine ⟨_, sortBy_perm _ _, sortBy_le_pairwise _, ?_⟩
    set l := sortBy (fun m n => decide (m ≤ n)) (segs ++ fresh.take (8 - segs.length)) with hl
    change u = if rest = [] then (v.setQueue (a ++ { x with frame := .release l } :: b)).setOwed new false
      else if (a ++ { x with frame := .release l } :: b).length < 8 then
        ((v.setQueue (a ++ { x with frame := .release l } :: b)).setQueue
          ((a ++ { x with frame := .release l } :: b) ++ [{ frame := .release rest }])).setOwed new false
      else (v.setQueue (a ++ { x with frame := .release l } :: b)).setOwed (new.filter fun n => !rest.contains n) false at hu
    intro merged
    have hlen : merged.length = q.length := by simp [merged, hq]
    by_cases hr : rest = []
    · rw [if_pos hr] at hu
      rw [hu]
      refine ⟨rfl, fun _ => rfl, fun h => absurd hr h, fun n hn => ?_⟩
      rw [Station.owed_setOwed]
      simp only [hn, and_true, hr, List.not_mem_nil, not_false_eq_true, or_true]
      rfl
    · rw [if_neg hr] at hu
      by_cases hroom : q.length < 8
      · rw [if_pos (by rw [← hlen] at hroom; exact hroom)] at hu
        rw [hu]
        refine ⟨rfl, fun h => absurd h hr, fun _ => ?_, fun n hn => ?_⟩
        · rw [if_pos hroom]
          rfl
        · rw [Station.owed_setOwed]
          simp only [hn, and_true, hroom, true_or]
          rfl
      · rw [if_neg (by rw [← hlen] at hroom; exact hroom)] at hu
        rw [hu]
        refine ⟨rfl, fun h => absurd h hr, fun _ => ?_, fun n hn => ?_⟩
        · rw [if_neg hroom]
          rfl
        · rw [Station.owed_setOwed]
          simp only [hn, and_true, hroom, false_or, List.mem_filter, Bool.not_eq_true', List.contains_eq_mem, decide_eq_false_iff_not]
          rfl

/-- Settles O31. -/
theorem lineTimersRunOut : Obligations.LineTimersRunOut := by
  refine ⟨fun dt s hon => ⟨fun hdue => ?_, fun hdue hcar hl => ?_, fun hdue hcar hl => ?_⟩, fun v f => ?_, fun v => ?_,
    fun v => ?_, fun v hb => ?_, fun c s t he hon => ?_⟩
  · intro u
    have hperiod : (s.old dt).beaconFallsDue.line.period = s.station.line.period :=
      Station.field_of_bare (s := s.old dt) (·.line.period) (fun _ => rfl) (s.old dt).bare_beaconFallsDue
    have hms : (s.old dt).beaconFallsDue.ms = (s.old dt).ms :=
      Station.field_of_bare (s := s.old dt) (·.ms) (fun _ => rfl) (s.old dt).bare_beaconFallsDue
    refine ⟨?_, ?_, (s.old dt).beaconFallsDue_queued⟩
    · dsimp only [exec, execBeaconTimerExpiry]
      rw [State.onTimer_due _ _ _ _ _ hon hdue]
    · rw [← hperiod, ← hms]
      rfl
  · intro u
    have hu : u = _ := ((s.old dt).withLine { s.station.line with state := .silent, silenceTimer := none }).haltForLine_eq
    have hline : u.line = { s.station.line with state := .silent, silenceTimer := none } := by
      rw [hu]
      rfl
    refine ⟨s.settled dt u {}, ?_, rfl, ?_, ?_, ?_, ?_, fun h => ?_⟩
    · dsimp only [exec, execSilenceTimerExpiry]
      rw [State.onTimer_due _ _ _ _ _ hon hdue, if_pos (by simp [hcar, hl])]
    · rw [State.settled_line_state, hline]
    · rw [State.settled_line_silenceTimer, hline]
    · exact s.settled_silent dt {} (by rw [hline])
    · rw [hu]
      rfl
    · exact Station.haltForLine_order
        (s := (s.old dt).withLine { s.station.line with state := .silent, silenceTimer := none }) h
  · intro u
    set w : Station := ((s.old dt).withLine { s.station.line with
      state := .heard, recoveryTimer := none, recovered := true }).withLine { s.station.line with
        state := .heard, recoveryTimer := none, recovered := true
        silenceTimer := some ((s.old dt).ms + 3 * s.station.line.period) } with hw
    have huw : u = w.lineRecovered := by
      dsimp only [u]
      unfold Station.lineRecover Station.restartSilence
      rw [if_pos (by exact hcar)]
      rfl
    have hline : u.line = w.line := by
      rw [huw, Station.lineRecovered_eq]
      rfl
    refine ⟨s.settled dt u {}, ?_, rfl, ?_, ?_, ?_, ?_, fun st h1 h2 h3 => ?_⟩
    · dsimp only [exec, execRecoveryTimerExpiry]
      rw [State.onTimer_due _ _ _ _ _ hon hdue, if_pos (by simp [hcar, hl])]
    · rw [State.settled_line_state, hline]
      rfl
    · rw [State.settled_line_recovered, hline]
      rfl
    · rw [State.settled_line_recoveryTimer, hline]
      rfl
    · rw [State.settled_line_silenceTimer, hline]
      rfl
    · rw [huw]
      exact Station.lineRecovered_order (s := w) h1 h2 h3
  · intro q u placed
    obtain ⟨hroom, hfull, hdis⟩ := v.offer_spec f
    refine ⟨hroom, hfull, fun a x b hq hf hs hx hxf hb => ?_⟩
    obtain ⟨htaken, hu⟩ := hdis a x b hq hf hs hx hxf hb
    intro w
    obtain ⟨hclaim, horphan, hrelease, hyield, hask, hclear, haboard⟩ := w.displaced_spec x
    change u = w.displaced x at hu
    refine ⟨htaken, fun seg tag r e h1 h2 h3 h4 h5 => ?_, fun seg tag r h1 h2 => ?_, fun segs h1 => ?_, fun seg h c h1 => ?_,
      fun t c d h1 => ?_, fun t h1 => ?_, fun t h1 => ?_⟩
    · rw [hu, hclaim seg tag r e h1 h2 h3 h4 h5]
      obtain ⟨k1, k2, k3, -⟩ := Station.removeGroup_told (s := w) (e := e) (seg := seg) (by simpa using List.find?_some h3)
      exact ⟨k1, k2, k3⟩
    · rw [hu, horphan seg tag r h1 h2]
    · rw [hu, hrelease segs h1]
      refine ⟨rfl, rfl, fun n hn => ?_⟩
      rw [Station.owed_setOwed]
      simp only [hn, and_true]
      rfl
    · rw [hu, hyield seg h c h1]
      refine ⟨rfl, fun n hn => ?_⟩
      rw [Station.withOrder_order, Vector.getElem?_setIfInBounds]
      by_cases hs : seg = n
      · rw [if_pos hs, if_pos hs.symm, if_pos (by omega)]
      · rw [if_neg hs, if_neg (Ne.symm hs)]
        rfl
    · rw [hu, hask t c d h1]
      rfl
    · rw [hu, hclear t h1]
      exact ⟨w.line_oweClear t, w.mem_oweClear t⟩
    · rw [hu, haboard t h1]
  · intro q u
    obtain ⟨hroom, hfull, -⟩ := v.offer_spec .beacon
    refine ⟨fun hn hq => ?_, fun hn hq hall => ?_, fun hn hq hex => ?_, fun a x b hs hx hall => ?_⟩
    · dsimp only [u]
      rw [Station.beaconFallsDue_offers hn, hroom hq]
      rfl
    · dsimp only [u]
      rw [Station.beaconFallsDue_offers hn, hfull hq (.inr hall)]
      rfl
    · intro w
      have htaken : (v.offer .beacon).2 = true := by
        by_contra hc
        unfold Station.offer at hc
        rw [if_neg (by simpa [Config.places] using hq), if_pos (show OutFrame.beacon.prompt = true from rfl)] at hc
        split at hc
        · exact hc rfl
        · next hd =>
          obtain ⟨y, hy, hp, hfl⟩ := hex
          rcases QueueItem.yields_eq_false.1 (dropLastRoutine_none hd y hy) with h | h
          · exact absurd (hp.symm.trans h) (by decide)
          · exact absurd (hfl.symm.trans h) (by decide)
      dsimp only [u]
      rw [Station.beaconFallsDue_offers hn, htaken]
      rfl
    · dsimp only [u]
      rw [Station.beaconFallsDue_replaces hs hx hall]
      rfl
  · intro q u new unsent
    have hnew : v.claims.owedSegs.take 8 = new := by rw [ClaimBlock.owedSegs_eq]
    have h := v.offerReleases_spec
    rw [hnew] at h
    exact h
  · have heq := v.periodEval_eq
    have hfar := v.beaconFar_iff
    refine ⟨fun hp hor => ?_, fun hp hl => ?_, fun hp hl => ?_⟩
    · have hnow : v.periodNow = 4 * v.par.beacon := if_pos hp
      rw [hnow] at heq
      rw [heq]
      split
      · next h =>
        rw [h]
        rfl
      · rw [if_neg (by omega)]
    · have hnow : v.periodNow = v.par.beacon := if_neg (by simp [hp])
      rw [heq, hnow, if_pos hl.symm]
    · have hnow : v.periodNow = v.par.beacon := if_neg (by simp [hp])
      rw [hnow, if_neg (by omega)] at heq
      intro far
      refine ⟨fun hf => ?_, fun hf => ?_⟩
      · rw [heq, if_neg fun h => hf (hfar.1 h.2)]
      · rw [heq, if_pos ⟨by omega, hfar.2 hf⟩]
  · obtain ⟨x, ht, -⟩ := exec_lineEval he hon
    refine ⟨fun hd => ?_, exec_period he hon⟩
    rw [Station.finalDrop_eq] at ht
    rw [ht] at hd ⊢
    exact x.due_lineEval hd

end Sys2Proof.Machine
end

section
/-! PROOFS. The end of BOOT-READ with every block good (R35, R82, R139, R143, R150, R189–R192). -/

namespace Sys2Proof.Machine

/-- The evaluations after a command keep a phase that is not BODY-CLAIM. -/
theorem Station.phase_evals {p : Phase} (hp : p ≠ .bodyClaim) : Station.EvalStable fun s => s.start.phase = p where
  passage _ h := h
  appr _ h := h
  backing _ h := h
  park _ h := h
  write _ h := h
  lift _ _ h := h
  trail _ _ h := h
  order _ _ h := h
  claims _ _ h := h
  queue _ _ h := h
  schedule _ _ _ h := h
  start _ _ hx h := hx.elim (fun hs => hs.trans h) fun hs => absurd (h.symm.trans hs.1) hp
  tt _ _ _ h := h
  env _ _ _ _ _ _ h := h
  latch _ h := h
  raise _ h := h
  dir _ _ h := h
  deck h := h
  rotate _ _ _ h := h

/-! ## The map as the role takes it (R8, R9) -/

theorem TrackMap.acceptedPark_takePads (m : TrackMap) (p : Params) (l : List Byte) :
    acceptedPark (m.takePads p) l = acceptedPark m l := by
  have hline : ∀ n, (m.takePads p).line? n = m.line? n := fun n => by
    unfold TrackMap.takePads
    split <;> rfl
  unfold acceptedPark
  simp only [hline]

/-! ## What a carriage settles (R189) -/

/-- The position of an accepted park record, and the record then in force (R35, R191). -/
def Station.recordTaken (s : Station) (r : Option (Nat × Chainage)) : Station :=
  match r with
  | some (line, centre) =>
    (s.withPos (s.pos.reference line centre Config.uMin s.par.drift)).withPark { s.park with validOut := true }
  | none => s

theorem Position.reference_boot (p : Position) (line : Nat) (centre : Chainage) (drift : Nat) :
    p.reference line centre Config.uMin drift = { p with
      frame := .line, line := line, centre := centre, acc := centre * 1000, travel := 0, travelAcc := 0, uRef := 10
      u := 10 } := by
  have hu : computeU .line Config.uMin 0 drift = 10 := by
    unfold computeU
    rw [Nat.zero_mul]
    rfl
  unfold Position.reference Position.recompute
  rw [hu]

/-- Tables, position and lift at the end of BOOT-READ (R143, R150, R189). -/
def Station.liftSettled (s : Station) (r : Option (Nat × Chainage)) : Station :=
  let w := (s.withEnv { s.env with
    emptyTable := stoppingTable s.par.ladder s.par.tr s.par.aEmpty
    loadedTable := stoppingTable s.par.ladder s.par.tr s.par.aLoaded }).recordTaken r
  w.withLift { w.lift with state := w.inputs.endState, load := if w.inputs.loadSensed then .loaded else .empty }

/-- Tables, position, lift and docking index at the end of BOOT-READ (R139, R143, R150, R189). -/
def Station.carriageSettled (s : Station) (r : Option (Nat × Chainage)) : Station :=
  (s.liftSettled r).withIndex (if s.inputs.dockRaw = false then s.index
    else if s.par.debounce = 0 then ⟨.active, none⟩ else ⟨.settling, some (s.ms + s.par.debounce)⟩)

theorem Station.recordTaken_eq (s : Station) (r : Option (Nat × Chainage)) :
    s.recordTaken r = (s.withPos (s.recordTaken r).pos).withPark (s.recordTaken r).park := by
  unfold Station.recordTaken
  split <;> rfl

theorem Station.liftSettled_eq (s : Station) (r : Option (Nat × Chainage)) : ∃ e p k l,
    s.liftSettled r = (((s.withEnv e).withPos p).withPark k).withLift l := by
  unfold Station.liftSettled
  dsimp only
  rw [Station.recordTaken_eq]
  exact ⟨_, _, _, _, rfl⟩

theorem Station.bootCarriage_settles (s : Station) (b : Bool) :
    s.bootCarriage b = s.carriageSettled ((s.parkBytes b).bind (acceptedPark s.map)) := by
  have hboot : s.bootCarriage b = if (s.liftSettled ((s.parkBytes b).bind (acceptedPark s.map))).inputs.dockRaw then
      (s.liftSettled ((s.parkBytes b).bind (acceptedPark s.map))).indexChanged
    else s.liftSettled ((s.parkBytes b).bind (acceptedPark s.map)) := rfl
  rw [hboot]
  generalize (s.parkBytes b).bind (acceptedPark s.map) = r
  obtain ⟨e, p, k, l, hx⟩ := s.liftSettled_eq r
  have hfields : (s.liftSettled r).inputs = s.inputs ∧ (s.liftSettled r).index = s.index ∧
      (s.liftSettled r).par = s.par ∧ (s.liftSettled r).ms = s.ms := by
    rw [hx]
    exact ⟨rfl, rfl, rfl, rfl⟩
  obtain ⟨hin, hix, hpar, hms⟩ := hfields
  unfold Station.carriageSettled
  rw [hin]
  cases hd : s.inputs.dockRaw with
  | false =>
    rw [if_neg (by decide), if_pos rfl, ← hix]
    rfl
  | true =>
    rw [if_pos rfl, if_neg (by decide), Station.indexChanged_eq, hin, hpar, hms, hd]
    rfl

/-! ## The line interface comes into use (R192) -/

/-- The line interface in use, before its first beacon falls due (R192). -/
def Station.lineUsed (s : Station) : Station :=
  let w := s.withLine { s.line with
    period := s.par.beacon, beaconTimer := some (s.ms + s.par.beacon)
    silenceTimer := if s.isCarriage then some (s.ms + 3 * s.par.beacon) else none }
  if s.isCarriage then w.withOrder { w.order with evalTimer := some (s.ms + s.par.beacon) }
  else w.withTt { w.tt with evalTimer := some (s.ms + s.par.beacon) }

theorem Station.bringOnLine_eq (s : Station) : s.bringOnLine = s.lineUsed.beaconFallsDue := rfl

theorem Station.lineUsed_eq (s : Station) : ∃ o t, s.lineUsed = ((s.withLine { s.line with
    period := s.par.beacon, beaconTimer := some (s.ms + s.par.beacon)
    silenceTimer := if s.isCarriage then some (s.ms + 3 * s.par.beacon) else none }).withOrder o).withTt t := by
  unfold Station.lineUsed
  dsimp only
  split
  · exact ⟨{ s.order with evalTimer := some (s.ms + s.par.beacon) }, s.tt, rfl⟩
  · exact ⟨s.order, { s.tt with evalTimer := some (s.ms + s.par.beacon) }, rfl⟩

/-- Bringing the line into use leaves alone what neither a displaced frame's maker nor the timers have a part in. -/
theorem Station.field_bringOnLine {α : Type} (g : Station → α) (hg : ∀ x : Station, g x.bare = g x)
    (hl : ∀ (x : Station) l o t, g (((x.withLine l).withOrder o).withTt t) = g x) (s : Station) : g s.bringOnLine = g s := by
  obtain ⟨o, t, h⟩ := s.lineUsed_eq
  rw [Station.bringOnLine_eq, Station.field_of_bare g hg s.lineUsed.bare_beaconFallsDue, h, hl]

theorem Station.line_bringOnLine (s : Station) :
    s.bringOnLine.line.period = s.par.beacon ∧ s.bringOnLine.line.beaconTimer = some (s.ms + s.par.beacon) ∧
    s.bringOnLine.line.silenceTimer = (if s.isCarriage then some (s.ms + 3 * s.par.beacon) else none) ∧
    (s.bringOnLine.line.beaconDue = true ∨ s.bringOnLine.queues .beacon) := by
  obtain ⟨o, t, h⟩ := s.lineUsed_eq
  have hb := s.lineUsed.bare_beaconFallsDue
  refine ⟨?_, ?_, ?_, s.lineUsed.beaconFallsDue_queued⟩
  · rw [Station.bringOnLine_eq, Station.field_of_bare (·.line.period) (fun _ => rfl) hb, h]
    rfl
  · rw [Station.bringOnLine_eq, Station.field_of_bare (·.line.beaconTimer) (fun _ => rfl) hb, h]
    rfl
  · rw [Station.bringOnLine_eq, Station.field_of_bare (·.line.silenceTimer) (fun _ => rfl) hb, h]
    rfl

theorem Station.phase_bringOnLine {s : Station} (h : s.start.phase = .listenIn) : s.bringOnLine.start.phase = .listenIn := by
  obtain ⟨o, t, heq⟩ := s.lineUsed_eq
  rw [Station.bringOnLine_eq]
  refine (Station.phase_evals (p := .listenIn) (by decide)).beaconFallsDue ?_
  rw [heq]
  exact h

/-! ## BOOT-READ ends (R189–R192) -/

/-- The part as LISTEN-IN begins, before the line interface is brought into use. -/
def Station.booted (s : Station) (p : Params) (m : TrackMap) (clamped : Bool) (r : Option (Nat × Chainage)) : Station :=
  let w := (s.withPar p).withMap m
  let x := if p.role = .carriage then w.carriageSettled r else w
  x.withStart { s.start with phase := .listenIn, clamped := clamped, listenEnd := some (s.ms + 2 * p.beacon) }

/-- What a carriage settles, field by field. -/
theorem Station.carriageSettled_fields (s : Station) (r : Option (Nat × Chainage)) :
    let u := s.carriageSettled r
    u.start = s.start ∧ u.ms = s.ms ∧ u.par = s.par ∧ u.map = s.map ∧ u.peers = s.peers ∧
    u.env.emptyTable = stoppingTable s.par.ladder s.par.tr s.par.aEmpty ∧
    u.env.loadedTable = stoppingTable s.par.ladder s.par.tr s.par.aLoaded ∧
    u.lift.load = (if s.inputs.loadSensed then .loaded else .empty) ∧ u.lift.state = s.inputs.endState ∧
    u.index = (if s.inputs.dockRaw = false then s.index
      else if s.par.debounce = 0 then ⟨.active, none⟩ else ⟨.settling, some (s.ms + s.par.debounce)⟩) ∧
    match r with
    | some (line, centre) =>
      u.pos = { s.pos with
        frame := .line, line := line, centre := centre, acc := centre * 1000, travel := 0, travelAcc := 0, uRef := 10
        u := 10 } ∧ u.park.validOut = true
    | none => u.pos = s.pos ∧ u.park = s.park := by
  cases r with
  | none => exact ⟨rfl, rfl, rfl, rfl, rfl, rfl, rfl, rfl, rfl, rfl, rfl, rfl⟩
  | some p =>
    exact ⟨rfl, rfl, rfl, rfl, rfl, rfl, rfl, rfl, rfl, rfl, Position.reference_boot s.pos p.1 p.2 s.par.drift, rfl⟩

theorem Station.bootGood_eq (s : Station) (p : Params) (m : TrackMap) (k b : Bool) :
    s.bootGood p m k b = (s.booted p m k ((s.parkBytes b).bind (acceptedPark m))).bringOnLine := by
  have hboot : ∀ x : Station, x.start = s.start → x.ms = s.ms → (x.withStart { x.start with
      phase := .listenIn, clamped := k, listenEnd := some (x.ms + 2 * p.beacon) }).bringOnLine =
      (x.withStart { s.start with
        phase := .listenIn, clamped := k, listenEnd := some (s.ms + 2 * p.beacon) }).bringOnLine := fun x hs hm => by
    rw [hs, hm]
  unfold Station.booted
  dsimp only
  by_cases hr : p.role = .carriage
  · obtain ⟨h1, h2, -⟩ := ((s.withPar p).withMap m).carriageSettled_fields ((s.parkBytes b).bind (acceptedPark m))
    unfold Station.bootGood
    dsimp only
    rw [if_pos (show ((s.withPar p).withMap m).isCarriage = true from decide_eq_true hr), Station.bootCarriage_settles,
      if_pos hr]
    exact hboot _ h1 h2
  · unfold Station.bootGood
    dsimp only
    rw [if_neg (show ¬((s.withPar p).withMap m).isCarriage = true from fun h => hr (of_decide_eq_true h)), if_neg hr]
    rfl

/-- Every block good and no map fault: what `bootRead` is (R189). -/
theorem Station.bootRead_good {s : Station} {i : BootImage} (hp : paramsGood i.parameters = true)
    (hm : blockGood i.mapBlock 1414 = true) (hpads : blockGood i.pads 386 = true) (hmark : blockGood i.markers 1282 = true)
    (hc : (((readMapBlock i.mapBlock).withPads i.pads).withMarkers i.markers).checks (rawParams i.parameters).ordered = true) :
    let raw := rawParams i.parameters
    let m := ((readMapBlock i.mapBlock).withPads i.pads).withMarkers i.markers
    s.bootRead i = s.bootGood raw.ordered (m.takePads raw.ordered) (decide (raw ≠ raw.ordered) || m.padsClamped)
      i.parkDelivered := by
  intro raw m
  unfold Station.bootRead
  rw [hp, hm, hpads, hmark]
  simp only [Bool.not_true, Bool.false_eq_true, if_false]
  rw [hc]
  rfl

theorem Inputs.endState_match (i : Inputs) : i.endState = match i.atTop, i.atBottom with
    | true, false => .raised
    | false, true => .lowered
    | _, _ => .fault := by
  unfold Inputs.endState
  cases i.atTop <;> cases i.atBottom <;> rfl

/-- Settles O5. -/
theorem bootReadEndsInListenIn : Obligations.BootReadEndsInListenIn := by
  intro dt i loadSensed s raw p m hphase hgood hblock hpads hmark hcheck now u
  set w : Station := (s.old dt).withInputs { s.station.inputs with loadSensed := loadSensed } with hw
  set r : Option (Nat × Chainage) :=
    (if i.parkDelivered then s.station.bootMem.readAll parkBase 10 else none).bind (acceptedPark m) with hr
  set v : Station := w.booted p (m.takePads p) (decide (raw ≠ p) || m.padsClamped) r with hv
  have hpark : acceptedPark (m.takePads p) = acceptedPark m := funext (m.acceptedPark_takePads p)
  have hu : u = v.bringOnLine := by
    have h1 : u = w.bootGood p (m.takePads p) (decide (raw ≠ p) || m.padsClamped) i.parkDelivered :=
      Station.bootRead_good hgood hblock hpads hmark hcheck
    rw [h1, Station.bootGood_eq, hpark]
    rfl
  have hex := exec_bootReadComplete dt i loadSensed s hphase
  have hv0 : v.start = { w.start with
      phase := .listenIn, clamped := decide (raw ≠ p) || m.padsClamped
      listenEnd := some (now + 2 * p.beacon) } := by
    rw [hv]
    unfold Station.booted
    rfl
  have hbase : v.par = p ∧ v.map = m.takePads p ∧ v.peers = s.station.peers ∧ v.ms = now := by
    rw [hv]
    unfold Station.booted
    dsimp only
    split
    · obtain ⟨-, h1, h2, h3, h4, -⟩ := ((w.withPar p).withMap (m.takePads p)).carriageSettled_fields r
      exact ⟨h2, h3, h4, h1⟩
    · exact ⟨rfl, rfl, rfl, rfl⟩
  obtain ⟨hpar, hmap, hpeers, hms⟩ := hbase
  obtain ⟨hperiod, htimer, hsilence, hbeacon⟩ := v.line_bringOnLine
  rw [← hu, hpar] at hperiod
  rw [← hu, hpar, hms] at htimer
  rw [← hu, hpar, hms] at hsilence
  rw [← hu] at hbeacon
  have hfield : ∀ {α : Type} (g : Station → α), (∀ x : Station, g x.bare = g x) →
      (∀ (x : Station) l o t, g (((x.withLine l).withOrder o).withTt t) = g x) → g u = g v := fun g h1 h2 => by
    rw [hu]
    exact Station.field_bringOnLine g h1 h2 v
  refine ⟨s.settled dt u {}, hex, rfl, ?_, ?_, ?_, ?_, ?_, ?_, hperiod, htimer, hbeacon, fun hrole => ?_, fun hrole => ?_⟩
  · refine (Station.phase_evals (p := .listenIn) (by decide)).settle _ _ ?_
    rw [hu]
    exact Station.phase_bringOnLine (by rw [hv0])
  · rw [State.settled_listenEnd, hfield (·.start.listenEnd) (fun _ => rfl) (fun _ _ _ _ => rfl), hv0]
  · rw [State.settled_clamped, hfield (·.start.clamped) (fun _ => rfl) (fun _ _ _ _ => rfl), hv0]
  · rw [State.settled_par, hfield (·.par) (fun _ => rfl) (fun _ _ _ _ => rfl), hpar]
  · rw [State.settled_map, hfield (·.map) (fun _ => rfl) (fun _ _ _ _ => rfl), hmap]
  · rw [State.settled_peers, hfield (·.peers) (fun _ => rfl) (fun _ _ _ _ => rfl), hpeers]
  · have hcar : v.isCarriage = false := by
      unfold Station.isCarriage
      rw [hpar, hrole]
      rfl
    refine ⟨?_, ?_⟩
    · rw [State.settled_line_silenceTimer, hsilence, hcar]
      rfl
    · rw [hfield (·.pos) (fun _ => rfl) (fun _ _ _ _ => rfl), hv]
      unfold Station.booted
      dsimp only
      rw [if_neg (by rw [hrole]; decide)]
      rfl
  · have hcar : v.isCarriage = true := by
      unfold Station.isCarriage
      rw [hpar, hrole]
      rfl
    have hvc : v = (((w.withPar p).withMap (m.takePads p)).carriageSettled r).withStart { w.start with
        phase := .listenIn, clamped := decide (raw ≠ p) || m.padsClamped
        listenEnd := some (now + 2 * p.beacon) } := by
      rw [hv]
      unfold Station.booted
      dsimp only
      rw [if_pos hrole]
      rfl
    obtain ⟨-, -, -, -, -, hempty, hloaded, hload, hlift, hindex, hpos⟩ :=
      ((w.withPar p).withMap (m.takePads p)).carriageSettled_fields r
    refine ⟨?_, ?_, ?_, ?_, ?_, ?_, ?_⟩
    · rw [State.settled_line_silenceTimer, hsilence, hcar]
      rfl
    · rw [State.settled_env_emptyTable, hfield (·.env.emptyTable) (fun _ => rfl) (fun _ _ _ _ => rfl), hvc]
      exact hempty
    · rw [State.settled_env_loadedTable, hfield (·.env.loadedTable) (fun _ => rfl) (fun _ _ _ _ => rfl), hvc]
      exact hloaded
    · rw [State.settled_lift_load, hfield (·.lift.load) (fun _ => rfl) (fun _ _ _ _ => rfl), hvc]
      exact hload
    · rw [hfield (·.lift.state) (fun _ => rfl) (fun _ _ _ _ => rfl), hvc]
      exact hlift.trans (Inputs.endState_match _)
    · rw [State.settled_index, hfield (·.index) (fun _ => rfl) (fun _ _ _ _ => rfl), hvc]
      exact hindex
    · have hposu : u.pos = (((w.withPar p).withMap (m.takePads p)).carriageSettled r).pos := by
        rw [hfield (·.pos) (fun _ => rfl) (fun _ _ _ _ => rfl), hvc]
        rfl
      have hparku : u.park = (((w.withPar p).withMap (m.takePads p)).carriageSettled r).park := by
        rw [hfield (·.park) (fun _ => rfl) (fun _ _ _ _ => rfl), hvc]
        rfl
      rw [hposu, hparku]
      exact hpos

end Sys2Proof.Machine
end

section
/-! PROOFS. SET-POSITION: where it places the carriage, what it releases, what it asks for (R34, R57, R63, R106, R121). -/

namespace Sys2Proof.Machine

/-! ## What a request leaves of the list (R57, R63) -/

/-- From `s` to `u` the segments `l` were asked for: nothing that was listed goes, and nothing but `l` comes. -/
structure Station.Asked (s : Station) (l : List Nat) (u : Station) : Prop where
  kept : ∀ e ∈ s.claims.entries, e ∈ u.claims.entries
  fresh : ∀ e ∈ u.claims.entries, e ∈ s.claims.entries ∨ e.seg ∈ l
  stamps : u.claims.stamps = s.claims.stamps
  owed : u.claims.owed = s.claims.owed
  named : ∀ n, namesRelease s.line.queue n → namesRelease u.line.queue n

theorem Station.Asked.refl (s : Station) (l : List Nat) : s.Asked l s :=
  ⟨fun _ h => h, fun _ h => .inl h, rfl, rfl, fun _ h => h⟩

/-- Whether a member of the group finds room or not, what was listed before stays (R63). -/
theorem Station.makeGroup_asks {s : Station} (p : Purpose) (a : Asker) {tag : Nat} {l : List Nat} {base : List ClaimEntry}
    (hb : ∀ e ∈ base, e ∈ s.claims.entries) (ht : tag ≠ 0 → ∀ e ∈ base, e.tag ≠ tag) (hnew : ∀ e ∈ base, e.seg ∉ l) :
    let u := (s.makeGroup p a tag l).1
    (∀ e ∈ base, e ∈ u.claims.entries) ∧ (∀ e ∈ u.claims.entries, e ∈ s.claims.entries ∨ e.seg ∈ l) ∧
    u.claims.stamps = s.claims.stamps ∧ u.claims.owed = s.claims.owed ∧
    ∀ n, namesRelease s.line.queue n → namesRelease u.line.queue n := by
  induction l generalizing s with
  | nil => exact ⟨hb, fun e he => .inl he, rfl, rfl, fun _ h => h⟩
  | cons n l ih =>
    have hmake := s.makeClaim_eq n p a tag
    unfold Station.makeGroup
    by_cases hroom : s.line.queue.length < 8
    · rw [hmake, if_pos hroom]
      have hent : (s.claimMade p a tag n).claims.entries = s.claims.entries ++ [s.newEntry p a tag n] := rfl
      obtain ⟨h1, h2, h3, h4, h5⟩ := ih (s := s.claimMade p a tag n)
        (fun e he => by rw [hent]; exact List.mem_append_left _ (hb e he))
        (fun e he hl => hnew e he (List.mem_cons_of_mem _ hl))
      refine ⟨h1, fun e he => ?_, h3, h4, fun m hm => h5 m ?_⟩
      · rcases h2 e he with h | h
        · rw [hent] at h
          rcases List.mem_append.1 h with h | h
          · exact .inl h
          · rw [List.mem_singleton.1 h]
            exact .inr List.mem_cons_self
        · exact .inr (List.mem_cons_of_mem _ h)
      · obtain ⟨y, hy, hf⟩ := hm
        exact ⟨y, List.mem_append_left _ hy, hf⟩
    · rw [hmake, if_neg hroom]
      refine ⟨fun e he => ?_, fun e he => ?_, rfl, rfl, fun m hm => namesRelease_takeBack hm⟩
      · refine List.mem_filter.2 ⟨List.mem_append_left _ (hb e he), ?_⟩
        have hseg : e.seg ≠ n := fun h => hnew e he (h ▸ List.mem_cons_self)
        by_cases h0 : tag = 0
        · simp [ClaimEntry.groupedWith, Station.newEntry, hseg, h0]
        · simp [ClaimEntry.groupedWith, Station.newEntry, hseg, ht h0 e he]
      · rcases List.mem_append.1 (List.mem_of_mem_filter he) with h | h
        · exact .inl h
        · rw [List.mem_singleton.1 h]
          exact .inr List.mem_cons_self

theorem Station.asked_claimGroup {s : Station} (l : List Nat) (p : Purpose) (a : Asker)
    (hb : s.claims.entries.length ≤ 8) : s.Asked l (s.claimGroup l p a).1 := by
  by_cases hl : l = []
  · subst hl
    exact .refl s []
  by_cases htest : ∀ n ∈ l, s.claimTest n l.length = none
  · obtain ⟨hent, -, hline, -⟩ := s.tagTaken_keeps l
    have hkeeps : (s.tagTaken l).claims.stamps = s.claims.stamps ∧ (s.tagTaken l).claims.owed = s.claims.owed := by
      unfold Station.tagTaken
      split
      · exact ⟨rfl, rfl⟩
      · exact ⟨rfl, rfl⟩
    have hfresh : s.requestTag l ≠ 0 → ∀ e ∈ s.claims.entries, e.tag ≠ s.requestTag l := by
      unfold Station.requestTag
      split
      · exact fun h => absurd rfl h
      · exact fun _ => freshTag_fresh _ hb
    obtain ⟨h1, h2, h3, h4, h5⟩ := Station.makeGroup_asks (s := s.tagTaken l) p a (tag := s.requestTag l)
      (l := sortBy (fun a b => decide (a ≤ b)) l) (base := s.claims.entries) (fun e he => by rw [hent]; exact he) hfresh
      (fun e he hm => ClaimBlock.lists_eq_false.1
        (Station.claimTest_none (htest e.seg (Station.mem_requestOrder.1 hm))).1 e he rfl)
    have hfst : (s.claimGroup l p a).1 =
        ((s.tagTaken l).makeGroup p a (s.requestTag l) (sortBy (fun a b => decide (a ≤ b)) l)).1 := by
      rw [Station.claimGroup_tested hl p a htest]
      split <;> next h => rw [h]
    rw [hfst]
    rw [hent] at h2
    rw [hline] at h5
    exact ⟨h1, fun e he => (h2 e he).imp id Station.mem_requestOrder.1, h3.trans hkeeps.1, h4.trans hkeeps.2, h5⟩
  · obtain ⟨x, -, hx⟩ := Station.claimGroup_failed (s := s) p a (l := l) (by simpa using htest)
    rw [hx]
    exact .refl s l

/-! ## What releasing leaves (R66, R67) -/

theorem Station.claimsOnly_offerReleases (s : Station) : s.ClaimsOnly s.offerReleases := by
  unfold Station.offerReleases
  extract_lets new
  split
  · exact ⟨_, _, rfl⟩
  · split
    extract_lets s1
    split
    · exact ⟨_, _, rfl⟩
    · rw [Station.offer_routine _ rfl]
      split
      · next h =>
        split at h <;> cases h
        exact ⟨_, _, rfl⟩
      · next h =>
        split at h <;> cases h
        exact ⟨_, _, rfl⟩

theorem Station.claimsOnly_releaseRequest (s : Station) (n : Nat) : s.ClaimsOnly (s.releaseRequest n) := by
  have hentry : ∀ m, s.ClaimsOnly (s.releaseEntry m) := fun m =>
    Station.ClaimsOnly.trans ⟨_, s.line.queue, rfl⟩ (Station.claimsOnly_offerReleases _)
  unfold Station.releaseRequest
  split
  · exact ⟨_, _, rfl⟩
  · next e _ =>
    split
    · exact ⟨_, _, rfl⟩
    · split
      · rw [Station.tell_released]
        exact hentry n
      · exact ⟨_, _, rfl⟩
      · dsimp only
        split
        · rw [Station.tell_released]
          exact ⟨_, _, rfl⟩
        · exact ⟨{ s.claims with
            entries := s.claims.entries.map fun x => if e.groupedWith x then { x with drop := true } else x }, s.line.queue, rfl⟩

theorem Station.claimsOnly_releaseAll (s : Station) (l : List Nat) : s.ClaimsOnly (s.releaseAll l) := by
  induction l generalizing s with
  | nil => exact ⟨_, _, rfl⟩
  | cons n l ih => exact (s.claimsOnly_releaseRequest n).trans (ih _)

theorem Station.nextTag_releaseAll (s : Station) (l : List Nat) : (s.releaseAll l).claims.nextTag = s.claims.nextTag := by
  have hone : ∀ (x : Station) n, (x.releaseRequest n).claims.nextTag = x.claims.nextTag := fun x n => by
    unfold Station.releaseRequest
    split
    · rfl
    · split
      · rfl
      · split
        · rw [Station.tell_released, Station.releaseEntry_claims]
        · rfl
        · dsimp only
          split
          · rw [Station.tell_released]
            rfl
          · rfl
  induction l generalizing s with
  | nil => rfl
  | cons n l ih => exact (ih (s.releaseRequest n)).trans (hone s n)

/-! ## The new place (R34, R121) -/

/-- The part with the centre at the place given, before anything is released. -/
def Station.relocated (s : Station) (line : Nat) (x : Chainage) (n : Nat) : Station :=
  ((s.withPos { s.pos.reference line x (clampTo Config.uMin Config.uMax n) s.par.drift with doubt := true }).stopOrder
    .position).touchPark

/-- Position, order, lift and park record are all that changes at first. -/
theorem Station.relocated_eq (s : Station) (line : Nat) (x : Chainage) (n : Nat) : ∃ o l p,
    s.relocated line x n = (((s.withPos { s.pos.reference line x (clampTo Config.uMin Config.uMax n) s.par.drift with
      doubt := true }).withOrder o).withLift l).withPark p ∧ o.bodyOwed = s.order.bodyOwed ∧
    (o.state, o.reason) = (s.stopOrder .position).ends := by
  refine ⟨_, _, _, (Station.touchPark_eq _).trans (congrArg (Station.withPark · _) (Station.stopOrder_eq _ _)), ?_, ?_⟩
  · unfold Station.stopOrder
    split
    · rfl
    · split
      · split <;> rfl
      · rw [Station.stopLift_eq]
        rfl
  · exact (Station.stopOrder_ends _ _).trans (Station.stopOrder_ends s .position).symm

/-- U as SET-POSITION gives it, within its range (R34). -/
theorem Position.reference_u (p : Position) (line : Nat) (x : Chainage) (n drift : Nat) :
    (p.reference line x (clampTo Config.uMin Config.uMax n) drift).u = min 2000 (max 10 n) := by
  have hclamp : clampTo Config.uMin Config.uMax n = min 2000 (max 10 n) := by
    unfold clampTo Config.uMin Config.uMax
    split
    · omega
    · split <;> omega
  have hceil : ceilDiv (0 * drift) 1000 = 0 := by
    rw [Nat.zero_mul]
    rfl
  change min 2000 (clampTo Config.uMin Config.uMax n + ceilDiv (0 * drift) 1000) = _
  rw [hceil, hclamp]
  omega

theorem Station.offExtent_held {w : Station} (hn : (w.claims.entries.map (·.seg)).Nodup) :
    ∀ x ∈ w.claims.entries, x.seg ∈ w.offExtent →
      x.state = .held ∧ (x.purpose = .ahead ∨ x.purpose = .body) ∧ w.overlaps x.seg = false := fun x hx hm => by
  obtain ⟨y, hy, hys⟩ := List.mem_map.1 hm
  obtain ⟨hyl, hyo⟩ := List.mem_filter.1 hy
  obtain rfl := List.inj_on_of_nodup_map hn hyl hx hys
  simpa [and_assoc] using hyo

theorem Station.releasedAll_offExtent {w : Station} (hn : (w.claims.entries.map (·.seg)).Nodup) :
    w.ReleasedAll w.offExtent (w.releaseAll w.offExtent) :=
  Station.releasedAll_releaseAll w.offExtent hn fun x hx hm => (Station.offExtent_held hn x hx hm).1

/-- What is released of the list, and what is not (R66, R67, R121). -/
theorem Station.released_offExtent {w : Station} (hn : (w.claims.entries.map (·.seg)).Nodup) {e : ClaimEntry}
    (he : e ∈ w.claims.entries) :
    if e.state = .held ∧ (e.purpose = .ahead ∨ e.purpose = .body) ∧ w.overlaps e.seg = false then
      w.released (w.releaseAll w.offExtent) e.seg
    else e ∈ (w.releaseAll w.offExtent).claims.entries := by
  have hrel := Station.releasedAll_offExtent hn
  split
  · next h =>
    refine hrel.toReleased hn he (List.mem_map.2 ⟨e, List.mem_filter.2 ⟨he, by simpa [and_assoc] using h⟩, rfl⟩) fun hd => ?_
    obtain ⟨-, hp, -⟩ := h
    rw [hd] at hp
    obtain hp | hp := hp <;> exact nomatch hp
  · next h =>
    rw [hrel.entries]
    have := mt (Station.offExtent_held hn e he) h
    exact List.mem_filter.2 ⟨he, by simp [this]⟩

/-! ## The new extent asked for (R57, R63, R121) -/

theorem Station.askBody_eq (s : Station) :
    s.askBody = (s.claimGroup (s.order.bodyOwed.filter fun n => !s.claims.lists n) .body .setPosition).1 := by
  unfold Station.askBody
  split
  · next h =>
    rw [h]
    rfl
  · next h _ => rfl

/-- What is asked for is what is wanted: what a SET-POSITION listens for already is in the list. -/
theorem Station.toAsk_eq (s : Station) : s.bodyToWin.filter (fun n => !s.claims.lists n) = s.bodyWanted := by
  have hwanted : s.bodyWanted.filter (fun n => !s.claims.lists n) = s.bodyWanted := by
    refine List.filter_eq_self.2 fun n hn => ?_
    obtain ⟨b, hb, rfl⟩ := List.mem_map.1 hn
    have := (List.mem_filter.1 hb).2
    simp only [Bool.and_eq_true] at this
    exact this.2
  have hlistens : (s.order.bodyOwed.filter fun n => s.claims.listens n && s.overlaps n).filter
      (fun n => !s.claims.lists n) = [] := by
    rw [List.filter_eq_nil_iff]
    intro n hn
    have h := (List.mem_filter.1 hn).2
    simp only [Bool.and_eq_true, ClaimBlock.listens, List.any_eq_true, decide_eq_true_eq] at h
    obtain ⟨⟨e, he, hseg, -⟩, -⟩ := h
    simp only [Bool.not_eq_true', ClaimBlock.lists_eq_false, not_forall]
    exact ⟨e, he, fun hne => hne hseg⟩
  unfold Station.bodyToWin at hwanted ⊢
  rw [List.filter_append, hwanted, hlistens, List.append_nil]

/-- The part with what SET-POSITION owes noted, before it is asked for. -/
def Station.owing (s : Station) : Station := s.withOrder { s.order with bodyOwed := s.bodyToWin }

theorem Station.setPosition_eq (s : Station) (line : Nat) (x : Chainage) (n : Nat) :
    s.setPosition line x n = ((s.placeAt line x n).owing.claimGroup (s.placeAt line x n).bodyWanted .body .setPosition).1 := by
  have h : s.setPosition line x n = (s.placeAt line x n).owing.askBody := rfl
  rw [h, Station.askBody_eq]
  exact congrArg (fun l => (Station.claimGroup _ l _ _).1) (s.placeAt line x n).toAsk_eq

theorem Station.overlaps_of_wanted {s : Station} {n : Nat} (h : n ∈ s.bodyWanted) : s.overlaps n = true := by
  obtain ⟨b, hb, rfl⟩ := List.mem_map.1 h
  exact List.any_eq_true.2 ⟨b, List.mem_of_mem_filter hb, by simp⟩

/-- A request for the body moves nothing but claims and queue, the debt noted. -/
theorem Station.asked_fields {y u : Station} (h : y.owing.ClaimsOnly u) :
    u.pos = y.pos ∧ u.trail = y.trail ∧ u.ends = y.ends ∧ u.touched = y.touched ∧ u.order.bodyOwed = y.bodyToWin := by
  obtain ⟨c, q, rfl⟩ := h
  exact ⟨rfl, rfl, rfl, rfl, rfl⟩

/-- Releasing moves nothing but claims and queue, the trail stack emptied and DOCKED cleared. -/
theorem Station.placed_fields {w v : Station} (h : w.ClaimsOnly v) :
    let y := (v.withTrail []).withAppr { (v.withTrail []).appr with docked := false, dockedPad := none }
    y.pos = w.pos ∧ y.trail = [] ∧ y.order = w.order ∧ y.touched = w.touched := by
  obtain ⟨c, q, rfl⟩ := h
  exact ⟨rfl, rfl, rfl, rfl⟩

/-- What SET-POSITION leaves where: the new place, the trail stack, what is owed, and the order but for the answer. -/
theorem Station.setPosition_fields (s : Station) (line : Nat) (x : Chainage) (n : Nat) :
    (s.setPosition line x n).pos =
      { s.pos.reference line x (clampTo Config.uMin Config.uMax n) s.par.drift with doubt := true } ∧
    (s.setPosition line x n).trail = [] ∧ (s.setPosition line x n).ends = (s.stopOrder .position).ends ∧
    (s.setPosition line x n).touched = (s.placeAt line x n).touched ∧
    (s.relocated line x n).touched = (s.placeAt line x n).touched ∧
    (s.placeAt line x n).order.bodyOwed = s.order.bodyOwed ∧
    (s.setPosition line x n).order.bodyOwed = (s.placeAt line x n).bodyToWin := by
  obtain ⟨o, l, p, hw, howed, hends⟩ := s.relocated_eq line x n
  obtain ⟨hpos, htrail, horder, htouched⟩ := Station.placed_fields
    ((s.relocated line x n).claimsOnly_releaseAll (s.relocated line x n).offExtent)
  obtain ⟨hpos', htrail', hends', htouched', howed'⟩ := Station.asked_fields (y := s.placeAt line x n)
    (u := s.setPosition line x n) (by rw [s.setPosition_eq line x n]; exact Station.claimsOnly_claimGroup _ _ .body .setPosition)
  have hwo : (s.placeAt line x n).order = o := horder.trans (by rw [hw]; rfl)
  refine ⟨hpos'.trans (hpos.trans ?_), htrail'.trans htrail, hends'.trans ?_, htouched', htouched.symm, ?_, howed'⟩
  · rw [hw]
    rfl
  · unfold Station.ends
    rw [hwo]
    exact hends
  · rw [hwo]
    exact howed

theorem Station.relocated_claims (s : Station) (line : Nat) (x : Chainage) (n : Nat) :
    (s.relocated line x n).claims = s.claims ∧ (s.relocated line x n).ms = s.ms := by
  obtain ⟨o, l, p, hw, -, -⟩ := s.relocated_eq line x n
  rw [hw]
  exact ⟨rfl, rfl⟩

theorem Station.placeAt_claims (s : Station) (line : Nat) (x : Chainage) (n : Nat) :
    (s.placeAt line x n).claims = ((s.relocated line x n).releaseAll (s.relocated line x n).offExtent).claims ∧
    (s.placeAt line x n).claims.waitCount = s.claims.waitCount ∧
    (s.placeAt line x n).claims.nextTag = s.claims.nextTag := by
  have h : (s.placeAt line x n).claims = ((s.relocated line x n).releaseAll (s.relocated line x n).offExtent).claims := rfl
  refine ⟨h, ?_, ?_⟩
  · rw [h, Station.wait_releaseAll, (s.relocated_claims line x n).1]
  · rw [h, Station.nextTag_releaseAll, (s.relocated_claims line x n).1]

theorem Station.placeAt_length {s : Station} (line : Nat) (x : Chainage) (n : Nat) (hb : s.claims.bounded) :
    (s.placeAt line x n).claims.entries.length ≤ 8 := by
  obtain ⟨hlen, hnodup, -⟩ := hb
  obtain ⟨hclaims, -⟩ := s.relocated_claims line x n
  rw [(s.placeAt_claims line x n).1, (Station.releasedAll_offExtent (by rw [hclaims]; exact hnodup)).entries, hclaims]
  exact (List.length_filter_le _ _).trans hlen

/-- What of the list SET-POSITION releases, and that nothing else of it goes (R66, R67, R121). -/
theorem Station.setPosition_list {s : Station} (line : Nat) (x : Chainage) (n : Nat) (hb : s.claims.bounded)
    {e : ClaimEntry} (he : e ∈ s.claims.entries) :
    let u := s.setPosition line x n
    if e.state = .held ∧ (e.purpose = .ahead ∨ e.purpose = .body) ∧ u.overlaps e.seg = false then s.released u e.seg
    else e ∈ u.claims.entries := by
  intro u
  obtain ⟨-, -, -, htouched, hw, -, -⟩ := s.setPosition_fields line x n
  obtain ⟨hclaims, hms⟩ := s.relocated_claims line x n
  have hover : ∀ m, u.overlaps m = (s.relocated line x n).overlaps m := fun m => by
    unfold Station.overlaps
    rw [show u.touched = _ from htouched, hw]
  have hnodup := hb.2.1
  have hsplit := Station.released_offExtent (w := s.relocated line x n) (by rw [hclaims]; exact hnodup)
    (by rw [hclaims]; exact he)
  obtain ⟨hyw, -⟩ := s.placeAt_claims line x n
  rw [← hyw] at hsplit
  have hasked : (s.placeAt line x n).owing.Asked (s.placeAt line x n).bodyWanted u := by
    rw [show u = _ from s.setPosition_eq line x n]
    exact Station.asked_claimGroup _ .body .setPosition (Station.placeAt_length line x n hb)
  rw [hover]
  split
  · next h =>
    rw [if_pos h] at hsplit
    obtain ⟨hout, hrest⟩ := hsplit
    refine ⟨?_, fun h128 => ?_⟩
    · rw [ClaimBlock.lists_eq_false] at hout ⊢
      intro z hz hzs
      rcases hasked.fresh z hz with hold | hnew
      · exact hout z hold hzs
      · have := Station.overlaps_of_wanted hnew
        unfold Station.overlaps at this
        rw [← hw, hzs] at this
        exact absurd (this.symm.trans h.2.2) (by simp)
    · obtain ⟨hst, hrel⟩ := hrest h128
      rw [hasked.stamps, ← hms]
      refine ⟨hst, ?_⟩
      have h1 := (Station.releaseOut_iff _ _).1 hrel
      refine (Station.releaseOut_iff _ _).2 (h1.imp (fun h => ?_) fun h => hasked.named _ h)
      rw [hasked.owed]
      exact h
  · next h =>
    rw [if_neg h] at hsplit
    exact hasked.kept e hsplit

/-- How the segments of the new extent are asked for (R57, R63). -/
theorem Station.owing_asks {y u : Station} (hu : u = (y.owing.claimGroup y.bodyWanted .body .setPosition).1) :
    (y.bodyWanted = [] ∨ (∃ m ∈ y.bodyWanted, y.claimTest m y.bodyWanted.length ≠ none) → u.claims = y.claims) ∧
    (y.claims.entries.length ≤ 8 → 1 ≤ y.claims.nextTag → 8 < y.line.queue.length + y.bodyWanted.length →
      u.claims.entries = y.claims.entries) ∧
    (y.bodyWanted ≠ [] → 1 ≤ y.claims.nextTag → y.line.queue.length + y.bodyWanted.length ≤ 8 →
      (∀ m ∈ y.bodyWanted, y.claimTest m y.bodyWanted.length = none) →
      u.claims.entries.length = y.claims.entries.length + y.bodyWanted.length ∧
      (∀ e ∈ y.claims.entries, e ∈ u.claims.entries) ∧
      ∃ tag, (tag = 0 ↔ y.bodyWanted.length = 1) ∧ ∀ m ∈ y.bodyWanted,
        let r : Rank := ⟨y.claims.waitCount, y.wouldBeCourteous m⟩
        u.queues (.claim m tag r) ∧
        { seg := m, purpose := .body, asker := .setPosition, tag := tag, courtesy := r.courtesy } ∈ u.claims.entries) := by
  subst hu
  refine ⟨fun h => ?_, fun hlen htag hq => Station.claimGroup_full .body .setPosition hlen htag hq,
    fun hne ht hq htest => Station.claimGroup_lists (s := y.owing) hne .body .setPosition ht htest hq⟩
  obtain h | h := h
  · rw [h]
    rfl
  · obtain ⟨z, -, hz⟩ := Station.claimGroup_failed (s := y.owing) (l := y.bodyWanted) .body .setPosition h
    rw [hz]
    rfl

/-- Settles O23. -/
theorem setPositionPlacesTheCarriage : Obligations.SetPositionPlacesTheCarriage := by
  intro dt o line n x s ho hcar
  obtain ⟨hon, hsrc, ht, h1, h29, hnum⟩ := ho
  set v : Station := (s.old dt).heard o.src .carriage .order with hv
  have hex : exec (.orderSetPosition dt o line x n) s = .next (s.settled dt (v.takeSetPosition o line x n) .ofOrder) := by
    dsimp only [exec, execOrderSetPosition]
    rw [State.receive_order dt _ _ hon (by omega) hsrc,
      Station.orderFor_taken _ (.inl (by simpa using ht)) hnum fun h => absurd h (by omega)]
    unfold Station.carriageOnly
    rw [if_pos (by simpa using hcar)]
  have hrefusal : v.setRefusal line x = s.station.setRefusal line x := by
    unfold Station.setRefusal
    simp only [hv, Station.heard_start, Station.heard_line_fault, Station.heard_env, Station.heard_inputs_confirmed,
      Station.heard_order, Station.heard_pos, Station.heard_map]
    rfl
  have hans : ∀ (w : Station) st r, w.answer o st r 0 = w.withOrder { w.order with answer := some ⟨o.number, st, r, 0⟩ } :=
    fun w st r => if_neg (by omega)
  have hvclaims : v.claims = s.station.claims := Station.heard_claims _ _ _ _
  refine ⟨fun hnone => ?_, fun y hsome => ?_⟩
  · intro u
    have hexu : exec (.orderSetPosition dt o line x n) s = .next (s.settled dt u .ofOrder) := by
      rw [hex]
      unfold Station.takeSetPosition
      rw [hrefusal, hnone]
    have hlist := fun (hb : s.station.claims.bounded) (e : ClaimEntry) (he : e ∈ s.station.claims.entries) =>
      Station.setPosition_list (s := v) line x n (by rw [hvclaims]; exact hb) (e := e) (by rw [hvclaims]; exact he)
    obtain ⟨hpos, htrail, hends, htouched, -, howed, hwin⟩ := v.setPosition_fields line x n
    have hmade := v.setPosition_eq line x n
    generalize hu0 : v.setPosition line x n = u0 at hpos htrail hends htouched hwin hmade hlist
    have hu : u = u0.withOrder { u0.order with answer := some ⟨o.number, .done, .none, 0⟩ } :=
      (hans _ _ _).trans (by rw [hu0])
    clear_value u
    have hupos : u.pos = _ := (congrArg Station.pos hu).trans hpos
    obtain ⟨-, hact, hreason, hstop, hrest⟩ := s.settled_stopped dt (u := u) (v := v) .position .ofOrder (by
      rw [hu]
      exact hends)
    have hvorder : v.order = s.station.order := Station.heard_order _ _ _ _
    rw [hvorder] at hact hreason hstop hrest
    refine ⟨s.settled dt u .ofOrder, hexu, rfl, ?_, ?_, ?_, ?_, ?_, ?_, ?_, ?_, ?_, fun hb e he => ?_, ?_, fun hs => ?_,
      fun hs => ?_, hrest⟩
    · rw [hupos]
      rfl
    · rw [State.settled_pos_line, hupos]
      rfl
    · rw [State.settled_pos_centre, hupos]
      rfl
    · rw [State.settled_pos_acc, hupos]
      rfl
    · rw [State.settled_pos_travel, hupos]
      rfl
    · rw [State.settled_pos_u, hupos]
      exact v.pos.reference_u line x n v.par.drift
    · rw [State.settled_pos_doubt, hupos]
    · rw [hu]
      exact htrail
    · rw [State.settled_order_answer, hu]
      rfl
    · have hms : v.released = (s.old dt).released := by
        unfold Station.released
        rw [show v.ms = (s.old dt).ms from Station.heard_ms _ _ _ _]
      have h := hlist hb e he
      rw [hms] at h
      rw [hu]
      exact h
    · have hut : u.touched = (v.placeAt line x n).touched := by
        rw [hu]
        exact htouched
      intro y wanted
      have hwanted : wanted = y.bodyWanted := by
        unfold Station.bodyWanted
        rw [← show u.touched = y.touched from hut]
      have huclaims : u.claims = u0.claims := by
        rw [hu]
        rfl
      have huqueue : u.line = u0.line := by
        rw [hu]
        rfl
      obtain ⟨-, hwait, htag⟩ := v.placeAt_claims line x n
      rw [hvclaims] at hwait htag
      obtain ⟨hnone', hfull, hasks⟩ := Station.owing_asks hmade
      have hover : u.overlaps = y.overlaps := by
        funext m
        unfold Station.overlaps
        rw [hut]
      have hbody : u.order.bodyOwed = y.bodyToWin := by
        rw [hu]
        exact hwin
      unfold Station.bodyToWin at hbody
      rw [howed, show v.order = s.station.order from Station.heard_order _ _ _ _] at hbody
      unfold Station.queues at hasks ⊢
      rw [hwait, htag] at hasks
      rw [hwanted, huclaims, huqueue, hover]
      exact ⟨hbody, hnone', fun hb ht => hfull (Station.placeAt_length line x n (by rw [hvclaims]; exact hb))
        (by rw [htag]; exact ht), hasks⟩
    · have ha : s.station.order.state.active = true ∧ s.station.order.state ≠ .stopped := by
        obtain hs | hs := hs <;> rw [hs] <;> decide
      exact ⟨hact ha.1, hreason ha.1 ha.2⟩
    · refine ⟨hact (by rw [hs]; rfl), (hstop hs).trans ?_⟩
      cases s.station.order.reason <;> rfl
  · have hu := hans v .failed y
    refine ⟨s.settled dt (v.answer o .failed y 0) .ofOrder, ?_, rfl, ?_, ?_⟩
    · rw [hex]
      unfold Station.takeSetPosition
      rw [hrefusal, hsome]
    · rw [State.settled_order_answer, hu]
      rfl
    · rw [hu]
      simp [hv]

end Sys2Proof.Machine
end

section
/-! PROOFS. The beacons of peers: the sender's entry, double holds, and the passage that a turntable's beacon moves (R38,
R40, R41, R73, R169–R171). -/

namespace Sys2Proof.Machine

/-! ## What a beacon leaves of the peer table and of the position -/

/-- What the two ways to resolve a double hold leave alone, every double hold leaves alone (R74, R75). -/
theorem Station.doubleHold_keeps {α : Type} (g : Station → α) {s : Station} {n : Nat} (p : Nat)
    (hboth : g s.bothOccupy = g s) (hgive : g (s.giveUp n) = g s) : g (s.doubleHold p n) = g s := by
  unfold Station.doubleHold Station.resolveDouble
  split
  · split
    · split
      · exact hboth
      · rfl
    · split
      · exact hgive
      · split
        · rfl
        · exact hgive
  · rfl

theorem Station.steady_doubleHold (s : Station) (p n : Nat) : (s.doubleHold p n).steady = s.steady := by
  refine Station.doubleHold_keeps Station.steady p ?_ ?_
  · unfold Station.bothOccupy
    split
    · rw [Station.steady_stopOrder, Station.steady_raiseEmergency]
    · split
      · exact Station.steady_deckFault _ _
      · rfl
  · unfold Station.giveUp
    split
    · exact Station.steady_releaseRequest _ _
    · rfl

/-- The state of the passage and the turntable it is for. -/
def Station.passageOf (s : Station) : PassageState × Nat := (s.passage.state, s.passage.turntable)

theorem Station.passageOf_doubleHold (s : Station) (p n : Nat) : (s.doubleHold p n).passageOf = s.passageOf := by
  refine Station.doubleHold_keeps Station.passageOf p ?_ ?_
  · unfold Station.bothOccupy
    split
    · rw [Station.stopOrder_eq]
      rfl
    · split <;> rfl
  · unfold Station.giveUp
    split
    · exact Station.field_of_bare Station.passageOf (fun _ => rfl) (Station.bare_releaseRequest s n)
    · rfl

theorem Station.beaconHolds_keeps {α : Type} (g : Station → α) (h : ∀ (w : Station) p n, g (w.doubleHold p n) = g w)
    (s : Station) (p : Nat) : g (s.beaconHolds p) = g s :=
  List.foldlRecOn (motive := fun w : Station => g w = g s) _ _ rfl fun _ hb _ _ => (h _ _ _).trans hb

theorem Station.steady_beaconHolds (s : Station) (p : Nat) : (s.beaconHolds p).steady = s.steady :=
  Station.beaconHolds_keeps Station.steady Station.steady_doubleHold s p

theorem Station.passageOf_beaconHolds (s : Station) (p : Nat) : (s.beaconHolds p).passageOf = s.passageOf :=
  Station.beaconHolds_keeps Station.passageOf Station.passageOf_doubleHold s p

/-- A beacon that lists nothing held here leaves the claims alone (R73). -/
theorem Station.beaconHolds_unlisted {s : Station} {p : Nat} (h : ∀ x ∈ (s.peer p).held, s.claims.lists x.seg = false) :
    s.beaconHolds p = s := by
  unfold Station.beaconHolds
  refine List.foldlRecOn (motive := fun w : Station => w = s) _ _ rfl fun w hw n hn => ?_
  obtain ⟨x, hx, rfl⟩ := List.mem_map.1 hn
  subst hw
  unfold Station.doubleHold
  refine if_neg ?_
  simp only [List.any_eq_true, Bool.and_eq_true, decide_eq_true_eq, not_exists, not_and]
  exact fun e he hseg => absurd hseg.1 (ClaimBlock.lists_eq_false.1 (h x hx) e he)

theorem Station.peers_passage (p : Vector PeerEntry 29) : Station.PassageStable fun s => s.peers = p where
  toStable := Station.peers_stable p
  line _ _ _ _ h := h
  pos _ _ _ _ h := h

theorem Station.peers_passageBeacon (s : Station) (n : Nat) (b : TurntableBeacon) :
    (s.passageBeacon n b).peers = s.peers :=
  (Station.peers_passage s.peers).passageBeacon (fun _ _ _ h => h) n b rfl

/-- The entry of a beacon's sender, and the others, once a block has acted on it (R38–R41). -/
theorem State.settled_beacon {s : State} {src : Nat} (dt : Nat) (role : Role) (f : PeerEntry → PeerEntry) {u : Station}
    (ev : Events) (h : s.hears src)
    (hu : u.peers = (((s.old dt).heard src role .beacon).mapPeer src f).peers) :
    (s.settled dt u ev).station.peer src = f ((s.station.peer src).refresh role (s.old dt).ms) ∧
    ∀ n, n ≠ src → (s.settled dt u ev).station.peer n = s.station.peer n := by
  obtain ⟨-, hsrc, hother⟩ := State.receive_peer dt role (k := .beacon) (by decide) id h
  obtain ⟨-, h1, h29, -⟩ := h
  have hpeer := fun n => Station.peer_of_peers hu n
  refine ⟨?_, fun n hn => ?_⟩
  · rw [State.settled_peer, hpeer, ← hsrc]
    simp [h1, h29]
  · rw [State.settled_peer, hpeer, ← hother n hn]
    simp [hn]

/-! ## The times since ask and aboard, and a lost passage (R169, R170) -/

/-- A period has passed since the time `x`, or the frame of kind `k` that sets it has left the queue. -/
def Station.Passed (s : Station) (period : Nat) (k : FrameKind) (x : Option Nat) : Prop :=
  (∀ y, x = some y → y + period ≤ s.ms) ∧ (x = none → ∀ q ∈ s.line.queue, q.frame.kind ≠ k)

theorem Station.sinceAsk_iff (s : Station) (n : Nat) : s.sinceAsk n = true ↔ s.Passed n .turnAsk s.passage.askTime := by
  unfold Station.sinceAsk Station.Passed Station.queued
  cases s.passage.askTime <;> simp

theorem Station.sinceAboard_iff (s : Station) (n : Nat) :
    s.sinceAboard n = true ↔ s.Passed n .turnAboard s.passage.aboardTime := by
  unfold Station.sinceAboard Station.Passed Station.queued
  cases s.passage.aboardTime <;> simp

/-- The beacon shows this carriage neither as holder nor queued, a period after its ask. -/
def Station.Absent (s : Station) (b : TurntableBeacon) (n : Nat) : Prop :=
  ¬b.holder = s.par.station ∧ s.par.station ∉ b.queue ∧ s.Passed n .turnAsk s.passage.askTime

/-- It shows neither a period after the aboard time too. -/
def Station.Lost (s : Station) (b : TurntableBeacon) (n : Nat) : Prop :=
  s.Absent b n ∧ (s.passage.aboardTime = none ∨ s.Passed n .turnAboard s.passage.aboardTime)

/-- The test of an absent passage, as the model makes it. -/
def Station.shownAbsent (s : Station) (b : TurntableBeacon) (n : Nat) : Bool :=
  b.holder ≠ s.par.station && !b.queue.contains s.par.station && s.sinceAsk n

theorem Station.absent_iff (s : Station) (b : TurntableBeacon) (n : Nat) : s.shownAbsent b n = true ↔ s.Absent b n := by
  unfold Station.shownAbsent
  rw [Bool.and_eq_true, s.sinceAsk_iff]
  simp [Station.Absent, and_assoc]

theorem Station.passageLost_iff (s : Station) (b : TurntableBeacon) (n : Nat) :
    s.passageLost b n = true ↔ s.Lost b n := by
  rw [show s.passageLost b n = (s.shownAbsent b n && (s.passage.aboardTime.isNone || s.sinceAboard n)) from rfl,
    Bool.and_eq_true, s.absent_iff, Bool.or_eq_true, s.sinceAboard_iff, Option.isNone_iff_eq_none]
  rfl

theorem Station.shownAccepted_iff (s : Station) (b : TurntableBeacon) : s.shownAccepted b = true ↔
    b.holder = s.par.station ∧ (b.deck = DeckState.aboard.code ∨ b.deck = DeckState.claiming.code ∨
      b.deck = DeckState.rotating.code ∨ b.deck = DeckState.awaitExit.code) := by
  simp [Station.shownAccepted, or_assoc]

theorem Station.shownExit_iff (s : Station) (b : TurntableBeacon) : s.shownExit b = true ↔
    b.holder = s.par.station ∧ b.deck = DeckState.awaitExit.code ∧ b.aligned = s.passage.exitArm := by
  simp [Station.shownExit, and_assoc]

/-- The deck stands at the exit arm and does not turn (R169). -/
def Station.TurnedOut (s : Station) (b : TurntableBeacon) : Prop :=
  b.deck ≠ DeckState.fault.code ∧ b.deck ≠ DeckState.claiming.code ∧ b.deck ≠ DeckState.rotating.code ∧
  b.aligned = s.passage.exitArm

theorem Station.lostAboard_out {s : Station} {b : TurntableBeacon} (h : s.TurnedOut b) :
    s.lostAboard b = s.takeExit s.passage.exitArm := by
  unfold Station.lostAboard
  exact if_pos (by simpa [Station.TurnedOut, and_assoc] using h)

theorem Station.lostAboard_in {s : Station} {b : TurntableBeacon} (h : ¬s.TurnedOut b) :
    s.lostAboard b = (s.setPassageState .asked).askAgain := by
  unfold Station.lostAboard
  exact if_neg (by simpa [Station.TurnedOut, and_assoc] using h)

/-! ## The beacon of the serving station, by the state of the passage (R169–R171) -/

theorem Station.servingBeacon_asked {s : Station} (b : TurntableBeacon) (n : Nat) (h : s.passage.state = .asked) :
    s.servingBeacon b n =
      if b.holder = s.par.station ∧ b.deck = DeckState.awaitEntry.code ∧ b.aligned = s.passage.entryArm then s.takeGrant
      else if s.shownAbsent b n = true then s.askAgain else s := by
  unfold Station.servingBeacon
  rw [h]
  have hgrant : (b.deck = DeckState.awaitEntry.code && b.holder = s.par.station && b.aligned = s.passage.entryArm) = true ↔
      b.holder = s.par.station ∧ b.deck = DeckState.awaitEntry.code ∧ b.aligned = s.passage.entryArm := by
    simp only [Bool.and_eq_true, decide_eq_true_eq, and_left_comm, and_assoc]
  dsimp only
  simp only [hgrant]
  rfl

theorem Station.servingBeacon_granted {s : Station} (b : TurntableBeacon) (n : Nat) (h : s.passage.state = .granted) :
    s.servingBeacon b n = if s.passageLost b n = true then s.takeRevoked else s := by
  unfold Station.servingBeacon
  rw [h]

theorem Station.servingBeacon_accepted {s : Station} (b : TurntableBeacon) (n : Nat) (h : s.passage.state = .accepted) :
    s.servingBeacon b n = if s.shownExit b = true then s.takeExit s.passage.exitArm
      else if s.passageLost b n = true then s.lostAboard b else s := by
  unfold Station.servingBeacon
  rw [h]

theorem Station.servingBeacon_aboard {s : Station} (b : TurntableBeacon) (n : Nat) (h : s.passage.state = .aboardSent) :
    s.servingBeacon b n = if s.shownAccepted b = true then
        if s.learnAccepted.shownExit b = true then s.learnAccepted.takeExit s.learnAccepted.passage.exitArm
        else s.learnAccepted
      else if b.holder = s.par.station ∧ b.deck = DeckState.awaitEntry.code ∧
        s.sinceAboard n = true then s.sendAboard
      else if s.passageLost b n = true then s.lostAboard b else s := by
  unfold Station.servingBeacon
  rw [h]
  simp only [Bool.and_eq_true, decide_eq_true_eq, and_assoc]

/-! ## Accepted, and the exit (R33, R171) -/

/-- What a carriage that learns it is accepted keeps (R171). -/
theorem Station.learnAccepted_keeps (s : Station) : s.learnAccepted.passage.state = .accepted ∧
    s.learnAccepted.passage.exitArm = s.passage.exitArm ∧ s.learnAccepted.pos = s.pos ∧ s.learnAccepted.map = s.map ∧
    s.learnAccepted.par = s.par ∧ s.learnAccepted.trail = s.trail := by
  have hkeep : ∀ {α : Type} (g : Station → α), (∀ x : Station, g x.bare = g x) →
      g s.learnAccepted = g (s.setPassageState .accepted) := fun g hg => Station.field_of_bare g hg s.learnAccepted_bare
  exact ⟨hkeep (·.passage.state) fun _ => rfl, hkeep (·.passage.exitArm) fun _ => rfl, hkeep (·.pos) fun _ => rfl,
    hkeep (·.map) fun _ => rfl, hkeep (·.par) fun _ => rfl, hkeep (·.trail) fun _ => rfl⟩

/-- What it releases of its list, and what it keeps (R66, R67, R171). -/
theorem Station.learnAccepted_list {s : Station} (hn : (s.claims.entries.map (·.seg)).Nodup) {e : ClaimEntry}
    (he : e ∈ s.claims.entries) :
    let onLine := ∃ r ∈ s.map.railStretches s.pos.line, r.seg = e.seg
    (e.state = .held → e.purpose ≠ .deck → onLine → s.released s.learnAccepted e.seg) ∧
    (¬(e.state = .held ∧ e.purpose ≠ .deck ∧ onLine) → e ∈ s.learnAccepted.claims.entries) := by
  intro onLine
  set l := (s.claims.entries.filter fun e => e.state = .held && e.purpose ≠ .deck &&
    (s.map.railStretches s.pos.line).any fun b => b.seg = e.seg).map (·.seg) with hl
  have hmem : ∀ x ∈ s.claims.entries, x.seg ∈ l ↔
      (x.state = .held ∧ x.purpose ≠ .deck ∧ ∃ r ∈ s.map.railStretches s.pos.line, r.seg = x.seg) := fun x hx => by
    rw [hl, List.mem_map]
    constructor
    · rintro ⟨y, hy, hys⟩
      obtain ⟨hyl, hyo⟩ := List.mem_filter.1 hy
      obtain rfl := List.inj_on_of_nodup_map hn hyl hx hys
      simpa [and_assoc] using hyo
    · exact fun h => ⟨x, List.mem_filter.2 ⟨hx, by simpa [and_assoc] using h⟩, rfl⟩
  have hrel : (s.setPassageState .accepted).ReleasedAll l s.learnAccepted :=
    Station.releasedAll_releaseAll (s := s.setPassageState .accepted) l hn fun x hx hm => ((hmem x hx).1 hm).1
  refine ⟨fun hs hd ho => ?_, fun hno => ?_⟩
  · exact hrel.toReleased hn he ((hmem e he).2 ⟨hs, hd, ho⟩) hd
  · rw [hrel.entries]
    exact List.mem_filter.2 ⟨he, by simp [mt (hmem e he).1 hno]⟩

theorem Station.takeExit_line {s : Station} (e : Nat) (hf : s.pos.frame ≠ .deck) :
    s.takeExit e = if s.passage.state = .aboardSent then s.learnAccepted else s := by
  have hpos : (if s.passage.state = .aboardSent then s.learnAccepted else s).pos = s.pos := by
    split
    · exact s.learnAccepted_keeps.2.2.1
    · rfl
  unfold Station.takeExit
  rw [if_neg (by simp [hf])]
  exact if_neg (by rw [hpos]; exact hf)

theorem Station.takeExit_noDeck {s : Station} {e : Nat} (hf : s.pos.frame = .deck)
    (hk : s.map.deck? s.pos.deckTurntable e = none) : s.takeExit e = s.countBad := by
  unfold Station.takeExit
  exact if_pos (by simp [hf, hk])

/-- Where the EXIT transfer places the carriage (R33, R125, R171). -/
theorem Station.doExit_placed {s : Station} {e : Nat} {k : DeckOnLine} (h : s.map.deck? s.pos.deckTurntable e = some k) :
    (s.doExit e).passage.state = .leaving ∧ (s.doExit e).pos.frame = .line ∧ (s.doExit e).pos.line = k.line ∧
    (s.doExit e).pos.centre = k.centre ∧ (s.doExit e).pos.uRef = s.par.centring ∧ (s.doExit e).trail = [] ∧
    (s.doExit e).claims = s.claims := by
  obtain ⟨⟨d, hpos⟩, htrail, hstate, hclaims, -⟩ := Station.doExit_spec h
  rw [hpos]
  exact ⟨hstate, rfl, rfl, rfl, rfl, htrail, hclaims⟩

/-! ## A GRANT and a REVOKED shown (R169, R170) -/

theorem Station.takeGrant_room {s : Station} {n : Nat} (hn : s.map.deckSegment s.passage.turntable = some n)
    (hr : s.claims.lists n = true ∨ s.claims.entries.length < 8) (hq : s.line.queue.length < 8) :
    s.takeGrant.claims.entries = (if s.claims.lists n then s.claims.entries else s.claims.entries ++
      [{ seg := n, state := .held, purpose := .deck, wonTime := some s.ms }]) ∧
    s.takeGrant.claims.deckReserve = false ∧ s.takeGrant.passage.retryDue = none ∧
    (s.pos.frame ≠ .deck → s.takeGrant.passage.state = .granted ∧
      ∀ l d t e, s.order.leg? = some ⟨l, d, .turntable t e⟩ → s.order.state.active = true → s.order.legStop = none →
        s.order.aboardStart = false → s.takeGrant.order.legStop = s.deckCentreOf ⟨l, d, .turntable t e⟩) ∧
    (s.pos.frame = .deck → s.takeGrant.passage.state = .aboardSent ∧
      s.takeGrant.queues (.turnAboard s.passage.turntable)) := by
  have hmake : ∃ c, s.makeDeckEntry s.passage.turntable = (s.withClaims c, true) ∧
      c.entries = if s.claims.lists n then s.claims.entries else s.claims.entries ++
        [{ seg := n, state := .held, purpose := .deck, wonTime := some s.ms }] := by
    rw [Station.makeDeckEntry_eq hn]
    by_cases hl : s.claims.lists n = true
    · rw [if_pos hl, if_pos hl]
      exact ⟨s.claims, rfl, rfl⟩
    · rw [if_neg hl, if_neg hl, if_pos (hr.resolve_left hl)]
      exact ⟨_, rfl, rfl⟩
  obtain ⟨c, hc, hentries⟩ := hmake
  obtain ⟨hclaims, hretry, hline, hdeck⟩ := Station.takeGrant_spec hc hq
  rw [hclaims]
  refine ⟨hentries, rfl, hretry, fun hf => ?_, hdeck⟩
  obtain ⟨hstate, hgive⟩ := hline hf
  exact ⟨hstate, fun l d t e hg ha hs hb => (hgive l d t e hg ha hs hb).1⟩

theorem Station.takeGrant_noRoom {s : Station}
    (hr : ∀ n, s.map.deckSegment s.passage.turntable = some n → ¬(s.claims.lists n = true ∨ s.claims.entries.length < 8))
    (hq : s.line.queue.length < 8) :
    s.takeGrant.passage.state = .none ∧ s.takeGrant.claims.deckReserve = false ∧
    s.takeGrant.claims.entries = s.claims.entries ∧ s.takeGrant.queues (.turnClear s.passage.turntable) := by
  have hmake : s.makeDeckEntry s.passage.turntable = (s, false) := by
    cases hn : s.map.deckSegment s.passage.turntable with
    | none =>
      unfold Station.makeDeckEntry
      rw [hn]
    | some n =>
      have := hr n hn
      rw [not_or] at this
      rw [Station.makeDeckEntry_eq hn, if_neg this.1, if_neg this.2]
  rw [Station.takeGrant_full hmake, Station.clearTo_room _ hq]
  exact ⟨rfl, rfl, rfl, Station.queues_enqueue _ _ _⟩

/-- What REVOKED leaves of place, order, approach and list (R32, R85, R109, R170). -/
theorem Station.takeRevoked_spec (s : Station) :
    s.takeRevoked.passage.state = .none ∧
    s.takeRevoked.pos.frame = (if s.pos.frame = .deck then .line else s.pos.frame) ∧
    s.takeRevoked.pos.centre = s.pos.centre ∧
    (s.legKeepsPassage = true → s.takeRevoked.order.legStop = none) ∧
    (s.legKeepsPassage = false → s.takeRevoked.order = s.order) ∧
    (s.legKeepsPassage = true ∧ s.backing = none → s.takeRevoked.appr.state = .none ∧ s.takeRevoked.appr.attempts = 0 ∧
      s.takeRevoked.env.handedOn = false) ∧
    ∀ n, s.map.deckSegment s.passage.turntable = some n →
      ∀ e ∈ s.takeRevoked.claims.entries, ¬(e.seg = n ∧ e.purpose = .deck) := by
  obtain ⟨hgo, hstay, hnear, -, hpos, hmap⟩ := s.backToLine.withdrawDeckStop_spec
  have hleg : s.backToLine.legKeepsPassage = s.legKeepsPassage := by
    rw [Station.backToLine_eq]
    rfl
  have horder : s.backToLine.order = s.order := by
    rw [Station.backToLine_eq]
    rfl
  rw [hleg] at hgo hstay
  refine ⟨rfl, ?_, ?_, hgo, fun h => (hstay h).trans horder, fun h => ?_, fun n hn e he hne => ?_⟩
  · exact (congrArg Position.frame hpos).trans s.backToLine_pos.1
  · exact (congrArg Position.centre hpos).trans s.backToLine_pos.2
  · have hb : s.backToLine.backing = s.backing := by
      rw [Station.backToLine_eq]
      rfl
    obtain ⟨happr, henv⟩ := hnear ((Station.nearsDeck_iff _).2 (.inr ⟨hleg.trans h.1, hb.trans h.2⟩))
    exact ⟨congrArg Approach.state happr, congrArg Approach.attempts happr, congrArg Envelope.handedOn henv⟩
  · obtain ⟨-, hkept⟩ := List.mem_filter.1 he
    have hm : s.backToLine.withdrawDeckStop.map = s.map := by
      rw [hmap, Station.backToLine_eq]
      rfl
    rw [hm] at hkept
    simp [hne.1, hne.2, hn] at hkept

/-- Where a carriage is that leaves by the exit arm, or cannot (R33, R171). -/
theorem Station.takeExit_spec {w x : Station} (e : Nat)
    (hx : x = if w.passage.state = .aboardSent then w.learnAccepted else w) :
    (∀ k, w.pos.frame = .deck → w.map.deck? w.pos.deckTurntable e = some k →
      w.takeExit e = x.doExit e ∧ (w.takeExit e).passage.state = .leaving ∧ (w.takeExit e).pos.frame = .line ∧
      (w.takeExit e).pos.line = k.line ∧ (w.takeExit e).pos.centre = k.centre ∧
      (w.takeExit e).pos.uRef = w.par.centring ∧ (w.takeExit e).trail = [] ∧ (w.takeExit e).claims = x.claims) ∧
    (w.pos.frame = .deck ∧ w.map.deck? w.pos.deckTurntable e = none → w.takeExit e = w.countBad) ∧
    (w.pos.frame ≠ .deck → w.takeExit e = x) := by
  have hkeep : x.pos = w.pos ∧ x.map = w.map ∧ x.par = w.par := by
    rw [hx]
    split
    · obtain ⟨-, -, hpos, hmap, hpar, -⟩ := w.learnAccepted_keeps
      exact ⟨hpos, hmap, hpar⟩
    · exact ⟨rfl, rfl, rfl⟩
  obtain ⟨hpos, hmap, hpar⟩ := hkeep
  refine ⟨fun k hf hk => ?_, fun h => Station.takeExit_noDeck h.1 h.2, fun hf => (Station.takeExit_line e hf).trans hx.symm⟩
  have hu : w.takeExit e = x.doExit e := by
    rw [Station.takeExit_deck hf hk, ← hx]
  rw [hu, ← hpar]
  exact ⟨rfl, Station.doExit_placed (by rw [hmap, hpos]; exact hk)⟩

/-- TURN-ASK sent again, the frame and the claims as they are (R169). -/
theorem Station.asksAgain {s : Station} (h : s.line.queue.length < 8) :
    s.askAgain.passage = { s.passage with askTime := none, retryDue := none, askOwed := false } ∧
    s.askAgain.queues (.turnAsk s.passage.turntable s.passage.entryArm s.passage.exitArm) ∧
    s.askAgain.claims = s.claims ∧ s.askAgain.pos = s.pos := by
  rw [Station.askAgain_room h]
  exact ⟨rfl, Station.queues_enqueue _ _ _, rfl, rfl⟩

/-- A lost passage aboard (R169). -/
theorem Station.lostAboard_spec (w : Station) (b : TurntableBeacon) :
    (w.TurnedOut b → w.lostAboard b = w.takeExit w.passage.exitArm) ∧
    (¬w.TurnedOut b → w.line.queue.length < 8 →
      (w.lostAboard b).passage =
        { w.passage with state := .asked, askTime := none, retryDue := none, askOwed := false } ∧
      (w.lostAboard b).queues (.turnAsk w.passage.turntable w.passage.entryArm w.passage.exitArm) ∧
      (w.lostAboard b).claims = w.claims ∧ (w.lostAboard b).pos = w.pos) := by
  refine ⟨Station.lostAboard_out, fun h hq => ?_⟩
  rw [Station.lostAboard_in h]
  exact Station.asksAgain (s := w.setPassageState .asked) hq

/-- A beacon that the passage does not read moves nothing (R169). -/
theorem Station.passageBeacon_unread {s : Station} {src : Nat} (b : TurntableBeacon)
    (h : s.servingStation s.passage.turntable ≠ some src ∨ s.passage.state = .none ∨ s.passage.state = .leaving) :
    s.passageBeacon src b = s := by
  unfold Station.passageBeacon
  split
  · next hc =>
    obtain h | h | h := h
    · exact absurd (by simpa using hc) fun hc : s.isCarriage = true ∧ _ => h hc.2
    · unfold Station.servingBeacon
      rw [h]
    · unfold Station.servingBeacon
      rw [h]
  · rfl

theorem PeerEntry.fresh_takeCarriage (e : PeerEntry) (role : Role) (n : Nat) (m : TrackMap) (b : CarriageBeacon) :
    ((e.refresh role n).takeCarriage m b).state = .fresh := rfl

theorem PeerEntry.fresh_takeTurntable (e : PeerEntry) (role : Role) (n : Nat) (m : TrackMap) (b : TurntableBeacon) :
    ((e.refresh role n).takeTurntable m b).state = .fresh := rfl

/-- Settles O12: the entry by the refresh and the beacon's fields, the passage by its state. -/
theorem beaconsFillPeerEntries : Obligations.BeaconsFillPeerEntries := by
  refine ⟨fun dt src b s hs => ?_, fun dt src b s hs => ?_, fun w src b hcar hserve => ?_⟩
  · intro v
    have hmap : ((s.old dt).heard src .carriage .beacon).map = s.station.map := by simp
    have hex : exec (.carriageBeaconReceived dt src b) s = .next (s.settled dt (v.beaconHolds src) .frame) := by
      dsimp only [exec, execCarriageBeaconReceived]
      rw [State.reactWith_eq, (State.receive_peer dt .carriage (by decide) _ hs).1, hmap]
    have hsteady : (v.beaconHolds src).steady = v.steady := v.steady_beaconHolds src
    have hv : v.claims = s.station.claims ∧ v.pos = s.station.pos ∧ v.line.badCount = s.station.line.badCount := by
      rw [show v = _ from Station.mapPeer_eq _ _ _]
      simp
    obtain ⟨hclaims, hpos, hbad⟩ := hv
    obtain ⟨hpeer, hother⟩ := State.settled_beacon dt .carriage (fun x => x.takeCarriage s.station.map b) .frame hs
      (u := v.beaconHolds src) (Station.field_of_steady (·.peers) (fun _ => rfl) hsteady)
    refine ⟨_, hex, rfl, hpeer, ?_, hother, fun h => Station.beaconHolds_unlisted (by rw [hclaims]; exact h), ?_, ?_⟩
    · rw [hpeer]
      exact PeerEntry.fresh_takeCarriage _ _ _ _ _
    · rw [State.settled_pos_centre, Station.field_of_steady (·.pos.centre) (fun _ => rfl) hsteady, hpos]
    · rw [State.settled_line_badCount, Station.field_of_steady (·.line.badCount) (fun _ => rfl) hsteady, hbad]
  · intro v
    have hmap : ((s.old dt).heard src .turntable .beacon).map = s.station.map := by simp
    have hex : exec (.turntableBeaconReceived dt src b) s =
        .next (s.settled dt ((v.beaconHolds src).passageBeacon src b) .frame) := by
      dsimp only [exec, execTurntableBeaconReceived]
      rw [State.reactWith_eq, (State.receive_peer dt .turntable (by decide) _ hs).1, hmap]
    have hsteady : (v.beaconHolds src).steady = v.steady := v.steady_beaconHolds src
    have hv : v.claims = s.station.claims ∧ v.passage = s.station.passage ∧ v.line.badCount = s.station.line.badCount ∧
        v.isCarriage = s.station.isCarriage := by
      rw [show v = _ from Station.mapPeer_eq _ _ _]
      exact ⟨by simp, by simp, by simp, Station.heard_isCarriage _ _ _ _⟩
    obtain ⟨hclaims, hpass, hbad, hcar⟩ := hv
    obtain ⟨hpeer, hother⟩ := State.settled_beacon dt .turntable (fun x => x.takeTurntable s.station.map b) .frame hs
      (u := (v.beaconHolds src).passageBeacon src b) ((Station.peers_passageBeacon _ _ _).trans
        (Station.field_of_steady (·.peers) (fun _ => rfl) hsteady))
    refine ⟨_, hex, rfl, hpeer, ?_, hother, fun h => Station.beaconHolds_unlisted (by rw [hclaims]; exact h), fun hno => ?_,
      fun h => Station.passageBeacon_unread b ?_⟩
    · rw [hpeer]
      exact PeerEntry.fresh_takeTurntable _ _ _ _ _
    · have hstay : (v.beaconHolds src).passageBeacon src b = v.beaconHolds src := if_neg (by
        simp [Station.field_of_steady Station.isCarriage (fun _ => rfl) hsteady, hcar, hno])
      rw [State.settled_line_badCount, hstay, Station.field_of_steady (·.line.badCount) (fun _ => rfl) hsteady, hbad]
    · have hof := v.passageOf_beaconHolds src
      have hstate : (v.beaconHolds src).passage.state = s.station.passage.state := by
        rw [← hpass]
        exact congrArg Prod.fst hof
      have hturn : (v.beaconHolds src).passage.turntable = s.station.passage.turntable := by
        rw [← hpass]
        exact congrArg Prod.snd hof
      have hserving : ∀ n, (v.beaconHolds src).servingStation n = v.servingStation n := fun n =>
        Station.field_of_steady (·.servingStation n) (fun _ => rfl) hsteady
      rw [hstate, hturn, hserving]
      exact h
  · intro u held since absent lost granted accepted exit again turnedOut asks leaves noDeck
    have hu : u = w.servingBeacon b (w.peer src).period := if_pos (by simp [hcar, hserve])
    have habsent : w.shownAbsent b (w.peer src).period = true ↔ absent := w.absent_iff b _
    have hlost : w.passageLost b (w.peer src).period = true ↔ lost := w.passageLost_iff b _
    refine ⟨fun hs => ?_, fun hs => ?_, fun hs => ?_, fun hs => ?_⟩
    · rw [Station.servingBeacon_asked b _ hs] at hu
      refine ⟨fun hg => ?_, fun ha hq => ?_, fun hng hna => ?_⟩
      · intro room
        rw [if_pos hg] at hu
        rw [hu]
        exact ⟨fun n hn hr hq => Station.takeGrant_room hn hr hq, fun hr hq => Station.takeGrant_noRoom hr hq⟩
      · rw [if_neg fun hg => ha.1 hg.1, if_pos (habsent.2 ha)] at hu
        dsimp only [asks]
        rw [hu]
        exact Station.asksAgain hq
      · rw [if_neg hng, if_neg (mt habsent.1 hna)] at hu
        exact hu
    · intro served
      rw [Station.servingBeacon_granted b _ hs] at hu
      refine ⟨fun hl => ?_, fun hl => ?_⟩
      · rw [if_pos (hlost.2 hl)] at hu
        have hserved : w.legKeepsPassage = true ↔ served := w.legKeepsPassage_iff
        obtain ⟨hstate, hframe, hcentre, hgo, hstay, happr, hdeck⟩ := w.takeRevoked_spec
        rw [hu]
        exact ⟨rfl, hstate, hframe, hcentre, fun h => hgo (hserved.2 h),
          fun h => hstay (Bool.eq_false_iff.2 (mt hserved.1 h)), fun h => happr ⟨hserved.2 h.1, h.2⟩, hdeck⟩
      · rw [if_neg (mt hlost.1 hl)] at hu
        exact hu
    · intro x
      have hxw : x = if w.passage.state = .aboardSent then w.learnAccepted else w := by rw [if_pos hs]
      obtain ⟨hxstate, hxexit, hxpos, hxmap, hxpar, hxtrail⟩ := w.learnAccepted_keeps
      have hxx : x = if x.passage.state = .aboardSent then x.learnAccepted else x := by
        rw [if_neg (show ¬x.passage.state = .aboardSent by rw [hxstate]; decide)]
      have haccepted : w.shownAccepted b = true ↔ accepted := w.shownAccepted_iff b
      have hexit : x.shownExit b = true ↔ exit := by
        rw [Station.shownExit_iff, hxexit, hxpar]
      obtain ⟨hout, hin⟩ := w.lostAboard_spec b
      rw [Station.servingBeacon_aboard b _ hs] at hu
      refine ⟨fun ha he => ?_, fun ha he => ?_, fun hg hq => ?_, fun hl ho => ?_, fun hl ho hq => ?_, fun ha hg hl => ?_,
        hxstate, hxpos, hxtrail, fun hb e he => ?_⟩
      · rw [if_pos (haccepted.2 ha), if_neg (mt hexit.1 he)] at hu
        exact hu
      · rw [if_pos (haccepted.2 ha), if_pos (hexit.2 he)] at hu
        obtain ⟨hleave, hno, hline⟩ := Station.takeExit_spec x.passage.exitArm hxx
        rw [hxexit] at hleave hno hline
        rw [hxpos, hxmap] at hleave hno
        rw [hxpar] at hleave
        rw [hxpos] at hline
        rw [hxexit] at hu
        dsimp only [leaves]
        rw [hu]
        exact ⟨hleave, hno, hline⟩
      · have hna : ¬accepted := by
          rintro ⟨-, h⟩
          rw [hg.2.1] at h
          revert h
          decide
        rw [if_neg (mt haccepted.1 hna), if_pos ⟨hg.1, hg.2.1, (w.sinceAboard_iff _).2 hg.2.2⟩,
          Station.sendAboard_room hq] at hu
        rw [hu, ← hs]
        exact ⟨rfl, Station.queues_enqueue _ _ _, rfl, rfl, rfl⟩
      · rw [if_neg (mt haccepted.1 fun h => hl.1.1 h.1), if_neg (fun h => hl.1.1 h.1), if_pos (hlost.2 hl), hout ho] at hu
        dsimp only [leaves]
        rw [hu]
        exact Station.takeExit_spec w.passage.exitArm hxw
      · rw [if_neg (mt haccepted.1 fun h => hl.1.1 h.1), if_neg (fun h => hl.1.1 h.1), if_pos (hlost.2 hl)] at hu
        dsimp only [asks]
        rw [hu]
        exact hin ho hq
      · rw [if_neg (mt haccepted.1 ha), if_neg fun h => hg ⟨h.1, h.2.1, (w.sinceAboard_iff _).1 h.2.2⟩,
          if_neg (mt hlost.1 hl)] at hu
        exact hu
      · have hkept := Station.learnAccepted_list hb.2.1 he
        exact ⟨hkept.1, fun _ => hkept.2⟩
    · have hww : w = if w.passage.state = .aboardSent then w.learnAccepted else w := by
        rw [if_neg (by rw [hs]; decide)]
      have hexit : w.shownExit b = true ↔ exit := w.shownExit_iff b
      obtain ⟨hout, hin⟩ := w.lostAboard_spec b
      rw [Station.servingBeacon_accepted b _ hs] at hu
      refine ⟨fun he => ?_, fun hl ho => ?_, fun hl ho hq => ?_, fun he hl => ?_⟩
      · rw [if_pos (hexit.2 he)] at hu
        dsimp only [leaves]
        rw [hu]
        exact Station.takeExit_spec w.passage.exitArm hww
      · rw [if_neg (mt hexit.1 fun h => hl.1.1 h.1), if_pos (hlost.2 hl), hout ho] at hu
        dsimp only [leaves]
        rw [hu]
        exact Station.takeExit_spec w.passage.exitArm hww
      · rw [if_neg (mt hexit.1 fun h => hl.1.1 h.1), if_pos (hlost.2 hl)] at hu
        dsimp only [asks]
        rw [hu]
        exact hin ho hq
      · rw [if_neg (mt hexit.1 he), if_neg (mt hlost.1 hl)] at hu
        exact hu

end Sys2Proof.Machine
end

section
/-! PROOFS. The order unit's claims: ahead, asked of others, released behind and under a yield, and what it waits for (R96,
R107, R111–R113, R115, R126). -/

namespace Sys2Proof.Machine

/-! ## The claim ahead (R111) -/

theorem Station.claimAhead_none {s : Station} (h : s.nearestUnheld = none) : s.claimAhead = s := by
  unfold Station.claimAhead
  rw [h]

/-- A claim ahead, or a claim for the nearest wanted segment, is under way (R111). -/
def Station.aheadUnderWay (s : Station) (seg : Nat) : Prop :=
  ∃ e ∈ s.claims.entries, e.state = .listening ∧ (e.seg = seg ∨ e.purpose = .ahead)

theorem Station.claimAhead_underWay {s : Station} {seg : Nat} (h : s.nearestUnheld = some seg) (hl : s.aheadUnderWay seg) :
    s.claimAhead = s := by
  unfold Station.claimAhead
  rw [h]
  exact if_pos (by simpa [Station.aheadUnderWay] using hl)

theorem Station.claimAhead_some {s : Station} {seg : Nat} (h : s.nearestUnheld = some seg) (hl : ¬s.aheadUnderWay seg) :
    s.claimAhead = match s.claim seg .ahead .order with
      | (s1, .heldBy p) => if s1.line.fault then s1 else s1.yieldAsk seg p
      | (s1, _) => s1 := by
  unfold Station.claimAhead
  rw [h]
  exact if_neg (by simpa [Station.aheadUnderWay] using hl)

theorem Station.claim_tested {s : Station} {seg : Nat} (p : Purpose) (a : Asker) {x : ClaimAnswer}
    (h : s.claimTest seg 1 = some x) : s.claim seg p a = (s, x) := by
  unfold Station.claim
  rw [h]

/-- A claim answered by what the peers hold has passed the test of FAULT before (R57). -/
theorem Station.claimTest_online {s : Station} {n k p : Nat} (h : s.claimTest n k = some (.heldBy p)) :
    s.line.fault = false := by
  unfold Station.claimTest at h
  split at h
  · exact nomatch h
  · next hf =>
    simp only [Bool.or_eq_true, not_or, Bool.not_eq_true] at hf
    exact hf.2

theorem Station.claim_room {s : Station} {seg : Nat} (p : Purpose) (a : Asker) (h : s.claimTest seg 1 = none)
    (hq : s.line.queue.length < 8) : s.claim seg p a = (s.claimMade p a 0 seg, .sent) := by
  unfold Station.claim
  rw [h, Station.makeClaim_eq, if_pos hq]

/-! ## YIELD-ASK (R112) -/

/-- What R112 asks of the holder `p` and of the time of the last ask. -/
def Station.MayAsk (s : Station) (seg p : Nat) : Prop :=
  (s.peer p).state ≠ .lost ∧ (∃ n ∈ s.holders seg, ∀ x ∈ (s.peer n).held, x.seg = seg → x.yielding = false) ∧
  outranks s.plainRank s.par.station ⟨(s.peer p).rank.wait, false⟩ p = true ∧
  ∀ t, s.order.askTimes[seg]? = some (some t) → t + s.par.hold * 1000 ≤ s.ms

/-- The decision of R112, as the model makes it. -/
def Station.asksYield (s : Station) (seg p : Nat) : Bool :=
  (s.peer p).state ≠ .lost &&
  !((s.holders seg).all fun n => (s.peer n).held.any fun h => h.seg = seg && h.yielding) &&
  outranks s.plainRank s.par.station ⟨(s.peer p).rank.wait, false⟩ p &&
  match (s.order.askTimes[seg]?).getD none with
  | none => true
  | some t => t + s.par.hold * 1000 ≤ s.ms

theorem Station.asksYield_iff (s : Station) (seg p : Nat) : s.asksYield seg p = true ↔ s.MayAsk seg p := by
  have htime : (match (s.order.askTimes[seg]?).getD none with
      | none => true
      | some t => decide (t + s.par.hold * 1000 ≤ s.ms)) = true ↔
      ∀ t, s.order.askTimes[seg]? = some (some t) → t + s.par.hold * 1000 ≤ s.ms := by
    cases h : s.order.askTimes[seg]? with
    | none => simp
    | some x => cases x <;> simp
  unfold Station.asksYield Station.MayAsk
  rw [Bool.and_eq_true, htime]
  simp [and_assoc]

theorem Station.yieldAsk_eq (s : Station) (seg p : Nat) : s.yieldAsk seg p = if s.asksYield seg p = true then
      match s.offer (.yieldAsk seg p s.claims.waitCount) with
      | (s1, true) => s1.withOrder { s1.order with askTimes := s1.order.askTimes.setIfInBounds seg (some s1.ms) }
      | (s1, false) => s1
    else s := rfl

theorem Station.yieldAsk_not {s : Station} {seg p : Nat} (h : ¬s.MayAsk seg p) : s.yieldAsk seg p = s := by
  rw [Station.yieldAsk_eq, if_neg (mt (s.asksYield_iff seg p).1 h)]

theorem Station.yieldAsk_may {s : Station} {seg p : Nat} (h : s.MayAsk seg p) (hq : s.line.queue.length < 8) :
    s.yieldAsk seg p = (s.setQueue (enqueue s.line.queue (.yieldAsk seg p s.claims.waitCount))).withOrder
      { s.order with askTimes := s.order.askTimes.setIfInBounds seg (some s.ms) } := by
  rw [Station.yieldAsk_eq, if_pos ((s.asksYield_iff seg p).2 h), Station.offer_room _ hq]
  rfl

/-! ## Released behind (R115, R126) -/

/-- Each of `l` that is HELD goes from the list, and all of `l` onto the trail stack, the last on top. -/
theorem Station.releaseBehind_fold {s : Station} (l : List Nat) (hn : (s.claims.entries.map (·.seg)).Nodup)
    (hl : ∀ e ∈ s.claims.entries, e.seg ∈ l → e.state = .held ∧ e.purpose ≠ .deck) (ht : s.trail.length ≤ 8) :
    let u := l.foldl (fun acc n => (acc.releaseRequest n).push n) s
    u.claims.entries = s.claims.entries.filter (fun e => !l.contains e.seg) ∧
    u.trail = (l.reverse ++ s.trail).take 8 := by
  induction l generalizing s with
  | nil => exact ⟨(List.filter_eq_self.2 fun e _ => by simp).symm, (List.take_of_length_le ht).symm⟩
  | cons n l ih =>
    have hrel := Station.releasedAll_releaseRequest n hn fun e he hs => (hl e he (by simp [hs])).1
    have hent : ((s.releaseRequest n).push n).claims.entries = s.claims.entries.filter (fun e => e.seg ≠ n) := by
      refine hrel.entries.trans (List.filter_congr fun e he => ?_)
      by_cases hs : e.seg = n
      · simp [hs, (hl e he (by simp [hs])).2]
      · simp [hs]
    have htrail : ((s.releaseRequest n).push n).trail = (n :: s.trail).take 8 :=
      congrArg (fun t => List.take 8 (n :: t))
        (Station.field_of_bare (·.trail) (fun _ => rfl) (Station.bare_releaseRequest s n))
    obtain ⟨h1, h2⟩ := ih (s := (s.releaseRequest n).push n) (by rw [hent]; exact hn.sublist (List.filter_sublist.map _))
      (fun e he hm => hl e (by rw [hent] at he; exact List.mem_of_mem_filter he) (List.mem_cons_of_mem _ hm))
      (by rw [htrail]; simp)
    refine ⟨h1.trans ?_, h2.trans ?_⟩
    · rw [hent, List.filter_filter]
      refine List.filter_congr fun e _ => ?_
      by_cases hs : e.seg = n <;> simp [hs]
    · rw [htrail, List.reverse_cons, List.append_assoc, List.singleton_append, List.take_append, List.take_append,
        List.take_take]
      congr 2
      omega

/-- What is behind: in the order left, each of the list, HELD and of purpose AHEAD or BODY (R115, R126). -/
theorem Station.behindSegs_spec (s : Station) : ∃ l : List Stretch, s.behindSegs = l.map (·.seg) ∧
    l.Pairwise (fun a b => if s.pos.dir = .up then a.stop ≤ b.stop else b.base ≤ a.base) ∧
    l.Perm ((s.map.railStretches s.pos.line).filter fun b =>
      (if s.pos.dir = .up then decide (b.stop ≤ s.guardedRear) else decide (s.guardedRear < b.base)) &&
      s.claims.entries.any fun e => e.seg = b.seg && e.state = .held && (e.purpose = .ahead || e.purpose = .body)) := by
  have hle : ∀ a b, s.furtherBehind a b = true ↔ if s.pos.dir = .up then a.stop ≤ b.stop else b.base ≤ a.base := by
    intro a b
    unfold Station.furtherBehind
    cases s.pos.dir <;> simp
  have htotal : Std.Total fun a b => s.furtherBehind a b = true := ⟨fun a b => by
    rw [hle, hle]
    split <;> exact le_total _ _⟩
  have htrans : IsTrans Stretch fun a b => s.furtherBehind a b = true := ⟨fun a b c h1 h2 => by
    rw [hle] at h1 h2 ⊢
    split at h1
    · next h => rw [if_pos h] at h2 ⊢; exact h1.trans h2
    · next h => rw [if_neg h] at h2 ⊢; exact h2.trans h1⟩
  refine ⟨_, rfl, ?_, (sortBy_perm _ _).trans (.of_eq ?_)⟩
  · rw [sortBy_eq_insertionSort]
    exact (List.pairwise_insertionSort _ _).imp fun h => (hle _ _).1 h
  · refine List.filter_congr fun b _ => congrArg (· && _) ?_
    unfold Station.isBehind
    cases s.pos.dir <;> simp

theorem Station.behindSegs_held {s : Station} (hn : (s.claims.entries.map (·.seg)).Nodup) {e : ClaimEntry}
    (he : e ∈ s.claims.entries) (hm : e.seg ∈ s.behindSegs) : e.state = .held ∧ e.purpose ≠ .deck := by
  obtain ⟨l, hl, -, hperm⟩ := s.behindSegs_spec
  rw [hl] at hm
  obtain ⟨b, hb, hbs⟩ := List.mem_map.1 hm
  have hkept := (List.mem_filter.1 (hperm.subset hb)).2
  simp only [Bool.and_eq_true, List.any_eq_true, decide_eq_true_eq, Bool.or_eq_true] at hkept
  obtain ⟨-, x, hx, ⟨hxs, hheld⟩, hp⟩ := hkept
  obtain rfl := List.inj_on_of_nodup_map hn hx he (hxs.trans hbs)
  refine ⟨hheld, fun hd => ?_⟩
  rw [hd] at hp
  obtain hp | hp := hp <;> exact nomatch hp

theorem Station.releaseBehind_leg {s : Station} {g : Leg} (hg : s.order.leg? = some g) : s.releaseBehind =
    if s.order.state ≠ .backing ∧ s.pos.dir = g.dir ∧ s.pos.frame ≠ .unknown then
      s.behindSegs.foldl (fun acc n => (acc.releaseRequest n).push n) s
    else s := by
  unfold Station.releaseBehind
  rw [hg]
  simp only [Bool.and_eq_true, decide_eq_true_eq, and_assoc]

/-! ## Waiting (R113) -/

theorem Station.awaitsAnswer_iff (s : Station) : s.awaitsAnswer = true ↔
    s.passage.state = .asked ∨ s.passage.state = .aboardSent ∨ s.passage.state = .accepted ∨ s.askWanted ≠ none := by
  simp [Station.awaitsAnswer, or_assoc, Option.isSome_iff_ne_none]

theorem Station.mustWait_iff (s : Station) : s.mustWait = true ↔
    (s.pClaim = 0 ∧ ∃ n, s.nearestUnheld = some n ∧ s.claims.listens n = false) ∨
      s.passage.state = .asked ∨ s.passage.state = .aboardSent ∨ s.passage.state = .accepted ∨ s.askWanted ≠ none := by
  unfold Station.mustWait
  rw [Bool.or_eq_true, s.awaitsAnswer_iff]
  simp [Option.any_eq_true]

/-! ## YIELDING entries released (R96) -/

theorem Station.releaseEntry_fold (s : Station) (l : List Nat) :
    (l.foldl Station.releaseEntry s).claims.entries = s.claims.entries.filter fun e => e.seg ∉ l := by
  induction l generalizing s with
  | nil => exact (List.filter_eq_self.2 fun e _ => by simp).symm
  | cons n l ih =>
    rw [List.foldl_cons, ih, Station.releaseEntry_claims, List.filter_filter]
    refine List.filter_congr fun e _ => ?_
    by_cases hs : e.seg = n <;> simp [hs]

theorem Station.releaseTest_stops {s : Station} (hn : (s.claims.entries.map (·.seg)).Nodup) (hf : s.pos.frame ≠ .unknown)
    (hd : ((s.dEff + s.par.margin : Nat) : Int) ≤ s.dClaim) :
    s.releaseTest.claims.entries = s.claims.entries.filter (·.state ≠ .yielding) := by
  have hmem : ∀ e ∈ s.claims.entries, e.seg ∈ s.yieldingSegs ↔ e.state = .yielding := fun e he => by
    unfold Station.yieldingSegs
    rw [List.mem_map]
    constructor
    · rintro ⟨x, hx, hxs⟩
      obtain ⟨hxl, hxy⟩ := List.mem_filter.1 hx
      obtain rfl := List.inj_on_of_nodup_map hn hxl he hxs
      simpa using hxy
    · exact fun h => ⟨e, List.mem_filter.2 ⟨he, by simpa using h⟩, rfl⟩
  have hfilter : s.claims.entries.filter (fun e => e.seg ∉ s.yieldingSegs) =
      s.claims.entries.filter (·.state ≠ .yielding) := List.filter_congr fun e he => by simp [hmem e he]
  unfold Station.releaseTest
  dsimp only
  by_cases hy : s.yieldingSegs = []
  · rw [if_neg (by simp [hy]), ← hfilter, hy]
    exact (List.filter_eq_self.2 fun e _ => by simp).symm
  · rw [if_pos (by simp [hy, hf]; exact_mod_cast hd), Station.releaseEntry_fold, hfilter]

theorem Station.releaseTest_cannot {s : Station}
    (h : s.pos.frame = .unknown ∨ s.dClaim < ((s.dEff + s.par.margin : Nat) : Int)) : s.releaseTest = s := by
  unfold Station.releaseTest
  dsimp only
  refine if_neg ?_
  simp only [Bool.and_eq_true, decide_eq_true_eq]
  rintro ⟨⟨-, hf⟩, hd⟩
  exact absurd hd (h.resolve_left hf).not_ge

/-- Settles O39. -/
theorem orderUnitClaimsReleasesAndWaits : Obligations.OrderUnitClaimsReleasesAndWaits := by
  intro v hv
  obtain ⟨-, hn, -⟩ := hv.claims
  refine ⟨fun seg hseg => ⟨fun hl => Station.claimAhead_underWay hseg hl, fun hl => ?_⟩, fun h => Station.claimAhead_none h,
    fun g hg => ⟨fun h => ?_, fun hs hd hf => ?_⟩, v.behindSegs_spec, fun h => ?_, ?_, fun hdr => ?_,
    fun hf hd => Station.releaseTest_stops hn hf hd, fun h => Station.releaseTest_cannot h⟩
  · have hnone : ¬v.aheadUnderWay seg := fun ⟨e, he, h⟩ => hl e he h
    have hahead := Station.claimAhead_some hseg hnone
    refine ⟨fun htest hq => ?_, fun a htest ha => ?_, fun p htest => ?_⟩
    · rw [Station.claim_room .ahead .order htest hq] at hahead
      rw [hahead]
      exact ⟨rfl, v.newClaim 0 seg, List.mem_append_right _ (List.mem_singleton_self _), rfl⟩
    · rw [Station.claim_tested .ahead .order htest] at hahead
      rw [hahead]
      split
      · next h =>
        cases h
        exact absurd rfl (ha _)
      · next h =>
        cases h
        rfl
    · intro asks
      have hfault := Station.claimTest_online htest
      rw [Station.claim_tested .ahead .order htest] at hahead
      have hask : v.claimAhead = v.yieldAsk seg p := hahead.trans (if_neg (by simp [hfault]))
      rw [hask]
      refine ⟨fun h hq => ?_, fun h => Station.yieldAsk_not h⟩
      rw [Station.yieldAsk_may h hq]
      exact ⟨rfl, Station.queues_enqueue _ _ _, fun h128 => by simp [h128]⟩
  · rw [Station.releaseBehind_leg hg, if_neg]
    rintro ⟨h1, h2, h3⟩
    obtain h | h | h := h
    · exact h1 h
    · exact h h2
    · exact h3 h
  · rw [Station.releaseBehind_leg hg, if_pos ⟨hs, hd, hf⟩]
    exact Station.releaseBehind_fold _ hn (fun e he hm => Station.behindSegs_held hn he hm) hv.trail
  · obtain ⟨l, hl, -, hperm⟩ := v.behindSegs_spec
    rw [hl]
    exact ((hperm.map _).nodup_iff).2 (h.sublist (List.filter_sublist.map _))
  · intro stuck
    have hstuck : v.mustWait = true ↔ stuck := v.mustWait_iff
    refine ⟨fun hs he ha hk => ?_, fun hs hk => ?_, fun hs hk => ?_, fun hs hk => ?_, fun h1 h2 => ?_⟩
    · unfold Station.waitingTest
      rw [hs]
      exact if_pos (by simp [he, ha, hstuck.2 hk])
    · unfold Station.waitingTest
      rw [hs]
      refine if_neg ?_
      simp only [Bool.and_eq_true, decide_eq_true_eq]
      rintro ⟨⟨he, ha⟩, hm⟩
      obtain h | h | h := hk
      · exact h he
      · exact ha h
      · exact h (hstuck.1 hm)
    · unfold Station.waitingTest
      rw [hs]
      exact if_pos (hstuck.2 hk)
    · unfold Station.waitingTest
      rw [hs]
      exact if_neg (mt hstuck.1 hk)
    · unfold Station.waitingTest
      split
      · next h => exact absurd h h1
      · next h => exact absurd h h2
      · rfl
  · intro w
    unfold Station.orderEval
    rw [if_pos hdr]
    have hw : w.working = true ↔ w.order.state = .running ∨ w.order.state = .waiting := by simp [Station.working]
    by_cases h : w.order.state = .running ∨ w.order.state = .waiting
    · rw [if_pos h]
      exact if_pos (hw.2 h)
    · rw [if_neg h]
      exact if_neg (mt hw.1 h)

end Sys2Proof.Machine
end

section
/-! PROOFS. The backing rule: its release, its marks, its cases, how it fails and how it ends (R130–R133, R135). -/

namespace Sys2Proof.Machine

/-! ## Room for an OBJECT (R182) -/

/-- A queue that a PROMPT frame finds a place in: one that is free, or that of a ROUTINE frame not in flight. -/
def TakesPrompt (q : List QueueItem) : Prop := q.length ≤ 8 ∧ (q.length < 8 ∨ ∃ x ∈ q, x.yields = true)

theorem takesPrompt_of_room {q : List QueueItem} (h : q.length < 8) : TakesPrompt q := ⟨h.le, .inl h⟩

theorem takesPrompt_of_yields {q r : List QueueItem} (h : q.map (·.yields) = r.map (·.yields)) (hr : TakesPrompt r) :
    TakesPrompt q := by
  have hlen : q.length = r.length := by simpa using congrArg List.length h
  obtain ⟨h8, hroom⟩ := hr
  refine ⟨hlen.trans_le h8, hroom.imp (fun hr => by omega) fun ⟨x, hx, hy⟩ => ?_⟩
  have hmem : true ∈ q.map (·.yields) := by
    rw [h]
    exact List.mem_map.2 ⟨x, hx, hy⟩
  obtain ⟨z, hz, hzy⟩ := List.mem_map.1 hmem
  exact ⟨z, hz, hzy⟩

/-- Merging changes no frame's class. -/
theorem mergeRelease_yields (new : List Nat) (q : List QueueItem) :
    (mergeRelease new q).1.map (·.yields) = q.map (·.yields) := by
  induction q with
  | nil => rfl
  | cons x q ih =>
    by_cases hx : x.takesRelease
    · obtain ⟨-, -, segs, hf, -⟩ := id hx
      have h := mergeRelease_first new (a := []) (b := q) (fun y hy => nomatch hy) hx hf
      rw [List.nil_append] at h
      rw [h, List.nil_append, List.map_cons, List.map_cons]
      congr 1
      unfold QueueItem.yields QueueItem.prompt
      rw [hf]
      rfl
    · rw [mergeRelease_skip new q hx, List.map_cons, List.map_cons, ih]

theorem takesPrompt_offerReleases {s : Station} (h : TakesPrompt s.line.queue) :
    TakesPrompt s.offerReleases.line.queue := by
  unfold Station.offerReleases
  extract_lets new
  split
  · exact h
  · have hm := takesPrompt_of_yields (mergeRelease_yields new s.line.queue) h
    split
    next q rest hq =>
    rw [hq] at hm
    extract_lets s1
    split
    · exact hm
    · rw [Station.offer_routine _ rfl]
      split
      · next ho =>
        split at ho <;> cases ho
        next hroom =>
        change TakesPrompt (enqueue q (.release rest))
        rw [enqueue_eq, if_neg (show ¬(OutFrame.release rest).prompt = true from Bool.false_ne_true)]
        have hroom : q.length < 8 := hroom
        exact ⟨by simpa using hroom, .inr ⟨_, List.mem_append_right _ (List.mem_singleton_self _), rfl⟩⟩
      · next ho =>
        split at ho <;> cases ho
        exact hm

theorem takesPrompt_takeBack {q : List QueueItem} (p : OutFrame → Bool) (h : TakesPrompt q) : TakesPrompt (takeBack p q) := by
  obtain ⟨h8, hroom⟩ := h
  have hlen : (takeBack p q).length ≤ q.length := List.length_filterMap_le _ _
  refine ⟨hlen.trans h8, ?_⟩
  obtain hroom | ⟨x, hx, hy⟩ := hroom
  · exact .inl (by omega)
  · have hfl : x.inFlight = false := by
      by_contra hc
      exact absurd (QueueItem.yields_eq_false.2 (.inr (by simpa using hc))) (by rw [hy]; decide)
    cases hp : p x.frame with
    | true =>
      refine .inl (lt_of_lt_of_le ?_ h8)
      exact List.length_filterMap_lt_length_iff_exists.2 ⟨x, hx, by simp [hp, hfl]⟩
    | false => exact .inr ⟨x, List.mem_filterMap.2 ⟨x, hx, by simp [hp]⟩, hy⟩

theorem takesPrompt_releaseRequest {s : Station} (n : Nat) (h : TakesPrompt s.line.queue) :
    TakesPrompt (s.releaseRequest n).line.queue := by
  cases he : s.claims.entry? n with
  | none =>
    unfold Station.releaseRequest
    rw [he]
    exact h
  | some e =>
    by_cases hd : e.purpose = .deck
    · unfold Station.releaseRequest
      rw [he]
      dsimp only
      rw [if_pos hd]
      exact h
    · cases hs : e.state with
      | held =>
        rw [Station.releaseRequest_held he hs, if_neg hd]
        exact takesPrompt_offerReleases h
      | yielding =>
        unfold Station.releaseRequest
        rw [he]
        dsimp only
        rw [if_neg hd, hs]
        exact h
      | listening =>
        rw [Station.releaseRequest_listening he hd hs]
        split
        · exact takesPrompt_takeBack _ h
        · exact h

theorem takesPrompt_releaseAll {s : Station} (l : List Nat) (h : TakesPrompt s.line.queue) :
    TakesPrompt (s.releaseAll l).line.queue :=
  List.foldlRecOn (motive := fun w : Station => TakesPrompt w.line.queue) _ _ h fun _ hw n _ =>
    takesPrompt_releaseRequest n hw

/-- A PROMPT frame that is no CLAIM is queued where it finds a place (R182). -/
theorem Station.queues_offered {s : Station} {f : OutFrame} (hf : f.prompt = true) (hc : ∀ l, OutFrame.claims l f = false)
    (h : TakesPrompt s.line.queue) : (s.offer f).1.queues f := by
  unfold Station.offer
  split
  · exact s.queues_enqueue _ _
  · next hq =>
    split
    · exact Station.queues_displaced hc (s.queues_enqueue _ _)
    · next hd =>
      obtain ⟨-, hroom | ⟨x, hx, hy⟩⟩ := h
      · exact absurd hroom hq
      · exact absurd ((dropLastRoutine_none hd x hx).symm.trans hy) (by decide)

/-! ## What an OBJECT leaves of the list (R58, R182) -/

/-- From `s` to `u` no HELD or YIELDING entry goes, no segment comes, and what is released stays released. -/
structure Station.Spares (s u : Station) : Prop where
  kept : ∀ x ∈ s.claims.entries, x.state ≠ .listening → x ∈ u.claims.entries
  segs : (u.claims.entries.map (·.seg)).Sublist (s.claims.entries.map (·.seg))
  stamps : u.claims.stamps = s.claims.stamps
  out : ∀ n < 128, s.releaseOut n → u.releaseOut n

theorem Station.Spares.refl (s : Station) : s.Spares s := ⟨fun _ h _ => h, .refl _, rfl, fun _ _ h => h⟩

/-- Where queue and debts allow, what changes neither entries nor stamps spares the list. -/
theorem Station.spares_of {s u : Station} (he : u.claims.entries = s.claims.entries) (hst : u.claims.stamps = s.claims.stamps)
    (ho : ∀ n < 128, s.releaseOut n → u.releaseOut n) : s.Spares u :=
  ⟨fun _ h _ => by rw [he]; exact h, by rw [he], hst, ho⟩

theorem namesRelease_of_subset {q r : List QueueItem} {n : Nat} (h : namesRelease q n) (hs : ∀ x ∈ q, x ∈ r) :
    namesRelease r n := by
  obtain ⟨x, hx, hl⟩ := h
  exact ⟨x, hs x hx, hl⟩

theorem mem_enqueue_of_mem {q : List QueueItem} {x : QueueItem} (f : OutFrame) (h : x ∈ q) : x ∈ enqueue q f := by
  rw [enqueue_eq]
  split
  · cases hx : x.prompt with
    | true => exact List.mem_append_left _ (List.mem_filter.2 ⟨h, hx⟩)
    | false => exact List.mem_append_right _ (List.mem_cons_of_mem _ (List.mem_filter.2 ⟨h, by simp [hx]⟩))
  · exact List.mem_append_left _ h

/-- What is named in a queue is named after `x` made place for a frame, unless `x` named it. -/
theorem namesRelease_displaced {a b : List QueueItem} {x : QueueItem} (f : OutFrame) {n : Nat}
    (h : namesRelease (a ++ x :: b) n) :
    namesRelease (enqueue (a ++ b) f) n ∨ ∃ segs, x.frame = .release segs ∧ n ∈ segs := by
  obtain ⟨y, hy, hl⟩ := h
  simp only [List.mem_append, List.mem_cons] at hy
  rcases hy with hy | rfl | hy
  · exact .inl ⟨y, mem_enqueue_of_mem f (List.mem_append_left _ hy), hl⟩
  · exact .inr hl
  · exact .inl ⟨y, mem_enqueue_of_mem f (List.mem_append_right _ hy), hl⟩

/-- The CLAIM of an unsent entry not sent takes LISTENING entries alone (R58). -/
theorem Station.spares_claimNotSent {s : Station} (n : Nat) (hn : (s.claims.entries.map (·.seg)).Nodup) :
    s.Spares (s.claimNotSent n) := by
  unfold Station.claimNotSent
  split
  · next e he =>
    split
    · next hl =>
      have hmem := List.mem_of_find?_eq_some he
      have hlist : e.state = .listening := by
        simp only [Bool.and_eq_true, decide_eq_true_eq] at hl
        exact hl.1
      refine ⟨fun x hx hs => ?_, ?_, ?_, fun k _ hk => ?_⟩
      · rw [Station.claims_tell]
        refine List.mem_filter.2 ⟨hx, ?_⟩
        have hne : x.seg ≠ e.seg := fun h => hs (List.inj_on_of_nodup_map hn hx hmem h ▸ hlist)
        simp [ClaimEntry.groupedWith, hne, hs]
      · rw [Station.claims_tell]
        exact List.filter_sublist.map _
      · rw [Station.claims_tell]
        rfl
      · rw [Station.releaseOut_iff] at hk ⊢
        rw [Station.claims_tell, Station.line_tell]
        exact hk.imp id namesRelease_takeBack
    · exact .refl s
  · exact .refl s

/-- The frame that makes place takes no HELD entry and no release with it (R58, R182). -/
theorem Station.spares_displaced {s : Station} {a b : List QueueItem} {x : QueueItem} (f : OutFrame)
    (hn : (s.claims.entries.map (·.seg)).Nodup) (hq : s.line.queue = a ++ x :: b) :
    s.Spares ((s.setQueue (enqueue (a ++ b) f)).displaced x) := by
  have hout : ∀ n, s.releaseOut n → s.claims.owed[n]? = some true ∨ namesRelease (enqueue (a ++ b) f) n ∨
      ∃ segs, x.frame = .release segs ∧ n ∈ segs := fun n h => by
    rw [Station.releaseOut_iff, hq] at h
    exact h.imp id (namesRelease_displaced f)
  have hstay : ∀ u : Station, u.claims = s.claims → u.line.queue = enqueue (a ++ b) f → (∀ l, x.frame ≠ .release l) →
      s.Spares u := fun u hc hu hx => by
    refine Station.spares_of (by rw [hc]) (by rw [hc]) fun n _ h => (Station.releaseOut_iff _ _).2 ?_
    rw [hc, hu]
    exact (hout n h).imp id fun h => h.resolve_right fun ⟨l, hl, _⟩ => hx l hl
  unfold Station.displaced
  split
  · next seg tag rank hx =>
    have hnot : ∀ l, x.frame ≠ .release l := fun l h => by
      rw [hx] at h
      exact nomatch h
    have hw := hstay (s.setQueue (enqueue (a ++ b) f)) rfl rfl hnot
    split
    · exact hw
    · have hc := Station.spares_claimNotSent (s := s.setQueue (enqueue (a ++ b) f)) seg hn
      exact ⟨hc.kept, hc.segs, hc.stamps, fun n h128 h => hc.out n h128 (hw.out n h128 h)⟩
  · next segs hx =>
    refine Station.spares_of rfl rfl fun n h128 h => (Station.releaseOut_iff _ _).2 ?_
    rw [Station.owed_setOwed]
    by_cases hm : n ∈ segs
    · exact .inl (if_pos ⟨hm, h128⟩)
    · rw [if_neg fun hc => hm hc.1]
      refine (hout n h).imp id fun h => h.resolve_right ?_
      rintro ⟨l, hl, hnl⟩
      rw [hx] at hl
      exact hm (OutFrame.release.inj hl ▸ hnl)
  · next hx => exact hstay _ rfl rfl fun l h => by rw [hx] at h; exact nomatch h
  · next hx => exact hstay _ rfl rfl fun l h => by rw [hx] at h; exact nomatch h
  · next hx =>
    refine hstay _ ?_ ?_ fun l h => by rw [hx] at h; exact nomatch h
    · unfold Station.oweClear
      split <;> rfl
    · rw [Station.line_oweClear]
      rfl
  · next h1 h2 h3 h4 h5 => exact hstay _ rfl rfl fun l h => h2 l h

theorem Station.spares_offer {s : Station} (f : OutFrame) (hn : (s.claims.entries.map (·.seg)).Nodup) :
    s.Spares (s.offer f).1 := by
  unfold Station.offer
  split
  · refine Station.spares_of rfl rfl fun n _ h => ?_
    rw [Station.releaseOut_iff] at h ⊢
    exact h.imp id fun h => namesRelease_of_subset h fun x hx => mem_enqueue_of_mem f hx
  · split
    · split
      · next x rest hd =>
        obtain ⟨a, b, hq, rfl, -⟩ := dropLastRoutine_some hd
        exact Station.spares_displaced f hn hq
      · exact .refl s
    · exact .refl s

theorem Station.Spares.released {v s u : Station} (h : s.Spares u) {n : Nat} (hr : v.released s n) : v.released u n := by
  obtain ⟨hl, hout⟩ := hr
  refine ⟨ClaimBlock.lists_of_sublist h.segs hl, fun h128 => ?_⟩
  obtain ⟨hst, ho⟩ := hout h128
  rw [h.stamps]
  exact ⟨hst, h.out n h128 ho⟩

/-- Where claims and queue stand, what is released does. -/
theorem Station.released_congr {v s u : Station} (hc : u.claims = s.claims) (hl : u.line = s.line) (n : Nat) :
    v.released u n ↔ v.released s n := by
  unfold Station.released Station.queues
  rw [hc, hl]

/-- What is released stays so through further requests (R66, R67). -/
theorem Station.released_more {v s : Station} {n : Nat} (l : List Nat) (h : v.released s n) :
    v.released (s.releaseAll l) n := by
  obtain ⟨hl, hout⟩ := h
  obtain ⟨h1, h2, h3⟩ := Station.unlisted_releaseAll l hl
  exact ⟨h1, fun h128 => ⟨h2.trans (hout h128).1, h3 (hout h128).2⟩⟩

/-! ## BACK entries that become BODY (R132, R133) -/

/-- An entry after BACK entries for `l` have taken purpose BODY. -/
def ClaimEntry.bodied (l : List Nat) (e : ClaimEntry) : ClaimEntry :=
  if e.purpose = .back && l.contains e.seg then { e with purpose := .body } else e

theorem ClaimEntry.bodied_keeps (l : List Nat) (e : ClaimEntry) :
    (e.bodied l).seg = e.seg ∧ (e.bodied l).state = e.state ∧ (e.purpose ≠ .back → e.bodied l = e) ∧
    (e.seg ∉ l → e.bodied l = e) ∧ (e.purpose = .back → e.seg ∈ l → e.bodied l = { e with purpose := .body }) := by
  unfold ClaimEntry.bodied
  refine ⟨?_, ?_, fun h => if_neg (by simp [h]), fun h => if_neg (by simp [h]), fun h hl => if_pos (by simp [h, hl])⟩
  · split <;> rfl
  · split <;> rfl

theorem Station.entries_backToBody (s : Station) (l : List Nat) :
    (s.backToBody l).claims.entries = s.claims.entries.map (·.bodied l) := rfl

theorem Station.segs_backToBody (s : Station) (l : List Nat) :
    (s.backToBody l).claims.entries.map (·.seg) = s.claims.entries.map (·.seg) := by
  rw [Station.entries_backToBody, List.map_map]
  exact List.map_congr_left fun e _ => (e.bodied_keeps l).1

theorem Station.released_backToBody {v s : Station} {n : Nat} (l : List Nat) (h : v.released s n) :
    v.released (s.backToBody l) n :=
  ⟨ClaimBlock.lists_of_sublist (by rw [s.segs_backToBody l]) h.1, h.2⟩

/-- BACK entries for `l` become BODY, and `k` is asked back (R132, R133). -/
def Station.unwound (s : Station) (l k : List Nat) : Station := (s.backToBody l).releaseAll k

theorem Station.unwound_bare (s : Station) (l k : List Nat) : (s.unwound l k).bare = s.bare :=
  (Station.bare_releaseAll _ _).trans (Station.bare_backToBody _ _)

theorem Station.segs_unwound (s : Station) (l k : List Nat) :
    ((s.unwound l k).claims.entries.map (·.seg)).Sublist (s.claims.entries.map (·.seg)) :=
  (Station.segs_releaseAll _ _).trans (by rw [s.segs_backToBody])

theorem ClaimEntry.not_listening {e : ClaimEntry} (h : e.holding = true) : e.state ≠ .listening := fun hs => by
  simp [ClaimEntry.holding, hs] at h

/-- What becomes of an entry that is HELD or YIELDING, where nothing but BACK entries is asked back (R66, R132, R133). -/
theorem Station.unwound_entry {s : Station} (l : List Nat) {k : List Nat} (hn : (s.claims.entries.map (·.seg)).Nodup)
    (hk : ∀ x ∈ (s.backToBody l).claims.entries, x.seg ∈ k → x.purpose = .back) {e : ClaimEntry}
    (he : e ∈ s.claims.entries) (hs : e.state ≠ .listening) :
    (e.purpose = .back → e.seg ∈ l → { e with purpose := .body } ∈ (s.unwound l k).claims.entries) ∧
    (e.purpose = .back → e.seg ∉ l → e.seg ∈ k → e.state = .held → s.released (s.unwound l k) e.seg) ∧
    (e.purpose ≠ .back → e ∈ (s.unwound l k).claims.entries) := by
  obtain ⟨hseg, hstate, hother, hout, hin⟩ := e.bodied_keeps l
  have hmem : e.bodied l ∈ (s.backToBody l).claims.entries := List.mem_map_of_mem he
  have hn' : ((s.backToBody l).claims.entries.map (·.seg)).Nodup := by
    rw [s.segs_backToBody l]
    exact hn
  have hkept : (e.bodied l).purpose ≠ .back → e.bodied l ∈ (s.unwound l k).claims.entries := fun hp =>
    Station.kept_releaseAll _ hmem (by rw [hstate]; exact hs) fun h => hp (hk _ hmem h)
  refine ⟨fun hp hl => ?_, fun hp hl hm hheld => ?_, fun hp => ?_⟩
  · rw [hin hp hl] at hkept
    exact hkept (by simp)
  · rw [hout hl] at hmem
    exact Station.released_releaseAll k hn' hmem hheld (by rw [hp]; decide) hm
  · rw [hother hp] at hkept
    exact hkept hp

theorem Station.mem_backEntries {s : Station} (hn : (s.claims.entries.map (·.seg)).Nodup) {m : List Nat} {e : ClaimEntry}
    (he : e ∈ s.claims.entries) : e.seg ∈ s.backEntries m ↔ e.purpose = .back ∧ e.seg ∈ m := by
  unfold Station.backEntries
  rw [List.mem_map]
  constructor
  · rintro ⟨x, hx, hxs⟩
    obtain ⟨hxl, hxp⟩ := List.mem_filter.1 hx
    obtain rfl := List.inj_on_of_nodup_map hn hxl he hxs
    simpa using hxp
  · exact fun h => ⟨e, List.mem_filter.2 ⟨he, by simpa using h⟩, rfl⟩

/-! ## The record goes (R132, R133) -/

/-- The direction of the order is asked for again, and the record goes. -/
def Station.led (s : Station) (b : Backing) : Station := (s.freshStop.requestDirection b.forward).leaveBacking b

theorem Station.leaveBacking_keeps (s : Station) (b : Backing) :
    (s.leaveBacking b).claims = s.claims ∧ (s.leaveBacking b).line = s.line ∧ (s.leaveBacking b).trail = s.trail ∧
    (s.leaveBacking b).backing = none ∧ (s.leaveBacking b).order.state = b.origin ∧ (s.leaveBacking b).pos = s.pos := by
  unfold Station.leaveBacking
  dsimp only
  split <;> exact ⟨rfl, rfl, rfl, rfl, rfl, rfl⟩

theorem Station.led_spec (s : Station) (b : Backing) :
    (s.led b).claims = s.claims ∧ (s.led b).line = s.line ∧ (s.led b).trail = s.trail ∧ (s.led b).backing = none ∧
    (s.led b).order.state = b.origin ∧ (s.effective = 0 → (s.led b).pos.dir = b.forward) := by
  obtain ⟨hclaims, hline, htrail, hback, hstate, hpos⟩ := (s.freshStop.requestDirection b.forward).leaveBacking_keeps b
  refine ⟨hclaims.trans (Station.requestDirection_claims _ _), hline.trans ?_,
    htrail.trans (Station.requestDirection_trail _ _), hback, hstate, fun h0 => ?_⟩
  · rw [Station.requestDirection_eq]
    rfl
  · exact (congrArg Position.dir hpos).trans (Station.requestDirection_now (s := s.freshStop) (.inr h0)).1

/-! ## A backing that fails (R132) -/

/-- The list and the trail stack of a backing that fails, before its asker is told. -/
def Station.failed (s : Station) (b : Backing) : Station :=
  let w := s.unwound (b.segs (·.entered))
    ((s.backToBody (b.segs (·.entered))).backEntries (b.segs fun p => !p.entered && !p.listedBefore))
  w.withTrail (pushBack w.trail (b.segs fun p => !p.entered))

/-- Its asker is told OCCUPIED, unless it has its segment. -/
def Station.failedTold (s : Station) (b : Backing) : Station :=
  if b.released then s.failed b else (s.failed b).object b.seg .occupied (s.failed b).plainRank b.asker

theorem Station.failBacking_eq (s : Station) (b : Backing) : s.failBacking b = (s.failedTold b).led b := rfl

theorem Backing.mem_segs {b : Backing} {p : Popped → Bool} {n : Nat} :
    n ∈ b.segs p ↔ ∃ x ∈ b.popped, x.seg = n ∧ p x = true := by
  unfold Backing.segs
  simp only [List.mem_map, List.mem_filter]
  exact ⟨fun ⟨x, ⟨hx, hp⟩, hs⟩ => ⟨x, hx, hs, hp⟩, fun ⟨x, hx, hs, hp⟩ => ⟨x, ⟨hx, hp⟩, hs⟩⟩

theorem Station.spares_failedTold {s : Station} (b : Backing) (hn : (s.claims.entries.map (·.seg)).Nodup) :
    (s.failed b).Spares (s.failedTold b) := by
  unfold Station.failedTold
  split
  · exact .refl _
  · refine Station.spares_offer _ (List.Nodup.sublist ?_ hn)
    exact s.segs_unwound _ _

theorem Station.failedTold_keeps (s : Station) (b : Backing) :
    (s.failedTold b).trail = pushBack s.trail (b.segs fun p => !p.entered) ∧ (s.failedTold b).effective = s.effective := by
  have htold : (s.failedTold b).bare = (s.failed b).bare := by
    unfold Station.failedTold
    split
    · rfl
    · exact Station.bare_object _ _ _ _ _
  have hbare := s.unwound_bare (b.segs (·.entered))
    ((s.backToBody (b.segs (·.entered))).backEntries (b.segs fun p => !p.entered && !p.listedBefore))
  refine ⟨(Station.field_of_bare (·.trail) (fun _ => rfl) htold).trans ?_,
    (Station.field_of_bare Station.effective (fun _ => rfl) htold).trans ?_⟩
  · exact congrArg (pushBack · _) (Station.field_of_bare (·.trail) (fun _ => rfl) hbare)
  · exact (Station.field_of_bare Station.effective (fun _ => rfl) hbare :)

/-- What a backing that fails leaves (R132). -/
theorem Station.failBacking_spec {v : Station} (b : Backing) (hn : (v.claims.entries.map (·.seg)).Nodup) :
    (v.failBacking b).backing = none ∧ (v.failBacking b).order.state = b.origin ∧
    (∀ e ∈ v.claims.entries, e.purpose = .back → e.holding = true → (∃ p ∈ b.popped, p.seg = e.seg ∧ p.entered = true) →
      { e with purpose := .body } ∈ (v.failBacking b).claims.entries) ∧
    (∀ e ∈ v.claims.entries, e.purpose = .back → e.state = .held →
      (∃ p ∈ b.popped, p.seg = e.seg ∧ p.listedBefore = false) → (∀ p ∈ b.popped, p.seg = e.seg → p.entered = false) →
      v.released (v.failBacking b) e.seg) ∧
    (∀ e ∈ v.claims.entries, e.purpose ≠ .back → e.holding = true → e ∈ (v.failBacking b).claims.entries) ∧
    (v.failBacking b).trail = (((b.popped.filter fun p => !p.entered).map (·.seg)) ++ v.trail).take 8 ∧
    (v.effective = 0 → (v.failBacking b).pos.dir = b.forward) ∧
    (b.released = false → v.line.queue.length < 8 →
      (v.failBacking b).queues (.object b.seg .occupied v.plainRank b.asker)) := by
  obtain ⟨hclaims, hline, htrail, hback, hstate, hdir⟩ := (v.failedTold b).led_spec b
  have hspares := Station.spares_failedTold b hn
  obtain ⟨htrail', heff⟩ := v.failedTold_keeps b
  have hn' : ((v.backToBody (b.segs (·.entered))).claims.entries.map (·.seg)).Nodup := by
    rw [v.segs_backToBody]
    exact hn
  have hentry := fun (e : ClaimEntry) he hs => Station.unwound_entry (e := e) (b.segs (·.entered))
    (k := (v.backToBody (b.segs (·.entered))).backEntries (b.segs fun p => !p.entered && !p.listedBefore)) hn
    (fun x hx hm => ((Station.mem_backEntries hn' hx).1 hm).1) he hs
  rw [Station.failBacking_eq, hclaims]
  refine ⟨hback, hstate, fun e he hp hh hx => ?_, fun e he hp hs hx hno => ?_, fun e he hp hh => ?_, ?_, fun h0 => ?_,
    fun hr hq => ?_⟩
  · refine hspares.kept _ ((hentry e he (ClaimEntry.not_listening hh)).1 hp (Backing.mem_segs.2 hx)) (ClaimEntry.not_listening hh)
  · rw [Station.released_congr hclaims hline]
    have hout : e.seg ∉ b.segs (·.entered) := fun hm => by
      obtain ⟨p, hpm, hps, hpe⟩ := Backing.mem_segs.1 hm
      exact absurd (hpe.symm.trans (hno p hpm hps)) (by decide)
    have hback : e.seg ∈ (v.backToBody (b.segs (·.entered))).backEntries (b.segs fun p => !p.entered && !p.listedBefore) := by
      obtain ⟨p, hpm, hps, hpl⟩ := hx
      have hmem : e ∈ (v.backToBody (b.segs (·.entered))).claims.entries := by
        have := List.mem_map_of_mem (f := (·.bodied (b.segs (·.entered)))) he
        rwa [(e.bodied_keeps _).2.2.2.1 hout] at this
      exact (Station.mem_backEntries hn' hmem).2 ⟨hp, Backing.mem_segs.2 ⟨p, hpm, hps, by simp [hno p hpm hps, hpl]⟩⟩
    exact hspares.released ((hentry e he (by rw [hs]; decide)).2.1 hp hout hback hs)
  · exact hspares.kept e ((hentry e he (ClaimEntry.not_listening hh)).2.2 hp) (ClaimEntry.not_listening hh)
  · rw [htrail, htrail']
    rfl
  · exact hdir (heff.trans h0)
  · have hrank : (v.failed b).plainRank = v.plainRank :=
      congrArg (fun n => (⟨n, false⟩ : Rank)) (Station.wait_releaseAll _ _)
    have hroom : TakesPrompt (v.failed b).line.queue :=
      takesPrompt_releaseAll (s := v.backToBody _) _ (takesPrompt_of_room hq)
    unfold Station.queues
    rw [hline]
    have htold : v.failedTold b = ((v.failed b).offer (.object b.seg .occupied v.plainRank b.asker)).1 := by
      rw [← hrank]
      exact if_neg (by simp [hr])
    rw [htold]
    exact Station.queues_offered rfl (fun _ => rfl) hroom

/-! ## A backing that succeeds (R133) -/

/-- The BACK entries under the guarded extent, or beyond it. -/
def Station.backUnder (s : Station) (under : Bool) : List Nat :=
  (s.claims.entries.filter fun e => e.purpose = .back && (s.overlaps e.seg == under)).map (·.seg)

theorem Station.mem_backUnder {s : Station} (hn : (s.claims.entries.map (·.seg)).Nodup) {e : ClaimEntry}
    (he : e ∈ s.claims.entries) (x : Bool) : e.seg ∈ s.backUnder x ↔ e.purpose = .back ∧ s.overlaps e.seg = x := by
  unfold Station.backUnder
  rw [List.mem_map]
  constructor
  · rintro ⟨y, hy, hys⟩
    obtain ⟨hyl, hyp⟩ := List.mem_filter.1 hy
    obtain rfl := List.inj_on_of_nodup_map hn hyl he hys
    simpa using hyp
  · exact fun h => ⟨e, List.mem_filter.2 ⟨he, by simpa using h⟩, rfl⟩

/-- The list and the trail stack of a backing that succeeds. -/
def Station.finished (s : Station) (b : Backing) : Station :=
  let w := s.unwound (s.backUnder true) (s.backUnder false)
  w.withTrail (pushBack w.trail (b.segs fun p => !w.overlaps p.seg))

theorem Station.finishBacking_eq (s : Station) (b : Backing) : s.finishBacking b = (s.finished b).led b := by
  have h : ∀ x, s.backUnder x = (s.claims.entries.filter fun e => e.purpose = .back && (s.overlaps e.seg == x)).map (·.seg) :=
    fun _ => rfl
  unfold Station.finishBacking Station.finished Station.unwound Station.led
  rw [h, h]
  simp only [beq_true, beq_false]

/-- What a backing that succeeds leaves (R133). -/
theorem Station.finishBacking_spec {v : Station} (b : Backing) (hn : (v.claims.entries.map (·.seg)).Nodup) :
    (v.finishBacking b).backing = none ∧ (v.finishBacking b).order.state = b.origin ∧
    (v.effective = 0 → (v.finishBacking b).pos.dir = b.forward) ∧
    (∀ e ∈ v.claims.entries, e.state ≠ .listening →
      (e.purpose = .back → v.overlaps e.seg = true → { e with purpose := .body } ∈ (v.finishBacking b).claims.entries) ∧
      (e.purpose = .back → v.overlaps e.seg = false → e.state = .held → v.released (v.finishBacking b) e.seg) ∧
      (e.purpose ≠ .back → e ∈ (v.finishBacking b).claims.entries)) ∧
    (v.finishBacking b).trail = (((b.popped.filter fun p => !v.overlaps p.seg).map (·.seg)) ++ v.trail).take 8 ∧
    ∀ w n, Station.released w v n → w.released (v.finishBacking b) n := by
  obtain ⟨hclaims, hline, htrail, hback, hstate, hdir⟩ := (v.finished b).led_spec b
  have hbare := v.unwound_bare (v.backUnder true) (v.backUnder false)
  have hk : ∀ x ∈ (v.backToBody (v.backUnder true)).claims.entries, x.seg ∈ v.backUnder false → x.purpose = .back := by
    intro x hx hm
    rw [Station.entries_backToBody] at hx
    obtain ⟨e, he, rfl⟩ := List.mem_map.1 hx
    obtain ⟨hseg, -, -, hout, -⟩ := e.bodied_keeps (v.backUnder true)
    rw [hseg] at hm
    obtain ⟨hp, ho⟩ := (Station.mem_backUnder hn he false).1 hm
    rw [hout fun h => by rw [((Station.mem_backUnder hn he true).1 h).2] at ho; exact nomatch ho]
    exact hp
  rw [Station.finishBacking_eq, hclaims]
  refine ⟨hback, hstate, fun h0 => hdir ?_, fun e he hs => ?_, ?_, fun w n hr => ?_⟩
  · exact (Station.field_of_bare Station.effective (fun _ => rfl) hbare :).trans h0
  · obtain ⟨hbody, hrel, hkeep⟩ := Station.unwound_entry (v.backUnder true) hn hk he hs
    refine ⟨fun hp ho => hbody hp ((Station.mem_backUnder hn he true).2 ⟨hp, ho⟩), fun hp ho hh => ?_, hkeep⟩
    rw [Station.released_congr hclaims hline]
    refine hrel hp (fun h => ?_) ((Station.mem_backUnder hn he false).2 ⟨hp, ho⟩) hh
    rw [((Station.mem_backUnder hn he true).1 h).2] at ho
    exact nomatch ho
  · have hover : (v.unwound (v.backUnder true) (v.backUnder false)).overlaps = v.overlaps :=
      Station.field_of_bare Station.overlaps (fun _ => rfl) hbare
    have ht : (v.unwound (v.backUnder true) (v.backUnder false)).trail = v.trail :=
      Station.field_of_bare (·.trail) (fun _ => rfl) hbare
    rw [htrail]
    unfold Station.finished
    dsimp only
    rw [hover, ht]
    rfl
  · rw [Station.released_congr hclaims hline]
    exact Station.released_more _ (Station.released_backToBody _ hr)

/-! ## While the record stands (R130, R131) -/

/-- The release test of R131 for a segment that stands in the list. -/
theorem Station.backingRelease_listed {v : Station} {b : Backing} {g : SegmentSlot} {e : ClaimEntry} (hb : v.backing = some b)
    (hr : b.released = false) (he : v.claims.entry? b.seg = some e) (hg : v.map.segment? b.seg = some g) :
    v.backingRelease = if v.pos.frame = .line ∧ v.clearedBy b g = true then
      (v.releaseRequest b.seg).setBacking { b with released := true } else v := by
  have hl : v.claims.lists b.seg = true :=
    List.any_eq_true.2 ⟨e, List.mem_of_find?_eq_some he, by simpa using List.find?_some he⟩
  unfold Station.backingRelease
  rw [hb]
  dsimp only
  rw [if_neg (by simp [hr]), if_neg (by simp [hl]), hg, Option.any_some]
  simp only [Bool.and_eq_true, decide_eq_true_eq]

theorem Station.clearedBy_iff (v : Station) (b : Backing) (g : SegmentSlot) : v.clearedBy b g = true ↔
    (b.forward = .up → v.guardedHi ≤ g.base - v.par.margin) ∧
    (b.forward = .down → g.stop + v.par.margin ≤ v.guardedLo) := by
  unfold Station.clearedBy
  cases b.forward <;> simp

/-- A HELD segment asked back is released (R66). -/
theorem Station.released_request {v : Station} {e : ClaimEntry} {n : Nat} (hn : (v.claims.entries.map (·.seg)).Nodup)
    (he : v.claims.entry? n = some e) (hs : e.state = .held) (hd : e.purpose ≠ .deck) :
    v.released (v.releaseRequest n) n := by
  have hseg : e.seg = n := by simpa using List.find?_some he
  have h := Station.released_releaseAll [n] hn (List.mem_of_find?_eq_some he) hs hd (by simp [hseg])
  rwa [hseg] at h

/-! ## The cases of R130 -/

/-- One evaluation in BACKING with no release to make and its marks up to date (R130, R136). -/
theorem Station.backingEval_cases {v : Station} {b : Backing} (hb : v.backing = some b) (hs : v.order.state = .backing)
    (hr : v.backingRelease = v) (hm : v.markEntered = v) :
    v.backingEval = if v.env.latch = true ∧ v.lostTrack b = true then v
      else if b.claimLost = true ∨ v.lostPopped b = true then v.failBacking b else v.backingCases 9 := by
  unfold Station.backingEval
  rw [hr, hm]
  dsimp only
  rw [hb]
  dsimp only
  rw [if_neg (by simp [hs])]
  simp only [Bool.and_eq_true, Bool.or_eq_true]

theorem Station.backingCases_eq {v : Station} {b : Backing} (hb : v.backing = some b) (n : Nat) :
    v.backingCases (n + 1) =
      if (v.wantedBack b).all v.claims.holds then v
      else if b.popped.any fun p => v.claims.listens p.seg then v
      else match b.popped.find? fun p => !p.claimed && !p.listedBefore with
        | some p => v.askBack b p.seg
        | none =>
          match v.trail with
          | [] => v.failBacking b
          | top :: rest =>
            if v.claims.lists top then
              Station.backingCases n ((v.withTrail rest).setBacking
                { b with popped := b.popped ++ [{ seg := top, listedBefore := true, entered := v.overlaps top }] })
            else
              let b1 := { b with popped := b.popped ++ [{ seg := top, entered := v.overlaps top }] }
              let s2 := (v.withTrail rest).setBacking b1
              if (v.wantedBack b).contains top then s2.askBack b1 top else s2.failBacking b1 := by
  conv_lhs => unfold Station.backingCases
  rw [hb] <;> rfl

/-- The top of the stack popped and asked for, its CLAIM queued (R57, R130). -/
theorem Station.askBack_room {v : Station} (b : Backing) {n : Nat} (h : v.claimTest n 1 = none)
    (hq : v.line.queue.length < 8) : v.askBack b n = (v.claimMade .back .backing 0 n).setBacking (b.setClaimed n) := by
  unfold Station.askBack
  rw [Station.claim_room .back .backing h hq]

theorem Backing.setClaimed_last {b : Backing} {p : Popped} (h : ∀ x ∈ b.popped, x.seg ≠ p.seg) :
    ({ b with popped := b.popped ++ [p] } : Backing).setClaimed p.seg =
      { b with popped := b.popped ++ [{ p with claimed := true }] } := by
  have hmap : b.popped.map (fun x => if x.seg = p.seg then { x with claimed := true } else x) = b.popped :=
    (List.map_congr_left fun x hx => if_neg (h x hx)).trans (List.map_id _)
  unfold Backing.setClaimed
  dsimp only
  rw [List.map_append, hmap, List.map_singleton, if_pos rfl]

theorem Station.leftEarly_iff (v : Station) (p : Popped) : v.leftEarly p = true ↔
    p.entered = false ∧ (p.claimed = true ∨ p.listedBefore = true) ∧ v.claims.lists p.seg = false := by
  simp [Station.leftEarly, and_assoc]

theorem Station.lostPopped_iff (v : Station) (b : Backing) : v.lostPopped b = true ↔
    ∃ p ∈ b.popped, p.entered = false ∧ (p.claimed = true ∨ p.listedBefore = true) ∧ v.claims.lists p.seg = false := by
  unfold Station.lostPopped
  simp only [List.any_eq_true, v.leftEarly_iff]

theorem Station.lostTrack_iff (v : Station) (b : Backing) : v.lostTrack b = true ↔
    ∃ p ∈ b.popped, p.lost = true ∨ ((p.claimed = true ∨ p.listedBefore = true) ∧ v.claims.lists p.seg = false) := by
  simp [Station.lostTrack]

/-- The cases of R130 for a backing that wants a segment it does not hold and listens for none. -/
theorem Station.backingCases_next {v : Station} {b : Backing} (hb : v.backing = some b)
    (hw : ∃ n ∈ v.wantedBack b, v.claims.holds n = false) (hl : ∀ p ∈ b.popped, v.claims.listens p.seg = false) :
    (∀ p, (b.popped.find? fun x => !x.claimed && !x.listedBefore) = some p → v.backingCases 9 = v.askBack b p.seg) ∧
    ((∀ p ∈ b.popped, p.claimed = true ∨ p.listedBefore = true) →
      (v.trail = [] → v.backingCases 9 = v.failBacking b) ∧
      (∀ top rest, v.trail = top :: rest → v.claims.lists top = false →
        v.backingCases 9 =
          let b1 := { b with popped := b.popped ++ [{ seg := top, entered := v.overlaps top }] }
          let s2 := (v.withTrail rest).setBacking b1
          if (v.wantedBack b).contains top then s2.askBack b1 top else s2.failBacking b1)) := by
  have heq := Station.backingCases_eq hb 8
  rw [if_neg (by
    obtain ⟨n, hn, hh⟩ := hw
    simp only [List.all_eq_true, not_forall]
    exact ⟨n, hn, by simp [hh]⟩), if_neg (by simpa using hl)] at heq
  refine ⟨fun p hp => ?_, fun hall => ?_⟩
  · rw [heq, hp]
  · have hnone : (b.popped.find? fun x => !x.claimed && !x.listedBefore) = none := by
      rw [List.find?_eq_none]
      intro p hp
      obtain h | h := hall p hp <;> simp [h]
    rw [hnone] at heq
    dsimp only at heq
    refine ⟨fun ht => ?_, fun top rest ht htop => ?_⟩
    · rw [heq, ht]
    · rw [ht] at heq
      dsimp only at heq
      rw [if_neg (by simp [htop])] at heq
      exact heq

/-- Settles O40. -/
theorem backingAdvancesAndEnds : Obligations.BackingAdvancesAndEnds := by
  intro v b hbound hb
  have hn := hbound.2.1
  refine ⟨fun g e hr he hg => ?_, fun hs => if_pos hs, fun hs => ?_, fun hs hrel hmark => ?_, Station.failBacking_spec b hn, ?_⟩
  · intro u
    have hu : u = _ := Station.backingRelease_listed hb hr he hg
    have hclear := v.clearedBy_iff b g
    refine ⟨fun hc => ?_, fun hc => ?_⟩
    · rw [if_pos ⟨hc.1, hclear.2 hc.2⟩] at hu
      rw [hu]
      exact ⟨rfl, fun hh hd => Station.released_request hn he hh hd⟩
    · rw [if_neg] at hu
      · exact hu
      · rintro ⟨hf, hcl⟩
        obtain ⟨hup, hdown⟩ := hclear.1 hcl
        obtain h | ⟨hd, h⟩ | ⟨hd, h⟩ := hc
        · exact h hf
        · exact absurd (hup hd) (not_le.2 h)
        · exact absurd (hdown hd) (not_le.2 h)
  · unfold Station.markEntered
    rw [if_neg hs, Station.withBacking_backing, hb, Option.map_some]
    have hmap : b.popped.map (fun p => if v.overlaps p.seg && !v.leftEarly p then { p with entered := true } else p) =
        b.popped.map fun p => if v.overlaps p.seg = true ∧ ¬(p.entered = false ∧ (p.claimed = true ∨ p.listedBefore = true) ∧
          v.claims.lists p.seg = false) then { p with entered := true } else p := by
      refine List.map_congr_left fun p _ => ?_
      have hleft := v.leftEarly_iff p
      by_cases h : v.overlaps p.seg = true ∧ ¬(p.entered = false ∧ (p.claimed = true ∨ p.listedBefore = true) ∧
          v.claims.lists p.seg = false)
      · rw [if_pos h, if_pos]
        simpa [h.1] using mt hleft.1 h.2
      · rw [if_neg h, if_neg]
        intro hc
        simp only [Bool.and_eq_true, Bool.not_eq_true'] at hc
        exact h ⟨hc.1, fun h => by rw [hleft.2 h] at hc; exact nomatch hc.2⟩
    rw [hmap]
  · intro u gone held
    have hu : u = _ := Station.backingEval_cases hb hs hrel hmark
    have hheld : v.env.latch = true ∧ v.lostTrack b = true ↔ held := and_congr_right fun _ => v.lostTrack_iff b
    have hgone : v.lostPopped b = true ↔ gone := v.lostPopped_iff b
    have hlost : b.claimLost = true ↔ ∃ p ∈ b.popped, p.lost = true := List.any_eq_true
    refine ⟨fun h => ?_, fun hnh h => ?_, fun hnh hnl hng => ?_⟩
    · rw [if_pos (hheld.2 h)] at hu
      exact hu
    · rw [if_neg (mt hheld.1 hnh), if_pos (h.imp hlost.2 hgone.2)] at hu
      exact hu
    · have hnol : ¬b.claimLost = true := fun h => by
        obtain ⟨p, hp, hpl⟩ := hlost.1 h
        rw [hnl p hp] at hpl
        exact nomatch hpl
      rw [if_neg (mt hheld.1 hnh), if_neg (not_or.2 ⟨hnol, mt hgone.1 hng⟩)] at hu
      refine ⟨fun hall => ?_, fun hw => ⟨fun hl => ?_, fun hl => ?_⟩⟩
      · rw [hu, Station.backingCases_eq hb 8, if_pos (List.all_eq_true.2 hall)]
      · rw [hu, Station.backingCases_eq hb 8, if_neg, if_pos (List.any_eq_true.2 hl)]
        obtain ⟨n, hn, hh⟩ := hw
        simp only [List.all_eq_true, not_forall]
        exact ⟨n, hn, by simp [hh]⟩
      · obtain ⟨hask, hpop⟩ := Station.backingCases_next hb hw hl
        refine ⟨fun p hp => hu.trans (hask p hp), fun hall => ?_⟩
        obtain ⟨hempty, htop⟩ := hpop hall
        refine ⟨fun ht => hu.trans (hempty ht), fun top rest ht hlt hnw => ?_, fun top rest ht hlt hne hw1 htest hq => ?_⟩
        · rw [hu, htop top rest ht hlt]
          dsimp only
          rw [if_neg (by simpa using hnw)]
          obtain ⟨-, -, -, hback, hstate, -⟩ := (Station.failedTold ((v.withTrail rest).setBacking
            { b with popped := b.popped ++ [{ seg := top, entered := v.overlaps top }] })
            { b with popped := b.popped ++ [{ seg := top, entered := v.overlaps top }] }).led_spec
            { b with popped := b.popped ++ [{ seg := top, entered := v.overlaps top }] }
          exact ⟨hback, hstate⟩
        · rw [hu, htop top rest ht hlt]
          dsimp only
          rw [if_pos (by simpa using hw1), Station.askBack_room (v := (v.withTrail rest).setBacking _) _ htest hq,
            Backing.setClaimed_last (p := { seg := top, entered := v.overlaps top }) hne]
          exact ⟨rfl, rfl, rfl, v.newClaim 0 top, List.mem_append_right _ (List.mem_singleton_self _), rfl⟩
  · intro u
    have hu : u = if b.released = true then v.finishBacking b else if v.overlaps b.seg = true then v.failBacking b
        else (v.releaseRequest b.seg).finishBacking { b with released := true } := by
      dsimp only [u]
      unfold Station.arriveBacking
      rw [hb]
    have hbare := v.bare_releaseRequest b.seg
    have hn' : ((v.releaseRequest b.seg).claims.entries.map (·.seg)).Nodup := hn.sublist (v.segs_releaseRequest b.seg)
    have hfirst : b.released = false → v.overlaps b.seg = false →
        u = (v.releaseRequest b.seg).finishBacking { b with released := true } := fun hr ho => by
      rw [hu, if_neg (by simp [hr]), if_neg (by simp [ho])]
    refine ⟨fun hr ho => ?_, fun hr ho e he hh hd => ?_, fun h => ?_⟩
    · rw [hu, if_neg (by simp [hr]), if_pos ho]
    · obtain ⟨-, -, -, -, -, hkeep⟩ := Station.finishBacking_spec { b with released := true } hn'
      rw [hfirst hr ho]
      exact hkeep v b.seg (Station.released_request hn he hh hd)
    · cases hr : b.released with
      | true =>
        obtain ⟨hback, hstate, hdir, hentry, htrail, -⟩ := Station.finishBacking_spec b hn
        rw [hu, if_pos hr]
        exact ⟨hback, hstate, hdir, fun e he hh _ => hentry e he (ClaimEntry.not_listening hh), htrail⟩
      | false =>
        have ho := h.resolve_left (by simp [hr])
        obtain ⟨hback, hstate, hdir, hentry, htrail, -⟩ := Station.finishBacking_spec { b with released := true } hn'
        have hover : (v.releaseRequest b.seg).overlaps = v.overlaps := Station.field_of_bare Station.overlaps (fun _ => rfl) hbare
        have heff : (v.releaseRequest b.seg).effective = v.effective :=
          Station.field_of_bare Station.effective (fun _ => rfl) hbare
        have htr : (v.releaseRequest b.seg).trail = v.trail := Station.field_of_bare (·.trail) (fun _ => rfl) hbare
        have hms : (v.releaseRequest b.seg).released = v.released := by
          unfold Station.released
          rw [Station.ms_of_bare hbare]
        rw [hover, hms] at hentry
        rw [hover, htr] at htrail
        rw [heff] at hdir
        rw [hfirst hr ho]
        refine ⟨hback, hstate, hdir, fun e he hh hne => ?_, htrail⟩
        exact hentry e ((Station.keepsHeld_releaseRequest (.inl (hne.resolve_right (by simp)))).held e he rfl
          (ClaimEntry.not_listening hh)) (ClaimEntry.not_listening hh)

end Sys2Proof.Machine
end

section
/-! PROOFS. One evaluation of the turntable unit: guards, rotation, GRANT, EXIT and the return to IDLE (R157–R167). -/

namespace Sys2Proof.Machine

/-! ## The parts of an evaluation -/

/-- What an evaluation does once marks, offers and a fault that clears itself have been looked at (R157). -/
theorem Station.ttEval_eq {v w : Station} (h : v.turning = true) (hw : v.releaseDone.reoffer.selfClear = w) :
    v.ttEval = match w.tt.deck with
      | .idle => w.serve
      | .claiming => w.claimGuards
      | .aboard =>
        match w.tt.holder with
        | some x => if w.line.fault then w else w.beginClaim x.exitArm .exit
        | none => w
      | .awaitExit => if w.inputs.deckClear && w.holderGone then w.deckIdle else w
      | _ => w := by
  subst hw
  exact if_pos h

/-- Only the mark of releases pending may change first. -/
theorem Station.releaseDone_eq (v : Station) : ∃ p, v.releaseDone = v.withTt { v.tt with releasePending := p } ∧
    (v.tt.releasePending = false → p = false) ∧ (v.guardReleaseOpen = true → p = v.tt.releasePending) := by
  unfold Station.releaseDone
  split
  · next h =>
    simp only [Bool.and_eq_true, Bool.not_eq_true'] at h
    exact ⟨false, rfl, fun _ => rfl, fun ho => by rw [ho] at h; exact nomatch h.2⟩
  · exact ⟨v.tt.releasePending, rfl, id, fun _ => rfl⟩

theorem Station.releaseDone_none {v : Station} (h : v.tt.releasePending = false) : v.releaseDone = v := by
  obtain ⟨p, hp, hf, -⟩ := v.releaseDone_eq
  rw [hp, hf h, ← h]
  rfl

theorem Station.releaseDone_open {v : Station} (h : v.guardReleaseOpen = true) : v.releaseDone = v := by
  obtain ⟨p, hp, -, ho⟩ := v.releaseDone_eq
  rw [hp, ho h]
  rfl

theorem Station.selfClear_not {v : Station} (h : v.tt.deck ≠ .fault ∨ v.tt.reason ≠ .noArm ∨ v.tt.holder ≠ none ∨
    v.inputs.rotationFault = true ∨ v.inputs.armAligned = none) : v.selfClear = v := by
  unfold Station.selfClear
  split
  · next a ha =>
    refine if_neg ?_
    simp only [Bool.and_eq_true, decide_eq_true_eq, Bool.not_eq_true', Option.isNone_iff_eq_none]
    rintro ⟨⟨⟨hd, hr⟩, hh⟩, hf⟩
    obtain h | h | h | h | h := h
    · exact h hd
    · exact h hr
    · exact h hh
    · rw [hf] at h
      exact nomatch h
    · rw [ha] at h
      exact nomatch h
  · rfl

theorem Station.selfClear_now {v : Station} {a : Nat} (hd : v.tt.deck = .fault) (hr : v.tt.reason = .noArm)
    (hh : v.tt.holder = none) (hf : v.inputs.rotationFault = false) (ha : v.inputs.armAligned = some a) :
    v.selfClear = v.leaveFault a := by
  unfold Station.selfClear
  rw [ha]
  exact if_pos (by simp [hd, hr, hh, hf])

/-! ## A TURN-ANSWER offered (R160, R163) -/

/-- A frame taken that is no CLAIM is queued (R181, R182). -/
theorem Station.queues_taken {s : Station} {f : OutFrame} (hc : ∀ l, OutFrame.claims l f = false)
    (h : (s.offer f).2 = true) : (s.offer f).1.queues f := by
  unfold Station.offer at h ⊢
  split
  · exact s.queues_enqueue _ _
  · next hq =>
    rw [if_neg hq] at h
    split
    · next hp =>
      rw [if_pos hp] at h
      split
      · exact Station.queues_displaced hc (s.queues_enqueue _ _)
      · next hd =>
        rw [hd] at h
        exact nomatch h
    · next hp =>
      rw [if_neg hp] at h
      exact nomatch h

/-- What offering the GRANT leaves of the deck, and whether it is queued or owed (R160). -/
theorem Station.offerGrant_spec {s : Station} {x : Holder} (h : s.tt.holder = some x) :
    (∃ g r, s.offerGrant.tt = { s.tt with grantOwed := g, retryTime := r }) ∧
    (s.offerGrant.tt.grantOwed = true ∨ s.offerGrant.queues (.turnAnswer x.station .grant x.entryArm)) ∧
    (s.line.queue.length < 8 →
      s.offerGrant.tt.grantOwed = false ∧ s.offerGrant.queues (.turnAnswer x.station .grant x.entryArm)) := by
  rcases ho : s.offer (.turnAnswer x.station .grant x.entryArm) with ⟨t, b⟩
  have hu : s.offerGrant = t.withTt { t.tt with grantOwed := !b } := by
    unfold Station.offerGrant
    rw [h]
    dsimp only
    rw [ho]
  have htt := Station.tt_of_bare (Station.bare_of_offer ho)
  have htaken := Station.queues_taken (s := s) (f := .turnAnswer x.station .grant x.entryArm) fun _ => rfl
  have hroom := fun hq => Station.offer_room (s := s) (.turnAnswer x.station .grant x.entryArm) hq
  rw [ho] at htaken hroom
  rw [hu]
  refine ⟨⟨!b, t.tt.retryTime, ?_⟩, ?_, fun hq => ?_⟩
  · rw [htt]
    rfl
  · cases b with
    | false => exact .inl rfl
    | true => exact .inr (htaken rfl)
  · cases hroom hq
    exact ⟨rfl, s.queues_enqueue _ _⟩

/-- What offering the EXIT leaves (R163). -/
theorem Station.offerExit_spec {s : Station} {x : Holder} (h : s.tt.holder = some x) :
    (∃ (w : Station) (o : ExitOwed), s.offerExit = w.withTt { w.tt with exitOwed := o } ∧ w.bare = s.bare) ∧
    (s.line.queue.length < 8 →
      s.offerExit.tt.exitOwed = .none ∧ s.offerExit.queues (.turnAnswer x.station .exit x.exitArm)) ∧
    (8 ≤ s.line.queue.length → (∀ y ∈ s.line.queue, y.frame.prompt = true) →
      s.offerExit.tt.exitOwed = .toOffer ∧ s.offerExit.line = s.line) := by
  rcases ho : s.offer (.turnAnswer x.station .exit x.exitArm) with ⟨t, b⟩
  have hu : s.offerExit = t.withTt { t.tt with exitOwed := if b then .none else .toOffer } := by
    unfold Station.offerExit
    rw [h]
    dsimp only
    rw [ho]
  have hroom := fun hq => Station.offer_room (s := s) (.turnAnswer x.station .exit x.exitArm) hq
  have hfull := fun hq hp => Station.offer_full (s := s) (f := .turnAnswer x.station .exit x.exitArm) hq hp
  rw [ho] at hroom hfull
  rw [hu]
  refine ⟨⟨t, _, rfl, Station.bare_of_offer ho⟩, fun hq => ?_, fun hq hp => ?_⟩
  · cases hroom hq
    exact ⟨rfl, s.queues_enqueue _ _⟩
  · cases hfull hq (.inr fun y hy => .inl (hp y hy))
    exact ⟨rfl, rfl⟩

/-! ## Guards and rotation (R46, R158, R159) -/

/-- The guards that are not HELD (R158). -/
def Station.missingGuards (s : Station) : List Nat := s.guards.filter fun n => !s.claims.isHeld n

/-- Some peer lists a guard as held (R46). -/
def Station.guardListed (s : Station) : Prop :=
  ∃ n ∈ s.guards, ∃ p ∈ trackStations, (s.peer p).state ≠ .absent ∧ n ∈ (s.peer p).held.map (·.seg)

theorem Station.guardsHeld_iff_missing (s : Station) : s.guardsHeld = true ↔ s.missingGuards = [] := by
  unfold Station.guardsHeld Station.missingGuards
  rw [List.filter_eq_nil_iff, List.all_eq_true]
  simp

theorem Station.guardsFree_iff_listed (s : Station) : s.guardsFree = true ↔ ¬s.guardListed := by
  unfold Station.guardsFree Station.guardListed Station.holders
  simp only [List.all_eq_true, List.isEmpty_iff, List.filter_eq_nil_iff, Bool.and_eq_true, decide_eq_true_eq,
    List.any_eq_true, List.mem_map, not_exists, not_and]

theorem Station.startRotation_eq (s : Station) :
    s.startRotation = if s.guardsHeld = true ∧ s.guardsFree = true ∧ s.sensorOk = true then
      if s.inputs.rotationFault then s.deckFault .drive
      else s.withTt { s.tt with deck := .rotating, rotationTimer := some (s.ms + s.par.rotationTimeout * 1000) }
    else s := by
  unfold Station.startRotation
  simp only [Bool.and_eq_true, and_assoc]

theorem Station.claimGuards_held {s : Station} (h : s.missingGuards = []) : s.claimGuards = s.startRotation := by
  unfold Station.claimGuards
  exact if_pos (by rw [show s.guards.filter _ = [] from h]; rfl)

theorem Station.claimGuards_waits {s : Station} (h : s.missingGuards ≠ [])
    (hw : (∃ e ∈ s.claims.entries, e.purpose = .guard ∧ e.state = .listening) ∨
      ∃ t, s.tt.retryTime = some t ∧ s.ms < t) : s.claimGuards = s := by
  unfold Station.claimGuards
  dsimp only
  rw [if_neg (by rw [List.isEmpty_iff]; exact h)]
  split
  · rfl
  · next hl =>
    obtain hw | ⟨t, ht, hlt⟩ := hw
    · exact absurd (by simpa using hw) hl
    · refine if_pos ?_
      simp [Station.retryOver, ht, dueAt, hlt]

theorem Station.claimGuards_asks {s : Station} (h : s.missingGuards ≠ [])
    (hl : ∀ e ∈ s.claims.entries, ¬(e.purpose = .guard ∧ e.state = .listening))
    (ht : ∀ t, s.tt.retryTime = some t → t ≤ s.ms) :
    s.claimGuards = ((s.withTt { s.tt with retryTime := none }).claimGroup s.missingGuards .guard .turntable).1 := by
  unfold Station.claimGuards
  dsimp only
  rw [if_neg (by rw [List.isEmpty_iff]; exact h), if_neg (by simpa using hl), if_neg]
  · rfl
  · unfold Station.retryOver dueAt
    cases hr : s.tt.retryTime with
    | none => simp
    | some t => simp [ht t hr]

/-- What a claim for the guards leaves of the deck: target, purpose, holder, queue and arm, and CLAIMING too unless every
guard is HELD and free (R158, R159). -/
theorem Station.claimGuards_tt (s : Station) :
    (s.claimGuards.tt.aligned = s.tt.aligned ∧ s.claimGuards.tt.target = s.tt.target ∧
      s.claimGuards.tt.purpose = s.tt.purpose ∧ s.claimGuards.tt.holder = s.tt.holder ∧
      s.claimGuards.tt.queue = s.tt.queue) ∧
    (s.missingGuards ≠ [] ∨ s.guardListed → s.claimGuards.tt.deck = s.tt.deck) ∧
    (s.inputs.rotationFault = false → s.claimGuards.tt.reason = s.tt.reason ∧
      (s.claimGuards.tt.deck = s.tt.deck ∨ s.claimGuards.tt.deck = .rotating)) := by
  by_cases hm : s.missingGuards = []
  · rw [Station.claimGuards_held hm, Station.startRotation_eq]
    split
    · next h =>
      have hnot := not_or.2 ⟨fun h : s.missingGuards ≠ [] => h hm, s.guardsFree_iff_listed.1 h.2.1⟩
      split
      · next hf => exact ⟨⟨rfl, rfl, rfl, rfl, rfl⟩, fun h => absurd h hnot, fun h => by rw [hf] at h; exact nomatch h⟩
      · exact ⟨⟨rfl, rfl, rfl, rfl, rfl⟩, fun h => absurd h hnot, fun _ => ⟨rfl, .inr rfl⟩⟩
    · exact ⟨⟨rfl, rfl, rfl, rfl, rfl⟩, fun _ => rfl, fun _ => ⟨rfl, .inl rfl⟩⟩
  · have htt : ∃ r, s.claimGuards.tt = { s.tt with retryTime := r } := by
      by_cases hw : (∃ e ∈ s.claims.entries, e.purpose = .guard ∧ e.state = .listening) ∨
          ∃ t, s.tt.retryTime = some t ∧ s.ms < t
      · rw [Station.claimGuards_waits hm hw]
        exact ⟨s.tt.retryTime, rfl⟩
      · obtain ⟨hl, ht⟩ := not_or.1 hw
        rw [Station.claimGuards_asks hm (fun e he hc => hl ⟨e, he, hc⟩) fun t hr => not_lt.1 fun hlt => ht ⟨t, hr, hlt⟩]
        exact ⟨_, Station.tt_of_bare (Station.bare_claimGroup _ _ _ _)⟩
    obtain ⟨r, hr⟩ := htt
    rw [hr]
    exact ⟨⟨rfl, rfl, rfl, rfl, rfl⟩, fun _ => rfl, fun _ => ⟨rfl, .inl rfl⟩⟩

/-- What a guard claim that begins leaves of the deck (R158). -/
theorem Station.beginClaim_tt (s : Station) (arm : Nat) (p : RotationPurpose) :
    (s.beginClaim arm p).tt.target = some arm ∧ (s.beginClaim arm p).tt.purpose = p ∧
    (s.beginClaim arm p).tt.holder = s.tt.holder ∧ (s.beginClaim arm p).tt.queue = s.tt.queue ∧
    (s.beginClaim arm p).tt.aligned = s.tt.aligned ∧
    (s.missingGuards ≠ [] ∨ s.guardListed → (s.beginClaim arm p).tt.deck = .claiming) ∧
    (s.inputs.rotationFault = false → (s.beginClaim arm p).tt.reason = s.tt.reason ∧
      (s.beginClaim arm p).tt.deck ≠ .fault) := by
  obtain ⟨⟨halign, htarget, hpurpose, hholder, hqueue⟩, hdeck, hfault⟩ :=
    (s.withTt { s.tt with deck := .claiming, target := some arm, purpose := p }).claimGuards_tt
  refine ⟨htarget, hpurpose, hholder, hqueue, halign, hdeck, fun h => ?_⟩
  obtain ⟨hreason, hd⟩ := hfault h
  refine ⟨hreason, fun hf => ?_⟩
  obtain hd | hd := hd <;> exact nomatch hf.symm.trans hd

/-! ## Serving the queue (R157, R160) -/

theorem Station.serve_not {s : Station} (h : s.tt.queue = [] ∨ s.tt.grantHold = true ∨ s.line.fault = true ∨
    s.tt.releasePending = true) : s.serve = s := by
  unfold Station.serve
  split
  · rfl
  · next hq =>
    refine if_pos ?_
    rw [hq] at h
    simpa [or_assoc] using h

theorem Station.serve_head {s : Station} {r : Request} {rest : List Request} (hq : s.tt.queue = r :: rest)
    (hg : s.tt.grantHold = false) (hf : s.line.fault = false) (hp : s.tt.releasePending = false) :
    s.serve = if r.entryArm = s.tt.aligned then s.makeGrant r
      else if s.inputs.deckClear then s.beginClaim r.entryArm .entry else s := by
  unfold Station.serve
  rw [hq]
  exact if_neg (by simp [hg, hf, hp])

/-- A GRANT made to the queue head (R160). -/
theorem Station.makeGrant_spec (s : Station) (r : Request) :
    (∃ g t, (s.makeGrant r).tt = { s.tt with
      queue := s.tt.queue.tail, holder := some ⟨r.station, r.entryArm, r.exitArm⟩, aboard := false, clearHeard := false
      deck := .awaitEntry, entryTimer := some (s.ms + s.par.entryTimeout * 1000), grantOwed := g, retryTime := t }) ∧
    ((s.makeGrant r).tt.grantOwed = true ∨ (s.makeGrant r).queues (.turnAnswer r.station .grant r.entryArm)) ∧
    (s.line.queue.length < 8 → (s.makeGrant r).tt.grantOwed = false) := by
  obtain ⟨⟨g, t, htt⟩, howed, hroom⟩ := Station.offerGrant_spec (s := s.withTt { s.tt with
    queue := s.tt.queue.tail, holder := some ⟨r.station, r.entryArm, r.exitArm⟩, aboard := false, clearHeard := false
    deck := .awaitEntry, entryTimer := some (s.ms + s.par.entryTimeout * 1000) }) rfl
  exact ⟨⟨g, t, htt⟩, howed, fun hq => (hroom hq).1⟩

/-- What serving leaves of a deck just out of FAULT (R157, R166). -/
theorem Station.serve_unfaulted {s : Station} (hd : s.tt.deck = .idle) (hf : s.inputs.rotationFault = false) :
    s.serve.tt.deck ≠ .fault ∧ s.serve.tt.aligned = s.tt.aligned ∧ s.serve.tt.reason = s.tt.reason := by
  have hidle : s.tt.deck ≠ .fault := by
    rw [hd]
    decide
  by_cases hno : s.tt.queue = [] ∨ s.tt.grantHold = true ∨ s.line.fault = true ∨ s.tt.releasePending = true
  · rw [Station.serve_not hno]
    exact ⟨hidle, rfl, rfl⟩
  · simp only [not_or, Bool.not_eq_true] at hno
    obtain ⟨hq, hg, hl, hp⟩ := hno
    obtain ⟨r, rest, hq⟩ := List.exists_cons_of_ne_nil hq
    rw [Station.serve_head hq hg hl hp]
    split
    · obtain ⟨⟨g, t, htt⟩, -⟩ := s.makeGrant_spec r
      rw [htt]
      exact ⟨by simp, rfl, rfl⟩
    · split
      · obtain ⟨-, -, -, -, halign, -, hreason⟩ := s.beginClaim_tt r.entryArm .entry
        exact ⟨(hreason hf).2, halign, (hreason hf).1⟩
      · exact ⟨hidle, rfl, rfl⟩

/-! ## Reoffers (R160, R163) -/

theorem Station.reoffer_other {s : Station} (h1 : s.tt.deck ≠ .awaitEntry) (h2 : s.tt.deck ≠ .awaitExit) :
    s.reoffer = s := by
  unfold Station.reoffer
  split
  · next h => exact absurd h h1
  · next h => exact absurd h h2
  · rfl

theorem Station.reoffer_entry {s : Station} (h : s.tt.deck = .awaitEntry) :
    s.reoffer = if s.tt.grantOwed && !s.tt.aboard then s.offerGrant else s := by
  unfold Station.reoffer
  rw [h]

theorem Station.reoffer_exit {s : Station} (h : s.tt.deck = .awaitExit) :
    s.reoffer = match s.tt.exitOwed with
      | .none => s
      | .toMake => if s.tt.releasePending then s else s.makeExit
      | .toOffer => if s.tt.clearHeard then s else s.offerExit := by
  unfold Station.reoffer
  rw [h] <;> cases s.tt.exitOwed <;> rfl

/-- The deck but for its exit timer, and all else, as the station has it bare. -/
theorem Station.bare_exitTimer {s w : Station} {n : Option Nat} (h : w.bare = (s.withTt { s.tt with exitTimer := n }).bare) :
    (w.withTt { w.tt with exitTimer := s.tt.exitTimer }).bare = s.bare :=
  congrArg (fun y : Station => y.withTt { y.tt with exitTimer := s.tt.exitTimer }) h

/-- In AWAIT-EXIT a reoffer touches of the deck only what is owed and the exit timer (R163). -/
theorem Station.reoffer_exit_keeps {s : Station} {x : Holder} (h : s.tt.deck = .awaitExit) (hx : s.tt.holder = some x) :
    ∃ (w : Station) (o : ExitOwed) (t : Option Nat), s.reoffer = w.withTt { w.tt with exitOwed := o, exitTimer := t } ∧
      w.bare = s.bare := by
  rw [Station.reoffer_exit h]
  split
  · exact ⟨s, _, _, rfl, rfl⟩
  · split
    · exact ⟨s, _, _, rfl, rfl⟩
    · obtain ⟨⟨w, o, hw, hb⟩, -⟩ := Station.offerExit_spec (s := s.withTt
        { s.tt with exitTimer := some (s.ms + s.par.exitTimeout * 1000) }) hx
      exact ⟨w.withTt { w.tt with exitTimer := s.tt.exitTimer }, o, w.tt.exitTimer, hw, Station.bare_exitTimer hb⟩
  · split
    · exact ⟨s, _, _, rfl, rfl⟩
    · obtain ⟨⟨w, o, hw, hb⟩, -⟩ := Station.offerExit_spec hx
      exact ⟨w, o, w.tt.exitTimer, hw, hb⟩

/-- What the turntable knows of its holder is no matter of what it owes (R164). -/
theorem Station.holderGone_iff {s : Station} {x : Holder} (hx : s.tt.holder = some x) : s.holderGone = true ↔
    s.tt.clearHeard = true ∨ ¬∃ n, s.map.deckSegment s.par.turntable = some n ∧
      (s.peer x.station).occupies s.map n = true := by
  unfold Station.holderGone Station.holderIn
  rw [Bool.or_eq_true, hx]
  refine or_congr Iff.rfl ?_
  cases s.map.deckSegment s.par.turntable <;> simp

/-- Where no release is pending and the deck neither awaits nor is in FAULT, an evaluation begins with the deck as it is. -/
theorem Station.untouched {v : Station} (hp : v.tt.releasePending = false) (h1 : v.tt.deck ≠ .awaitEntry)
    (h2 : v.tt.deck ≠ .awaitExit) (h3 : v.tt.deck ≠ .fault) : v.releaseDone.reoffer.selfClear = v := by
  rw [Station.releaseDone_none hp, Station.reoffer_other h1 h2, Station.selfClear_not (.inl h3)]

/-- In AWAIT-EXIT (R163, R164). -/
theorem Station.ttEval_exit {v : Station} {x : Holder} (h : v.turning = true) (hd : v.tt.deck = .awaitExit)
    (hx : v.tt.holder = some x) :
    (∃ (w : Station) (o : ExitOwed) (t : Option Nat) (p : Bool),
      v.releaseDone.reoffer = w.withTt { w.tt with exitOwed := o, exitTimer := t, releasePending := p } ∧ w.bare = v.bare) ∧
    v.ttEval = if v.inputs.deckClear && v.holderGone then v.releaseDone.reoffer.deckIdle else v.releaseDone.reoffer := by
  obtain ⟨p, hp, -⟩ := v.releaseDone_eq
  obtain ⟨w, o, t, hreoffer, hb⟩ := Station.reoffer_exit_keeps (s := v.releaseDone) (x := x)
    (by rw [hp]; exact hd) (by rw [hp]; exact hx)
  have hz : ∃ (z : Station) (q : Bool), v.releaseDone.reoffer =
      z.withTt { z.tt with exitOwed := o, exitTimer := t, releasePending := q } ∧ z.bare = v.bare := by
    refine ⟨w.withTt { w.tt with releasePending := v.tt.releasePending }, w.tt.releasePending, hreoffer, ?_⟩
    rw [hp] at hb
    exact congrArg (fun y : Station => y.withTt { y.tt with releasePending := v.tt.releasePending }) hb
  obtain ⟨z, q, hw, hbw⟩ := hz
  have hkeep := fun {α : Type} (g : Station → α) hg => Station.field_of_bare g hg hbw
  have hdeck : v.releaseDone.reoffer.tt.deck = .awaitExit := by
    rw [hw]
    exact (hkeep (·.tt.deck) fun _ => rfl).trans hd
  have hself : v.releaseDone.reoffer.selfClear = v.releaseDone.reoffer :=
    Station.selfClear_not (.inl (by rw [hdeck]; decide))
  have hclear : v.releaseDone.reoffer.inputs.deckClear = v.inputs.deckClear := by
    rw [hw]
    exact hkeep (·.inputs.deckClear) fun _ => rfl
  have hgone : v.releaseDone.reoffer.holderGone = v.holderGone := by
    rw [hw]
    exact hkeep (·.holderGone) fun _ => rfl
  refine ⟨⟨z, o, t, q, hw, hbw⟩, ?_⟩
  rw [Station.ttEval_eq h hself, hdeck]
  dsimp only
  rw [hclear, hgone]

/-- A deck without a holder that leaves FAULT is IDLE at the arm reported, with its guards asked back (R166). -/
theorem Station.leaveFault_free {w : Station} {a : Nat} (hh : w.tt.holder = none) :
    (w.leaveFault a).tt.deck = .idle ∧ (w.leaveFault a).tt.holder = none ∧ (w.leaveFault a).tt.aligned = a ∧
    (w.leaveFault a).tt.reason = .none ∧ (w.leaveFault a).tt.target = none ∧ (w.leaveFault a).tt.purpose = .none ∧
    (w.leaveFault a).tt.queue = w.tt.queue ∧ (w.leaveFault a).inputs.rotationFault = w.inputs.rotationFault ∧
    (w.claims.bounded → ∀ e ∈ w.claims.entries, e.purpose = .guard → e.state = .held →
      w.released (w.leaveFault a) e.seg) := by
  obtain ⟨r, p, htt⟩ := w.guardsBack_tt a
  have hidle : w.leaveFault a = (w.guardsBack a).deckIdle := by
    rw [Station.leaveFault_eq]
    exact ((w.guardsBack a).byTable_spec a).1 (by rw [htt]; exact hh)
  set y := w.withTt { w.tt with aligned := a, reason := .none, target := none, purpose := .none } with hy
  have hback : ∀ z : Station, z.releaseGuards.inputs.rotationFault = z.inputs.rotationFault := fun z =>
    have hz := fun l => Station.field_of_bare (·.inputs.rotationFault) (fun _ => rfl) (z.bare_releaseAll l)
    hz _
  have hfault : (w.guardsBack a).inputs.rotationFault = w.inputs.rotationFault := hback y
  refine ⟨?_, ?_, ?_, ?_, ?_, ?_, ?_, ?_, fun hb e he hg hs => ?_⟩ <;> rw [hidle] <;> unfold Station.deckIdle
  · rfl
  · rfl
  iterate 5 rw [Station.withTt_tt, htt]
  · exact hfault
  · exact (Station.released_congr rfl rfl e.seg).2 (Station.releaseGuards_spec (s := y) hb.2.1 he hs hg).1

/-- Settles O38: the parts of an evaluation that its deck state lets act. -/
theorem turntableServesItsQueue : Obligations.TurntableServesItsQueue := by
  refine ⟨fun dt s hon hdue => ?_, fun v hturn => ?_⟩
  · dsimp only [exec, execTurntableEvaluationTimer]
    rw [State.onTimer_due _ _ _ _ _ hon hdue]
    rfl
  · intro u missing listed
    refine ⟨fun hd hp => ?_, fun hd hp ho => ?_, fun hd hp => ?_, fun x hd hp hx => ?_, fun x hd hx => ?_,
      fun x hd hx => ?_, fun hd => ?_⟩
    · have hu : u = v.serve := by
        have h := Station.ttEval_eq hturn
          (Station.untouched hp (by rw [hd]; decide) (by rw [hd]; decide) (by rw [hd]; decide))
        rwa [hd] at h
      refine ⟨fun h => ?_, fun r rest hq hg hf => ?_⟩
      · rw [hu]
        exact Station.serve_not (by tauto)
      · rw [Station.serve_head hq hg hf hp] at hu
        refine ⟨fun he => ?_, fun he hc => ?_, fun he hc => ?_⟩
        · rw [if_pos he] at hu
          obtain ⟨⟨g, t, htt⟩, howed, hroom⟩ := v.makeGrant_spec r
          rw [hu]
          refine ⟨?_, ?_, ?_, ?_, ?_, ?_, howed, hroom⟩ <;> rw [htt]
          rw [hq]
          rfl
        · rw [if_neg he, if_neg (by simp [hc])] at hu
          exact hu
        · rw [if_neg he, if_pos hc] at hu
          obtain ⟨htarget, hpurpose, -, hqueue, -, hdeck, -⟩ := v.beginClaim_tt r.entryArm .entry
          rw [hu]
          exact ⟨rfl, htarget, hpurpose, hqueue, hdeck⟩
    · have hrel : v.releaseDone.reoffer.selfClear = v := by
        rw [Station.releaseDone_open ho, Station.reoffer_other (by rw [hd]; decide) (by rw [hd]; decide),
          Station.selfClear_not (.inl (by rw [hd]; decide))]
      have h := Station.ttEval_eq hturn hrel
      rw [hd] at h
      exact h.trans (Station.serve_not (.inr (.inr (.inr hp))))
    · have hu : u = v.claimGuards := by
        have h := Station.ttEval_eq hturn
          (Station.untouched hp (by rw [hd]; decide) (by rw [hd]; decide) (by rw [hd]; decide))
        rwa [hd] at h
      have hsensor : v.sensorOk = true ↔ (v.tt.purpose = .entry ∧ v.inputs.deckClear = true) ∨
          (v.tt.purpose = .exit ∧ v.inputs.deckCentred = true) := by
        unfold Station.sensorOk
        cases v.tt.purpose <;> simp
      have hlisted : v.guardsFree = true ↔ ¬listed := v.guardsFree_iff_listed
      have hstart := v.startRotation_eq
      refine ⟨fun hm hl hs => ?_, fun hm hno => ?_, fun hm hw => ?_, fun hm hl ht => ?_⟩
      · rw [Station.claimGuards_held hm, hstart,
          if_pos ⟨v.guardsHeld_iff_missing.2 hm, hlisted.2 hl, hsensor.2 hs⟩] at hu
        cases hf : v.inputs.rotationFault with
        | true =>
          rw [hf] at hu
          exact hu
        | false =>
          rw [hf] at hu
          have hu : u = v.withTt { v.tt with
            deck := .rotating, rotationTimer := some (v.ms + v.par.rotationTimeout * 1000) } := hu
          refine ⟨hu, ?_⟩
          rw [hu]
          exact if_pos (by rw [Bool.and_eq_true]; exact ⟨hturn, by simp⟩)
      · rw [Station.claimGuards_held hm, hstart, if_neg] at hu
        · exact hu
        · rintro ⟨-, hfree, hok⟩
          rcases hno with h | ⟨h1, h2⟩ | ⟨h1, h2⟩
          · exact hlisted.1 hfree h
          · unfold Station.sensorOk at hok
            rw [h1] at hok
            exact nomatch h2.symm.trans hok
          · unfold Station.sensorOk at hok
            rw [h1] at hok
            exact nomatch h2.symm.trans hok
      · rw [hu]
        exact Station.claimGuards_waits hm hw
      · rw [hu]
        exact Station.claimGuards_asks hm hl ht
    · have hu : u = if v.line.fault then v else v.beginClaim x.exitArm .exit := by
        have h := Station.ttEval_eq hturn
          (Station.untouched hp (by rw [hd]; decide) (by rw [hd]; decide) (by rw [hd]; decide))
        rw [hd] at h
        dsimp only at h
        rwa [hx] at h
      refine ⟨fun hf => ?_, fun hf => ?_⟩
      · rw [hf] at hu
        exact hu
      · rw [hf] at hu
        have hu : u = v.beginClaim x.exitArm .exit := hu
        obtain ⟨htarget, hpurpose, hholder, -, -, hdeck, -⟩ := v.beginClaim_tt x.exitArm .exit
        rw [hu]
        exact ⟨rfl, htarget, hpurpose, hholder.trans hx, hdeck⟩
    · intro onDeck
      obtain ⟨⟨w, o, t, p, hw, hb⟩, hu⟩ := Station.ttEval_exit hturn hd hx
      have hkeep := fun {α : Type} (g : Station → α) hg => Station.field_of_bare g hg hb
      have hgone : v.holderGone = true ↔ v.tt.clearHeard = true ∨ ¬onDeck := Station.holderGone_iff hx
      refine ⟨fun hc hg => ?_, fun hno => ?_⟩
      · have hu : u = v.releaseDone.reoffer.deckIdle := hu.trans (if_pos (by rw [hc, hgone.2 hg]; rfl))
        rw [hu, hw]
        exact ⟨rfl, rfl, rfl, rfl, rfl, rfl, hkeep (·.tt.aligned) fun _ => rfl, hkeep (·.tt.queue) fun _ => rfl⟩
      · have hu : u = v.releaseDone.reoffer := hu.trans (if_neg fun hc => by
          simp only [Bool.and_eq_true] at hc
          obtain h | ⟨h1, h2⟩ := hno
          · exact nomatch h.symm.trans hc.1
          · exact (hgone.1 hc.2).elim (fun h => nomatch h1.symm.trans h) fun h => h h2)
        have hreoffer : v.tt.releasePending = false ∨ v.guardReleaseOpen = true → u = v.reoffer := fun h => by
          rw [hu]
          obtain h | h := h
          · rw [Station.releaseDone_none h]
          · rw [Station.releaseDone_open h]
        have hexit := Station.reoffer_exit hd
        refine ⟨?_, ?_, ?_, ?_, fun ho hp hg => ?_, fun ho hp hq => ?_, fun ho hc => ?_, fun ho hc hp => ?_, fun ho hp => ?_⟩
        · rw [hu, hw]
          exact (hkeep (·.tt.deck) fun _ => rfl).trans hd
        · rw [hu, hw]
          exact (hkeep (·.tt.holder) fun _ => rfl).trans hx
        · rw [hu, hw]
          exact hkeep (·.tt.clearHeard) fun _ => rfl
        · rw [hu, hw]
          exact hkeep (·.tt.faultExit) fun _ => rfl
        · rw [ho] at hexit
          exact (hreoffer (.inr hg)).trans (hexit.trans (if_pos hp))
        · rw [ho] at hexit
          have hmake : u = v.makeExit := (hreoffer (.inl hp)).trans (hexit.trans (if_neg (by simp [hp])))
          obtain ⟨⟨y, o', hy, hyb⟩, hroom, -⟩ := Station.offerExit_spec (s := v.withTt
            { v.tt with exitTimer := some (v.ms + v.par.exitTimeout * 1000) }) hx
          have hmk : v.makeExit = y.withTt { y.tt with exitOwed := o' } := hy
          rw [hmake]
          refine ⟨(hroom hq).2, (hroom hq).1, ?_⟩
          rw [hmk]
          exact Station.field_of_bare (·.tt.exitTimer) (fun _ => rfl) hyb
        · have heq : u.tt.exitTimer = v.tt.exitTimer ∧ (v.line.queue.length < 8 →
              u.tt.exitOwed = .none ∧ u.queues (.turnAnswer x.station .exit x.exitArm)) ∧
              (8 ≤ v.line.queue.length → (∀ y ∈ v.line.queue, y.frame.prompt = true) →
                u.tt.exitOwed = .toOffer ∧ u.line = v.line) := by
            obtain ⟨p', hp', -⟩ := v.releaseDone_eq
            have hexit' := Station.reoffer_exit (s := v.releaseDone) (by rw [hp']; exact hd)
            have hu' : u = (v.withTt { v.tt with releasePending := p' }).offerExit := by
              rw [hu, hexit', hp']
              dsimp only [Station.withTt_tt]
              rw [ho]
              exact if_neg (by simp [hc])
            obtain ⟨⟨y, o', hy, hyb⟩, hroom, hfull⟩ := Station.offerExit_spec
              (s := v.withTt { v.tt with releasePending := p' }) hx
            rw [← hu'] at hroom hfull hy
            refine ⟨?_, hroom, hfull⟩
            rw [hy]
            have hty := Station.field_of_bare (·.tt.exitTimer) (fun _ => rfl) hyb
            exact hty
          obtain ⟨htimer, hroom, hfull⟩ := heq
          exact ⟨htimer, fun hq => (hroom hq).symm, hfull⟩
        · rw [ho] at hexit
          exact (hreoffer (.inl hp)).trans (hexit.trans (if_pos hc))
        · rw [ho] at hexit
          exact (hreoffer (.inl hp)).trans hexit
    · obtain ⟨p, hp, hpf, -⟩ := v.releaseDone_eq
      have hentry := Station.reoffer_entry (s := v.releaseDone) (by rw [hp]; exact hd)
      have hself : ∀ w : Station, w.tt.deck = .awaitEntry → v.releaseDone.reoffer = w → u = w := fun w hw hr => by
        have h := Station.ttEval_eq (w := w) hturn (by rw [hr, Station.selfClear_not (.inl (by rw [hw]; decide))])
        rwa [hw] at h
      have hx' : (v.withTt { v.tt with releasePending := p }).tt.holder = some x := hx
      obtain ⟨⟨g, r, htt⟩, -, hroom⟩ := Station.offerGrant_spec hx'
      rw [hp] at hentry
      by_cases hg : v.tt.grantOwed = true ∧ v.tt.aboard = false
      · have hr : v.releaseDone.reoffer = (v.withTt { v.tt with releasePending := p }).offerGrant := by
          rw [hp, hentry]
          exact if_pos (by simp [hg])
        have hu := hself _ (by rw [htt]; exact hd) hr
        rw [hu]
        refine ⟨by rw [htt]; exact hd, by rw [htt]; exact hx, by rw [htt]; rfl, fun _ _ hq => (hroom hq).symm, fun h => ?_⟩
        exact nomatch h.symm.trans hg.1
      · have hr : v.releaseDone.reoffer = v.withTt { v.tt with releasePending := p } := by
          rw [hp, hentry]
          exact if_neg (by simpa using hg)
        have hu := hself (v.withTt { v.tt with releasePending := p }) hd hr
        rw [hu]
        refine ⟨hd, hx, rfl, fun h1 h2 => absurd ⟨h1, h2⟩ hg, fun _ h => ?_⟩
        rw [hpf h, ← h]
        rfl
    · obtain ⟨p, hp, hpf, -⟩ := v.releaseDone_eq
      have hre : v.releaseDone.reoffer = v.withTt { v.tt with releasePending := p } := by
        rw [hp]
        exact Station.reoffer_other (by rw [Station.withTt_tt, hd]; decide) (by rw [Station.withTt_tt, hd]; decide)
      refine ⟨fun a hr hh hf ha => ?_, fun h => ?_⟩
      · set w := v.withTt { v.tt with releasePending := p } with hw
        obtain ⟨hidle, hholder, haligned, hreason, htarget, hpurpose, hqueue, hfault, hrel⟩ :=
          Station.leaveFault_free (w := w) (a := a) hh
        have hu : u = (w.leaveFault a).serve := by
          have h := Station.ttEval_eq (w := w.leaveFault a) hturn (by rw [hre]; exact Station.selfClear_now (v := w) hd hr hh hf ha)
          rwa [hidle] at h
        obtain ⟨h1, h2, h3⟩ := Station.serve_unfaulted hidle (hfault.trans hf)
        rw [hu]
        refine ⟨h1, h2.trans haligned, h3.trans hreason, fun hq => ?_⟩
        rw [Station.serve_not (.inl (hqueue.trans hq))]
        exact ⟨hidle, hholder, htarget, hpurpose, hrel⟩
      · have hself : v.releaseDone.reoffer.selfClear = v.withTt { v.tt with releasePending := p } := by
          rw [hre]
          exact Station.selfClear_not (.inr h)
        have hu : u = v.withTt { v.tt with releasePending := p } := by
          have h := Station.ttEval_eq hturn hself
          rwa [show (v.withTt { v.tt with releasePending := p }).tt.deck = .fault from hd] at h
        rw [hu]
        refine ⟨hd, rfl, fun h => ?_⟩
        rw [hpf h, ← h]
        rfl

end Sys2Proof.Machine
end


section
/-! PROOFS. Frames of every kind are read back from their bytes (O60). -/

namespace Sys2Proof.Machine

/-! ## Fields of a byte list -/

@[simp] theorem field_cons_succ (b : Byte) (l : List Byte) (i n : Nat) : field (b :: l) (i + 1) n = field l i n := rfl

@[simp] theorem byteAt_cons_succ (b : Byte) (l : List Byte) (i : Nat) : byteAt (b :: l) (i + 1) = byteAt l i := rfl

@[simp] theorem byteAt_cons_zero (b : Byte) (l : List Byte) : byteAt (b :: l) 0 = b.toNat := by
  simp [byteAt, field, number]

theorem field_append (l r : List Byte) (i n : Nat) : field (l ++ r) (l.length + i) n = field r i n := by
  unfold field
  rw [List.drop_append, List.drop_eq_nil_of_le (by omega), Nat.add_sub_cancel_left]
  rfl

theorem toNat_byteOf {n : Nat} (h : n < 256) : (byteOf n).toNat = n := by
  rw [BitVec.toNat_ofNat]
  exact Nat.mod_eq_of_lt h

theorem field_be16 {n : Nat} (h : n < 65536) (l : List Byte) :
    field (byteOf (n / 256) :: byteOf n :: l) 0 2 = n := by
  simp only [field, number, List.drop_zero, List.take_succ_cons, List.take_zero, List.foldl_cons, List.foldl_nil,
    BitVec.toNat_ofNat]
  omega

theorem field_be24 {n : Nat} (h : n < 16777216) (l : List Byte) :
    field (byteOf (n / 65536) :: byteOf (n / 256) :: byteOf n :: l) 0 3 = n := by
  simp only [field, number, List.drop_zero, List.take_succ_cons, List.take_zero, List.foldl_cons, List.foldl_nil,
    BitVec.toNat_ofNat]
  omega

/-- A chainage of 24 bits is read back from its two's complement. -/
theorem signed24_be24 {z : Int} (lo : -8388608 ≤ z) (hi : z < 8388608) (l : List Byte) :
    signed24 (field (byteOf ((z % 16777216).toNat / 65536) :: byteOf ((z % 16777216).toNat / 256) ::
      byteOf (z % 16777216).toNat :: l) 0 3) = z := by
  have h0 := Int.emod_nonneg z (show (16777216 : Int) ≠ 0 by decide)
  have h1 := Int.emod_lt_of_pos z (show (0 : Int) < 16777216 by decide)
  rw [field_be24 (by omega)]
  unfold signed24
  split <;> omega

/-! ## Bits of a byte -/

theorem boolBit_eq (b : Bool) (i : Nat) : boolBit b i = b.toNat * 2 ^ i := by
  cases b <;> simp [boolBit]

theorem bitAt_eq {n i : Nat} {b : Bool} (h : n / 2 ^ i % 2 = b.toNat) : bitAt n i = b := by
  unfold bitAt
  rw [h]
  cases b <;> rfl

theorem Dir.code_le (d : Dir) : d.code ≤ 1 := by cases d <;> decide

theorem Dir.ofBit_bitAt {n i : Nat} {d : Dir} (h : n / 2 ^ i % 2 = d.code) : Dir.ofBit (bitAt n i) = d := by
  unfold bitAt
  rw [h]
  cases d <;> rfl

theorem rankOfByte_rankByte {r : Rank} (h : r.wait < 16) : rankOfByte (rankByte r).toNat = r := by
  obtain ⟨w, c⟩ := r
  have hc := c.toNat_le
  have hn : (rankByte ⟨w, c⟩).toNat = w * 16 + c.toNat * 8 := by
    unfold rankByte
    rw [boolBit_eq]
    exact toNat_byteOf (by dsimp only at h ⊢; omega)
  rw [hn]
  exact congrArg₂ Rank.mk (by omega) (bitAt_eq (by omega))

theorem heldOfByte_byte {h : HeldItem} (hs : h.seg < 128) : heldOfByte (HeldItem.byte h).toNat = h := by
  obtain ⟨seg, y⟩ := h
  have hy := y.toNat_le
  have hn : (HeldItem.byte ⟨seg, y⟩).toNat = seg * 2 + y.toNat := by
    unfold HeldItem.byte
    rw [boolBit_eq, Nat.pow_zero, Nat.mul_one]
    exact toNat_byteOf (by dsimp only at hs ⊢; omega)
  rw [hn]
  exact congrArg₂ HeldItem.mk (by omega) (bitAt_eq (by omega))

/-! ## Eight slots -/

theorem slots_length (l : List Byte) : (slots l).length = 8 := by simp [slots]

/-- A list of up to eight bytes is the front of its slots. -/
theorem take_slots {l : List Byte} (h : l.length ≤ 8) (r : List Byte) : (slots l ++ r).take (min l.length 8) = l := by
  rw [Nat.min_eq_left h, List.take_append_of_le_length (by rw [slots_length]; exact h)]
  unfold slots
  rw [List.take_take, Nat.min_eq_left h, List.take_left]

theorem byteAt_slots (l r : List Byte) (i : Nat) : byteAt (slots l ++ r) (8 + i) = byteAt r i := by
  have h := field_append (slots l) r i 1
  rwa [slots_length] at h

theorem map_heldOfByte {l : List HeldItem} (h : ∀ x ∈ l, x.seg < 128) :
    (l.map HeldItem.byte).map (fun b => heldOfByte b.toNat) = l := by
  rw [List.map_map]
  exact (List.map_congr_left fun x hx => heldOfByte_byte (h x hx)).trans (List.map_id l)

theorem map_toNat_byteOf {l : List Nat} (h : ∀ n ∈ l, n < 256) : (l.map byteOf).map (fun b => b.toNat) = l := by
  rw [List.map_map]
  exact (List.map_congr_left fun n hn => toNat_byteOf (h n hn)).trans (List.map_id l)

/-! ## The packed bytes of the beacons -/

theorem stepsByte {c e : Nat} (d : Dir) (l : Bool) (hc : c < 8) (he : e < 8) :
    let n := (byteOf (c * 32 + e * 4 + d.code * 2 + boolBit l 0)).toNat
    n / 32 = c ∧ n / 4 % 8 = e ∧ Dir.ofBit (bitAt n 1) = d ∧ bitAt n 0 = l := by
  have hd := Dir.code_le d
  have hl := l.toNat_le
  rw [boolBit_eq, toNat_byteOf (by omega)]
  exact ⟨by omega, by omega, Dir.ofBit_bitAt (by omega), bitAt_eq (by omega)⟩

theorem flagsByte {w : Nat} (a b c d : Bool) (hw : w < 16) :
    let n := (byteOf (boolBit a 7 + boolBit b 6 + boolBit c 5 + boolBit d 4 + w)).toNat
    bitAt n 7 = a ∧ bitAt n 6 = b ∧ bitAt n 5 = c ∧ bitAt n 4 = d ∧ n % 16 = w := by
  have ha := a.toNat_le
  have hb := b.toNat_le
  have hc := c.toNat_le
  have hd := d.toNat_le
  simp only [boolBit_eq]
  rw [toNat_byteOf (by omega)]
  exact ⟨bitAt_eq (by omega), bitAt_eq (by omega), bitAt_eq (by omega), bitAt_eq (by omega), by omega⟩

/-- Two numbers of four bits in one byte. -/
theorem halvesByte {a b : Nat} (ha : a < 16) (hb : b < 16) :
    (byteOf (a * 16 + b)).toNat / 16 = a ∧ (byteOf (a * 16 + b)).toNat % 16 = b := by
  rw [toNat_byteOf (by omega)]
  omega

/-- The body of a carriage BEACON is read back. -/
theorem CarriageBeacon.decode_encode {b : CarriageBeacon} (h : CarriageBeacon.fits b = true) :
    CarriageBeacon.decode (CarriageBeacon.encode b) = b := by
  simp only [CarriageBeacon.fits, Bool.and_eq_true, decide_eq_true_eq, List.all_eq_true] at h
  obtain ⟨⟨⟨⟨⟨⟨⟨⟨⟨⟨⟨⟨⟨⟨⟨⟨⟨⟨hperiod, hline⟩, hdeck⟩, hlo⟩, hhi⟩, hu⟩, hhalf⟩, hcom⟩, heff⟩, hwait⟩, hcode⟩, hreason⟩, hnumber⟩,
    hcursor⟩, hlen⟩, hheld⟩, hhome⟩, hbad⟩, hresend⟩ := h
  obtain ⟨s1, s2, s3, s4⟩ := stepsByte b.dir b.loaded hcom heff
  obtain ⟨f1, f2, f3, f4, f5⟩ := flagsByte b.doubt b.clamped b.recovered b.fault hwait
  obtain ⟨c1, c2⟩ := halvesByte hcode hreason
  obtain ⟨l1, l2⟩ := halvesByte hcursor (show b.held.length < 16 by omega)
  have htake := take_slots (l := b.held.map HeldItem.byte) (by rw [List.length_map]; exact hlen)
    [byteOf b.home, byteOf b.badCount, byteOf b.resendCount]
  rw [List.length_map] at htake
  simp only [CarriageBeacon.decode, CarriageBeacon.encode, be16, be24Signed, be24, List.cons_append, List.nil_append,
    byteAt_cons_succ, field_cons_succ, byteAt_cons_zero, List.drop_succ_cons, List.drop_zero,
    field_be16 hperiod, field_be16 hu, field_be16 hhalf, field_be16 hnumber, signed24_be24 hlo hhi, toNat_byteOf hline,
    toNat_byteOf hdeck, s1, s2, s3, s4, f1, f2, f3, f4, f5, c1, c2, l1, l2, htake, map_heldOfByte hheld,
    byteAt_slots _ _ 0, byteAt_slots _ _ 1, byteAt_slots _ _ 2, toNat_byteOf hhome, toNat_byteOf hbad, toNat_byteOf hresend]

theorem placeByte {t a d : Nat} (ht : t < 4) (ha : a < 4) (hd : d < 16) :
    let n := (byteOf (t * 64 + a * 16 + d)).toNat
    n / 64 = t ∧ n / 16 % 4 = a ∧ n % 16 = d := by
  rw [toNat_byteOf (by omega)]
  omega

theorem deckFlagsByte {r : Nat} (a b c : Bool) (hr : r < 16) :
    let n := (byteOf (boolBit a 7 + boolBit b 6 + boolBit c 5 + r)).toNat
    bitAt n 7 = a ∧ bitAt n 6 = b ∧ bitAt n 5 = c ∧ n % 16 = r := by
  obtain ⟨h7, h6, h5, -, hlow⟩ := flagsByte a b c false hr
  exact ⟨h7, h6, h5, hlow⟩

/-- The body of a turntable BEACON is read back. -/
theorem TurntableBeacon.decode_encode {b : TurntableBeacon} (h : TurntableBeacon.fits b = true) :
    TurntableBeacon.decode (TurntableBeacon.encode b) = b := by
  simp only [TurntableBeacon.fits, Bool.and_eq_true, decide_eq_true_eq, List.all_eq_true] at h
  obtain ⟨⟨⟨⟨⟨⟨⟨⟨⟨⟨⟨hperiod, hturn⟩, haligned⟩, hdeck⟩, hholder⟩, hreason⟩, hqlen⟩, hqueue⟩, hlen⟩, hheld⟩, hbad⟩, hresend⟩ := h
  obtain ⟨p1, p2, p3⟩ := placeByte hturn haligned hdeck
  obtain ⟨f1, f2, f3, f4⟩ := deckFlagsByte b.clamped b.fault b.faultExit hreason
  obtain ⟨l1, l2⟩ := halvesByte (show b.queue.length < 16 by omega) (show b.held.length < 16 by omega)
  have hx : (byteOf (b.holder * 8)).toNat / 8 = b.holder := by
    rw [toNat_byteOf (by omega)]
    omega
  have htail := take_slots (l := b.held.map HeldItem.byte) (by rw [List.length_map]; exact hlen)
    [byteOf b.badCount, byteOf b.resendCount]
  have hhead := take_slots (l := b.queue.map byteOf) (by rw [List.length_map]; exact hqlen)
    (slots (b.held.map HeldItem.byte) ++ [byteOf b.badCount, byteOf b.resendCount])
  rw [List.length_map] at htail hhead
  have hdrop : ∀ r : List Byte, (slots (b.queue.map byteOf) ++ r).drop 8 = r := fun r => by
    rw [List.drop_append, slots_length, List.drop_eq_nil_of_le (by rw [slots_length])]
    rfl
  simp only [TurntableBeacon.decode, TurntableBeacon.encode, be16, List.cons_append, List.nil_append,
    List.append_assoc, byteAt_cons_succ, byteAt_cons_zero, List.drop_succ_cons, List.drop_zero, field_be16 hperiod, hx,
    p1, p2, p3, f1, f2, f3, f4, l1, l2, hhead, hdrop, htail, map_toNat_byteOf hqueue, map_heldOfByte hheld,
    byteAt_slots _ _ 8, byteAt_slots _ _ 9, byteAt_slots _ _ 0, byteAt_slots _ _ 1, toNat_byteOf hbad, toNat_byteOf hresend]

/-! ## Orders -/

theorem Leg.decode_encode {g : Leg} (h : Leg.fits g = true) :
    ∃ a b : Byte, Leg.encode g = [a, b] ∧ Leg.decode a.toNat b.toNat = g := by
  obtain ⟨line, dir, stop⟩ := g
  have hd := Dir.code_le dir
  simp only [Leg.fits, Bool.and_eq_true, decide_eq_true_eq] at h
  obtain ⟨hline, hstop⟩ := h
  cases stop with
  | target =>
    refine ⟨_, _, rfl, ?_⟩
    rw [toNat_byteOf (by dsimp only at hline ⊢; omega)]
    unfold Leg.decode
    dsimp only
    rw [Dir.ofBit_bitAt (d := dir) (by omega), bitAt_eq (b := false) (by simp only [Bool.toNat_false]; omega)]
    exact congrArg (Leg.mk · dir .target) (by omega)
  | turntable t e =>
    simp only [Bool.and_eq_true, decide_eq_true_eq] at hstop
    obtain ⟨ht, he⟩ := hstop
    refine ⟨_, _, rfl, ?_⟩
    rw [toNat_byteOf (by dsimp only at hline ⊢; omega), toNat_byteOf (by omega)]
    unfold Leg.decode
    dsimp only
    rw [Dir.ofBit_bitAt (d := dir) (by omega), bitAt_eq (b := true) (by simp only [Bool.toNat_true]; omega),
      if_pos rfl, Nat.mod_eq_of_lt he]
    rw [show (line * 32 + dir.code * 16 + 8 + t) / 32 = line by omega,
      show (line * 32 + dir.code * 16 + 8 + t) % 4 = t by omega]

/-- The legs of a route are two bytes each, and read back. -/
theorem decodeLegs_encode {legs : List Leg} (h : ∀ g ∈ legs, Leg.fits g = true) :
    ((legs.map Leg.encode).flatten).length = 2 * legs.length ∧ decodeLegs (legs.map Leg.encode).flatten = legs := by
  induction legs with
  | nil => exact ⟨rfl, rfl⟩
  | cons g rest ih =>
    obtain ⟨hlen, hrest⟩ := ih fun x hx => h x (List.mem_cons_of_mem _ hx)
    obtain ⟨a, b, henc, hg⟩ := Leg.decode_encode (h g List.mem_cons_self)
    rw [List.map_cons, List.flatten_cons, henc]
    refine ⟨?_, ?_⟩
    · simp only [List.length_append, List.length_cons, List.length_nil]
      omega
    · have hstep : ∀ l, decodeLegs ([a, b] ++ l) = Leg.decode a.toNat b.toNat :: decodeLegs l := fun _ => rfl
      rw [hstep, hg, hrest]

/-- A target is a form byte and three bytes of chainage. -/
theorem Target.decode_encode {t : Target} (h : Target.fits t = true) :
    ∃ a b c d : Byte, Target.encode t = [a, b, c, d] ∧ ∀ l, Target.decode a.toNat (field (b :: c :: d :: l) 0 3) = t := by
  cases t with
  | pad n =>
    simp only [Target.fits, decide_eq_true_eq] at h
    refine ⟨_, _, _, _, rfl, fun l => ?_⟩
    rw [toNat_byteOf (by omega)]
    unfold Target.decode
    rw [bitAt_eq (b := false) (by simp only [Bool.toNat_false]; omega), if_neg (by decide), Nat.mod_eq_of_lt h]
  | point line c =>
    simp only [Target.fits, Bool.and_eq_true, decide_eq_true_eq] at h
    obtain ⟨⟨hline, hlo⟩, hhi⟩ := h
    refine ⟨_, _, _, _, rfl, fun l => ?_⟩
    rw [toNat_byteOf (by omega)]
    unfold Target.decode
    rw [bitAt_eq (b := true) (by simp only [Bool.toNat_true]; omega), if_pos rfl, signed24_be24 hlo hhi,
      show (128 + line) % 8 = line by omega]

/-- A route is five bytes, then two for each leg, and reads back. -/
theorem RouteOrder.decode_encode {r : RouteOrder} (h : RouteOrder.fits r = true) (k : OrderKind) :
    (RouteOrder.encode r).length ≤ 59 ∧ OrderBody.decode k.code (RouteOrder.encode r) = some (.route k r) := by
  obtain ⟨target, legs⟩ := r
  simp only [RouteOrder.fits, Bool.and_eq_true, decide_eq_true_eq, List.all_eq_true] at h
  obtain ⟨⟨htarget, hcount⟩, hlegs⟩ := h
  obtain ⟨a, b, c, d, ht, hback⟩ := Target.decode_encode htarget
  obtain ⟨hlen, hdec⟩ := decodeLegs_encode hlegs
  have henc : RouteOrder.encode ⟨target, legs⟩ = a :: b :: c :: d :: byteOf legs.length ::
      (legs.map Leg.encode).flatten := by
    unfold RouteOrder.encode
    rw [ht]
    rfl
  have hbyte : (byteOf legs.length).toNat = legs.length := toNat_byteOf (by omega)
  rw [henc]
  refine ⟨?_, ?_⟩
  · simp only [List.length_cons]
    omega
  · cases k <;>
    · simp only [OrderBody.decode, OrderKind.code, byteAt_cons_succ, byteAt_cons_zero, field_cons_succ, hbyte,
        List.length_cons, hlen, List.drop_succ_cons, List.drop_zero, hback, hdec]
      exact if_pos (by simp; omega)

theorem OrderBody.decode_unknown {k : Nat} (h : k = 0 ∨ 8 < k) (l : List Byte) :
    OrderBody.decode k l = some (.unknown k) := by
  obtain rfl | h := h
  · rfl
  · obtain ⟨m, rfl⟩ := Nat.exists_eq_add_of_le' h
    rfl

/-- What follows the common part of an ORDER is read back. -/
theorem OrderBody.decode_encode {b : OrderBody} (h : OrderBody.fits b = true) :
    (OrderBody.encode b).length ≤ 59 ∧ b.kindCode < 256 ∧ OrderBody.decode b.kindCode (OrderBody.encode b) = some b := by
  cases b with
  | route k r =>
    obtain ⟨hlen, hdec⟩ := RouteOrder.decode_encode h k
    exact ⟨hlen, show k.code < 256 by cases k <;> decide, hdec⟩
  | halt => exact ⟨by decide, by decide, rfl⟩
  | resume => exact ⟨by decide, by decide, rfl⟩
  | cancel => exact ⟨by decide, by decide, rfl⟩
  | setPosition line c u =>
    simp only [OrderBody.fits, Bool.and_eq_true, decide_eq_true_eq] at h
    obtain ⟨⟨⟨hline, hlo⟩, hhi⟩, hu⟩ := h
    refine ⟨show 6 ≤ 59 by decide, show 7 < 256 by decide, ?_⟩
    simp only [OrderBody.decode, OrderBody.kindCode, OrderBody.encode, be16, be24Signed, be24, List.cons_append,
      List.nil_append, byteAt_cons_zero, field_cons_succ, toNat_byteOf hline, signed24_be24 hlo hhi, field_be16 hu]
    rfl
  | clearPeer p =>
    simp only [OrderBody.fits, decide_eq_true_eq] at h
    refine ⟨show 1 ≤ 59 by decide, show 8 < 256 by decide, ?_⟩
    simp only [OrderBody.decode, OrderBody.kindCode, OrderBody.encode, byteAt_cons_zero,
      toNat_byteOf (show p < 256 by omega), Nat.mod_eq_of_lt h]
    rfl
  | unknown k =>
    simp only [OrderBody.fits, Bool.and_eq_true, Bool.or_eq_true, decide_eq_true_eq] at h
    exact ⟨Nat.zero_le _, h.1, OrderBody.decode_unknown h.2 _⟩

/-! ## Every content -/

theorem Objection.ofCode_code (o : Objection) : Objection.ofCode o.code = some o ∧ o.code < 256 := by cases o <;> decide

theorem TurnAnswer.ofCode_code (a : TurnAnswer) : TurnAnswer.ofCode a.code = some a ∧ a.code < 256 := by
  cases a <;> decide

/-- A body is no longer than R176 lets it be. -/
theorem Content.length_encode {c : Content} (h : Content.fits c = true) : (Content.encode c).length ≤ 64 := by
  cases c with
  | carriageBeacon b => simp [Content.encode, CarriageBeacon.encode, be16, be24Signed, be24, slots_length]
  | turntableBeacon b => simp [Content.encode, TurntableBeacon.encode, be16, slots_length]
  | release segs =>
    simp only [Content.fits, Bool.and_eq_true, decide_eq_true_eq] at h
    simp only [Content.encode, List.length_cons, List.length_map]
    omega
  | order t n b =>
    simp only [Content.fits, Bool.and_eq_true, decide_eq_true_eq] at h
    have hlen := (OrderBody.decode_encode h.2).1
    simp only [Content.encode, be16, List.length_append, List.length_cons, List.length_nil]
    omega
  | claim | object | yieldAsk | turnAsk | turnAnswer | turnAboard | turnClear =>
    simp only [Content.encode, List.length_cons, List.length_nil]
    omega

/-- The role code of a sender of this content (R176). -/
def Content.roleOk (c : Content) (role : Nat) : Prop :=
  match c with
  | .carriageBeacon _ => role = 0
  | .turntableBeacon _ => role = 1
  | .order .. => role = 2
  | _ => role ≤ 1

/-- Every body is read back by its kind and its sender's role. -/
theorem Content.decode_encode {c : Content} {role : Nat} (h : Content.fits c = true) (hr : c.roleOk role) :
    Content.decode c.kind.code role (Content.encode c) = some c := by
  cases c with
  | carriageBeacon b =>
    have hlen : (CarriageBeacon.encode b).length = 28 := by
      simp [CarriageBeacon.encode, be16, be24Signed, be24, slots_length]
    change (if role = 0 then _ else _) = _
    rw [if_pos (show role = 0 from hr)]
    exact (if_pos hlen).trans (by rw [Content.encode, CarriageBeacon.decode_encode h])
  | turntableBeacon b =>
    have hlen : (TurntableBeacon.encode b).length = 24 := by
      simp [TurntableBeacon.encode, be16, slots_length]
    change (if role = 0 then _ else _) = _
    rw [if_neg (by rw [show role = 1 from hr]; decide)]
    exact (if_pos hlen).trans (by rw [Content.encode, TurntableBeacon.decode_encode h])
  | claim s t r =>
    simp only [Content.fits, Rank.fits, Bool.and_eq_true, decide_eq_true_eq] at h
    obtain ⟨⟨hs, ht⟩, hw⟩ := h
    simp only [Content.decode, Content.kind, FrameKind.code, Content.encode, byteAt_cons_succ, byteAt_cons_zero,
      toNat_byteOf hs, toNat_byteOf ht, rankOfByte_rankByte hw]
    rfl
  | object s k r c =>
    simp only [Content.fits, Rank.fits, Bool.and_eq_true, decide_eq_true_eq] at h
    obtain ⟨⟨hs, hw⟩, hc⟩ := h
    obtain ⟨hk, hk256⟩ := Objection.ofCode_code k
    simp only [Content.decode, Content.kind, FrameKind.code, Content.encode, byteAt_cons_succ, byteAt_cons_zero,
      toNat_byteOf hs, toNat_byteOf hk256, toNat_byteOf (show c < 256 by omega), hk, Nat.mod_eq_of_lt hc,
      rankOfByte_rankByte hw]
    rfl
  | release segs =>
    simp only [Content.fits, Bool.and_eq_true, decide_eq_true_eq, List.all_eq_true] at h
    obtain ⟨⟨hlo, hhi⟩, hsegs⟩ := h
    simp only [Content.decode, Content.kind, FrameKind.code, Content.encode, byteAt_cons_zero,
      toNat_byteOf (show segs.length < 256 by omega), List.length_cons, List.length_map, List.drop_succ_cons, List.drop_zero,
      map_toNat_byteOf hsegs]
    rw [if_pos (by simp; omega), if_pos (Nat.add_comm _ _)]
  | yieldAsk s d w =>
    simp only [Content.fits, Bool.and_eq_true, decide_eq_true_eq] at h
    obtain ⟨⟨hs, hd⟩, hw⟩ := h
    simp only [Content.decode, Content.kind, FrameKind.code, Content.encode, byteAt_cons_succ, byteAt_cons_zero,
      toNat_byteOf hs, toNat_byteOf (show d < 256 by omega), toNat_byteOf (show w * 16 < 256 by omega),
      Nat.mod_eq_of_lt hd, Nat.mul_div_cancel w (show 0 < 16 by decide)]
    rfl
  | order t n b =>
    simp only [Content.fits, Bool.and_eq_true, decide_eq_true_eq] at h
    obtain ⟨⟨ht, hn⟩, hb⟩ := h
    obtain ⟨-, hk, hdec⟩ := OrderBody.decode_encode hb
    simp only [Content.decode, Content.kind, FrameKind.code, Content.encode, be16, List.cons_append, List.nil_append,
      byteAt_cons_succ, byteAt_cons_zero, field_cons_succ, List.drop_succ_cons, List.drop_zero, List.length_cons,
      toNat_byteOf (show t < 256 by omega), Nat.mod_eq_of_lt ht, field_be16 hn, toNat_byteOf hk, hdec]
    exact if_pos (by omega)
  | turnAsk t e x =>
    simp only [Content.fits, Bool.and_eq_true, decide_eq_true_eq] at h
    obtain ⟨⟨ht, he⟩, hx⟩ := h
    simp only [Content.decode, Content.kind, FrameKind.code, Content.encode, byteAt_cons_succ, byteAt_cons_zero,
      toNat_byteOf ht, toNat_byteOf he, toNat_byteOf hx]
    rfl
  | turnAnswer a k m =>
    simp only [Content.fits, Bool.and_eq_true, decide_eq_true_eq] at h
    obtain ⟨ha, hm⟩ := h
    obtain ⟨hk, hk256⟩ := TurnAnswer.ofCode_code k
    simp only [Content.decode, Content.kind, FrameKind.code, Content.encode, byteAt_cons_succ, byteAt_cons_zero,
      toNat_byteOf (show a < 256 by omega), toNat_byteOf hk256, toNat_byteOf hm, hk, Nat.mod_eq_of_lt ha]
    rfl
  | turnAboard t =>
    simp only [Content.fits, decide_eq_true_eq] at h
    simp only [Content.decode, Content.kind, FrameKind.code, Content.encode, byteAt_cons_zero, toNat_byteOf h]
    rfl
  | turnClear t =>
    simp only [Content.fits, decide_eq_true_eq] at h
    simp only [Content.decode, Content.kind, FrameKind.code, Content.encode, byteAt_cons_zero, toNat_byteOf h]
    rfl

/-! ## The frame -/

/-- Operations, and no other role, sends orders. -/
theorem Content.order_iff_role {c : Content} {role : Nat} (h : c.roleOk role) : c.kind.code = 6 ↔ role = 2 := by
  cases c with
  | order => exact iff_of_true rfl h
  | carriageBeacon | turntableBeacon =>
    exact iff_of_false (fun hk => nomatch hk) (by rw [show role = _ from h]; decide)
  | claim | object | release | yieldAsk | turnAsk | turnAnswer | turnAboard | turnClear =>
    have hr : role ≤ 1 := h
    exact iff_of_false (fun hk => nomatch hk) (by omega)

theorem WireFrame.roleOk_of_fits {f : WireFrame} (h : f.fits = true) :
    1 ≤ f.src ∧ f.src ≤ 31 ∧ f.role ≤ 2 ∧ roleFits f.src f.role = true ∧ Content.fits f.content = true ∧
    f.content.roleOk f.role ∧ (f.content.kind.code = 6 ↔ 30 ≤ f.src) := by
  simp only [WireFrame.fits, Bool.and_eq_true, decide_eq_true_eq] at h
  obtain ⟨⟨⟨⟨hlo, hhi⟩, hrole⟩, hfits⟩, hkind⟩ := h
  have hroles : f.src ≤ 29 ∧ f.role ≤ 1 ∨ 30 ≤ f.src ∧ f.role = 2 := by
    unfold roleFits at hrole
    split at hrole <;> simp only [decide_eq_true_eq] at hrole <;> omega
  have hok : f.content.roleOk f.role := by
    unfold Content.roleOk
    cases hc : f.content <;> simpa [hc] using hkind
  refine ⟨hlo, hhi, by omega, hrole, hfits, hok, ?_⟩
  rw [Content.order_iff_role hok]
  omega

theorem crc_lt (l : List Byte) : crc l < 65536 := BitVec.isLt _

/-- A frame that its layout can hold passes every test of R176 and is read back. -/
theorem WireFrame.decode_encode {f : WireFrame} (h : f.fits = true) : WireFrame.decode f.encode = some f := by
  obtain ⟨hlo, hhi, hr2, hrole, hfits, hok, hkind⟩ := WireFrame.roleOk_of_fits h
  have hlen := Content.length_encode hfits
  have hcode : f.content.kind.code ≤ 10 := by cases f.content.kind <;> decide
  have hbody : f.encodeBody = byteOf (f.src * 8 + f.role * 2) :: byteOf (f.content.kind.code * 16) ::
      byteOf f.content.encode.length :: Content.encode f.content := rfl
  have htotal : f.encode.length = f.encodeBody.length + 2 := List.length_append
  have hlength : f.encodeBody.length = f.content.encode.length + 3 := by rw [hbody]; rfl
  have htake : f.encode.take (f.encode.length - 2) = f.encodeBody := by
    rw [htotal, Nat.add_sub_cancel]
    exact List.take_left
  have hcrc : field f.encode (f.encode.length - 2) 2 = crc f.encodeBody := by
    rw [htotal, Nat.add_sub_cancel]
    exact (field_append f.encodeBody (be16 (crc f.encodeBody)) 0 2).trans (field_be16 (crc_lt _) [])
  have h0 : byteAt f.encode 0 = f.src * 8 + f.role * 2 := (byteAt_cons_zero _ _).trans (toNat_byteOf (by omega))
  have h1 : byteAt f.encode 1 = f.content.kind.code * 16 := (byteAt_cons_zero _ _).trans (toNat_byteOf (by omega))
  have h2 : byteAt f.encode 2 = f.content.encode.length := (byteAt_cons_zero _ _).trans (toNat_byteOf (by omega))
  have hdrop : f.encodeBody.drop 3 = Content.encode f.content := rfl
  have hsrc : (f.src * 8 + f.role * 2) / 8 = f.src := by omega
  have hrole' : (f.src * 8 + f.role * 2) / 2 % 4 = f.role := by omega
  have hk : f.content.kind.code * 16 / 16 = f.content.kind.code := Nat.mul_div_cancel _ (by decide)
  unfold WireFrame.decode
  dsimp only
  rw [htake, hcrc, h0, h1, h2, hsrc, hrole', hk, htotal, hlength, hdrop, Content.decode_encode hfits hok, if_pos]
  · rfl
  · simp only [Bool.and_eq_true, decide_eq_true_eq, beq_iff_eq, decide_eq_decide]
    exact ⟨⟨⟨⟨⟨⟨by omega, trivial⟩, by omega⟩, hlen⟩, hlo⟩, hrole⟩, hkind⟩

/-- Settles O60: every part of a frame is read back, and the vectors are evaluated. -/
theorem framesDecodeAsEncoded : Obligations.FramesDecodeAsEncoded :=
  ⟨fun _ h => WireFrame.decode_encode h, by decide +kernel⟩

end Sys2Proof.Machine
end
